-- ==== Sys2Proof/Word.lean ====
section
/-!
DEFINITION. The words the FC32 passes over its link and the plainest arithmetic on them.
-/
namespace Sys2Proof

/-- One byte of a frame, a payload or a set (R198). -/
abbrev Byte := BitVec 8

/-- A panel id: an unsigned 16-bit number (R198). -/
abbrev PanelId := BitVec 16

end Sys2Proof
end

