-- ==== Sys2Proof/Syntax.lean ====
section
/-!
DEFINITION. The commands of the FC32: one constructor for each row of spec/opcode_table.json, and the small
types their operands are written in. A request row carries the tag byte and the payload bytes of its frame
(R190, R199); an event row carries what the event itself says (which sensor, which input, which level).
-/
namespace Sys2Proof

/-- The two measuring rolls, each with an encoder: E1 at the infeed, E2 at the outfeed (R25). -/
inductive Roll where
  | e1 | e2
  deriving DecidableEq, Repr

/-- The two mark sensors: M1 at the infeed, M2 at the outfeed (R45). -/
inductive Sensor where
  | m1 | m2
  deriving DecidableEq, Repr

/-- The two homes of the cross knife (R130). -/
inductive Home where
  | left | right
  deriving DecidableEq, Repr

/-- The two confirm inputs of the nip (R159). -/
inductive NipInput where
  | nipOpen | nipClosed
  deriving DecidableEq, Repr

/-- The inputs at the gate and the slitter: the position confirms of the gate, the down and up confirms of each
blade, and the inspect-reject input (R121, R123). -/
inductive StationInput where
  | gateDelivery
  | gateScrap
  | bladeDown (blade : Fin 6)
  | bladeUp (blade : Fin 6)
  | inspectReject
  deriving DecidableEq, Repr

/-- The reset kinds (R209). -/
inductive ResetKind where
  | powerOn | resetPin | linkBreak | supplyLow
  deriving DecidableEq, Repr

/-- A byte as the receiver takes it: its value, and whether its stop bit was at the mark level (R186, R187). -/
structure RxByte where
  value : Byte
  stopOk : Bool
  deriving DecidableEq, Repr

/-- The commands, one for each row of spec/opcode_table.json, in the table's order. -/
inductive Instr where
  -- Host requests (R192). `tag` and `payload` are those of the request frame.
  | sync (tag : Byte) (payload : List Byte)
  | status (tag : Byte) (payload : List Byte)
  | setAttention (tag : Byte) (payload : List Byte)
  | fetchEvents (tag : Byte) (payload : List Byte)
  | fetchDone (tag : Byte) (payload : List Byte)
  | plan (tag : Byte) (payload : List Byte)
  | cancel (tag : Byte) (payload : List Byte)
  | query (tag : Byte) (payload : List Byte)
  | thread (tag : Byte) (payload : List Byte)
  | run (tag : Byte) (payload : List Byte)
  | hold (tag : Byte) (payload : List Byte)
  | clear (tag : Byte) (payload : List Byte)
  | resume (tag : Byte) (payload : List Byte)
  | homeKnife (tag : Byte) (payload : List Byte)
  | teach (tag : Byte) (payload : List Byte)
  | setSpeed (tag : Byte) (payload : List Byte)
  | setHeat (tag : Byte) (payload : List Byte)
  | setRegister (tag : Byte) (payload : List Byte)
  | calRead (tag : Byte) (payload : List Byte)
  | calWrite (tag : Byte) (payload : List Byte)
  | unknownRequestKind (kind tag : Byte) (payload : List Byte)
  -- The link (R186 to R190).
  | frameReceived (bytes : List RxByte)
  | frameGap
  | replySent
  -- Resets (R209, R210). POWER_ON carries the strap inputs it reads (R208).
  | powerOn (blades : BitVec 3) (laminator baud : Bool)
  | resetPin
  | linkBreak
  | supplyLow
  | resetEnd
  -- Encoders, mark sensors and the M1 and M2 cursors.
  | encoderStep (roll : Roll) (a b : Bool)
  | barLeadingEdge (sensor : Sensor)
  | barTrailingEdge (sensor : Sensor)
  | barMaxExceeded (sensor : Sensor)
  | m1WindowExpiry
  | spliceHoldRelease
  | printSplice
  | webEndReport
  | teachSpanReached (sensor : Sensor)
  | teachTimeout (sensor : Sensor)
  | m2WindowExpiry
  -- The converter: the result of the conversion in progress.
  | conversionComplete (result : BitVec 10)
  -- The laminator.
  | settleTimer
  | idleTimer
  | dwellMark
  | dwellMax
  | nipTimeout
  | nipConfirm (input : NipInput)
  | nipConfirmLost (input : NipInput)
  | filmSplice
  | filmOut
  -- Line inputs and the drives.
  | stackFull
  | eStop
  | inDrive
  | outDrive
  | moveEnded
  | moveTimeout
  | tailOut
  | planStarved
  -- The knife station.
  | deviceConfirm (input : StationInput) (active : Bool)
  | gateTimeout
  | bladeTimeout (blade : Fin 6)
  | strokeComplete
  | knifeTimeout
  | homingComplete
  | homeSwitchChange (home : Home) (active : Bool)
  -- The calibration store.
  | calWriteComplete
  -- Inputs going back.
  | eStopRelease
  | inDriveClear
  | outDriveClear
  | filmOutClear
  | stackFullClear
  | webPresent
  | spliceInputClear
  | filmSpliceClear
  | receiveLineMark
  deriving DecidableEq, Repr

end Sys2Proof
end

