-- ==== Sys2Proof/Decode.lean ====
section
/-!
DEFINITION. The command that a word spells by the bits of spec/opcode_table.json. No row of the table gives bits (every row's fields are empty and none has a
fixed pattern), so no word spells a command.
-/
namespace Sys2Proof

/-- The command that the `nbits` bits of `w` spell: none, as the table gives no row any bits. -/
def decodeTableWord (_nbits _w : Nat) : Option Instr := none

end Sys2Proof
end

