-- ==== Sys2Proof/Machine/Arith.lean ====
section
/-!
DEFINITION. The arithmetic of the part: the rounding convention of every quotient (R65), clamping, and the coding of
numbers as little-endian bytes (R198), with the CRC of the link (R186).
-/
namespace Sys2Proof.Machine

/-- The quotient rounded to the nearest integer, halves away from zero (R65): formed from the magnitude of the dividend,
rounded up when the remainder is at least half the divisor, with the sign restored. The divisor is positive. -/
def roundDiv (n : Int) (d : Nat) : Int :=
  let q : Int := ((2 * n.natAbs + d) / (2 * d) : Nat)
  if n < 0 then -q else q

/-- The quotient of two natural numbers rounded up (R143). -/
def ceilDiv (n d : Nat) : Nat := (n + d - 1) / d

/-- `v` brought into [lo, hi]. -/
def clampInt (lo hi v : Int) : Int := if v < lo then lo else if hi < v then hi else v

/-- The low `n` bytes of a number, low byte first. -/
def leBytes : Nat → Nat → List Byte
  | 0, _ => []
  | n + 1, v => BitVec.ofNat 8 v :: leBytes n (v / 256)

/-- A signed number in `n` bytes, two's complement, low byte first (R198). -/
def intBytes (n : Nat) (v : Int) : List Byte := leBytes n (v % (256 ^ n : Nat)).toNat

/-- The unsigned number that bytes spell, low byte first. -/
def leNat : List Byte → Nat
  | [] => 0
  | b :: bs => b.toNat + 256 * leNat bs

/-- The signed number that bytes spell, two's complement, low byte first. -/
def leInt (bs : List Byte) : Int :=
  let u := leNat bs
  if 2 * u < 256 ^ bs.length then (u : Int) else (u : Int) - (256 ^ bs.length : Nat)

/-- One bit of the CRC: shift left, and subtract the polynomial x^16 + x^12 + x^5 + 1 when a one falls out (R186). -/
def crcBit (c : BitVec 16) : BitVec 16 := if c.msb then (c <<< 1) ^^^ 0x1021 else c <<< 1

/-- One byte into the CRC, most significant bit first (R186). -/
def crcByte (c : BitVec 16) (b : Byte) : BitVec 16 :=
  crcBit (crcBit (crcBit (crcBit (crcBit (crcBit (crcBit (crcBit (c ^^^ (b.zeroExtend 16 <<< 8)))))))))

/-- The CRC-16 of the link over some bytes: starts from 0xFFFF, nothing reflected, nothing inverted at the end (R186). -/
def crc16 (bs : List Byte) : BitVec 16 := bs.foldl crcByte 0xFFFF

/-- The two CRC bytes of a frame, low byte first (R199). -/
def crcBytes (c : BitVec 16) : List Byte := leBytes 2 c.toNat

end Sys2Proof.Machine
end

