-- ==== Sys2Proof/Config.lean ====
section
/-!
DEFINITION. What the model takes as fixed: the table of the 58 calibration entries (R203), and the values the spec
leaves open, which are constants without a body so that nothing can be proved of them.
-/
namespace Sys2Proof

/-- The calibration entries, in the order of their numbers 0 to 57 (R203). -/
inductive CalEntry where
  | e1Scale | e2Scale | dNip | dFixed | dMk | dSk
  | loopAt0 | loopAt1023 | loopEmptyBelow | loopNormalFrom | loopHighFrom | loopFullFrom
  | markMin | markMax | threshM1 | threshM2 | w1 | wSeek
  | wAcq | wTrk | spanMin | sMax | sInit | trackIn
  | trackOut | lockIn | lockOut | nLock | nCoast | nSeek
  | tailTol | stopMin | cutTol | rejectTol | backMax | cutMinSep
  | knifeTimeout | gateTimeout | bladeTimeout | nipTimeout | moveTimeout | dwellMark
  | dwellMax | tBand | tOver | standbyDrop | tIdle | settle
  | outRatio | spliceZone | grantDancer | grantTemp | grantLevel | inspectEnable
  | defaultLockMode | unplannedMax | teachSpan | contrastMin
  deriving DecidableEq, Repr

/-- One row of the table of R203: the entry's range and its default. -/
structure CalRow where
  lo : Int
  hi : Int
  default : Int
  deriving DecidableEq, Repr

/-- The ranges and defaults of R203. -/
def CalEntry.row : CalEntry → CalRow
  | .e1Scale => ⟨1000, 50000, 10000⟩
  | .e2Scale => ⟨1000, 50000, 10000⟩
  | .dNip => ⟨100000, 2000000, 450000⟩
  | .dFixed => ⟨500000, 20000000, 3200000⟩
  | .dMk => ⟨300000, 3000000, 1500000⟩
  | .dSk => ⟨50000, 400000, 200000⟩
  | .loopAt0 => ⟨0, 5000000, 400000⟩
  | .loopAt1023 => ⟨0, 10000000, 2400000⟩
  | .loopEmptyBelow => ⟨0, 10000000, 600000⟩
  | .loopNormalFrom => ⟨0, 10000000, 900000⟩
  | .loopHighFrom => ⟨0, 10000000, 1900000⟩
  | .loopFullFrom => ⟨0, 10000000, 2200000⟩
  | .markMin => ⟨500, 50000, 3000⟩
  | .markMax => ⟨500, 50000, 12000⟩
  | .threshM1 => ⟨0, 1023, 512⟩
  | .threshM2 => ⟨0, 1023, 512⟩
  | .w1 => ⟨1000, 200000, 20000⟩
  | .wSeek => ⟨1000, 500000, 60000⟩
  | .wAcq => ⟨1000, 200000, 15000⟩
  | .wTrk => ⟨500, 100000, 4000⟩
  | .spanMin => ⟨0, 5000000, 200000⟩
  | .sMax => ⟨1000, 30000, 15000⟩
  | .sInit => ⟨(-30000), 30000, 0⟩
  | .trackIn => ⟨0, 100000, 1000⟩
  | .trackOut => ⟨0, 100000, 2500⟩
  | .lockIn => ⟨0, 50000, 300⟩
  | .lockOut => ⟨0, 50000, 800⟩
  | .nLock => ⟨1, 15, 4⟩
  | .nCoast => ⟨1, 7, 2⟩
  | .nSeek => ⟨2, 15, 4⟩
  | .tailTol => ⟨0, 100000, 1500⟩
  | .stopMin => ⟨0, 5000000, 600000⟩
  | .cutTol => ⟨0, 10000, 500⟩
  | .rejectTol => ⟨0, 50000, 3000⟩
  | .backMax => ⟨0, 200000, 20000⟩
  | .cutMinSep => ⟨1000, 50000, 5000⟩
  | .knifeTimeout => ⟨100, 60000, 4000⟩
  | .gateTimeout => ⟨100, 60000, 1000⟩
  | .bladeTimeout => ⟨100, 60000, 1500⟩
  | .nipTimeout => ⟨100, 60000, 3000⟩
  | .moveTimeout => ⟨1000, 600000, 20000⟩
  | .dwellMark => ⟨0, 600000, 3000⟩
  | .dwellMax => ⟨0, 600000, 8000⟩
  | .tBand => ⟨0, 500, 50⟩
  | .tOver => ⟨20, 1000, 150⟩
  | .standbyDrop => ⟨0, 1400, 400⟩
  | .tIdle => ⟨0, 7200, 600⟩
  | .settle => ⟨0, 120, 60⟩
  | .outRatio => ⟨100, 250, 160⟩
  | .spliceZone => ⟨0, 2000000, 150000⟩
  | .grantDancer => ⟨1, 7, 4⟩
  | .grantTemp => ⟨1, 7, 1⟩
  | .grantLevel => ⟨1, 7, 2⟩
  | .inspectEnable => ⟨0, 1, 0⟩
  | .defaultLockMode => ⟨1, 2, 1⟩
  | .unplannedMax => ⟨100000, 100000000, 1000000⟩
  | .teachSpan => ⟨10000, 5000000, 200000⟩
  | .contrastMin => ⟨1, 1023, 80⟩

/-- All entries in the order of their numbers: entry `i` is at place `i` (R203). -/
def calEntries : List CalEntry :=
  [.e1Scale, .e2Scale, .dNip, .dFixed, .dMk, .dSk, .loopAt0, .loopAt1023,
    .loopEmptyBelow, .loopNormalFrom, .loopHighFrom, .loopFullFrom, .markMin, .markMax, .threshM1, .threshM2,
    .w1, .wSeek, .wAcq, .wTrk, .spanMin, .sMax, .sInit, .trackIn,
    .trackOut, .lockIn, .lockOut, .nLock, .nCoast, .nSeek, .tailTol, .stopMin,
    .cutTol, .rejectTol, .backMax, .cutMinSep, .knifeTimeout, .gateTimeout, .bladeTimeout, .nipTimeout,
    .moveTimeout, .dwellMark, .dwellMax, .tBand, .tOver, .standbyDrop, .tIdle, .settle,
    .outRatio, .spliceZone, .grantDancer, .grantTemp, .grantLevel, .inspectEnable, .defaultLockMode, .unplannedMax,
    .teachSpan, .contrastMin]

/-- The number of an entry (R203). -/
def CalEntry.index (e : CalEntry) : Nat := e.ctorIdx

/-- The entry of a number, absent above 57 (R203). -/
def CalEntry.ofIndex (i : Nat) : Option CalEntry := calEntries[i]?

/-- The defaults of all entries, in order. -/
def calDefaults : List Int := calEntries.map (fun e => e.row.default)

/-- A value lies within its entry's range (R203). -/
def CalEntry.inRange (e : CalEntry) (v : Int) : Bool := e.row.lo ≤ v && v ≤ e.row.hi

/-- The design revision number that SYNC reports (R193). The spec gives the part code but not this number:
an open value (log entry 3). -/
opaque Config.designRevision : Byte

/-- The predicted position of a mark while the unit holds neither an anchor nor a thread offset K. R67 says that the cursor
does not make such a prediction, so no rule gives it a value: an open value, reached in no run (log entry 4). -/
opaque Config.predictionWithoutReference : Int → Int

/-- The bytes of a number outside the range that its field on the link can carry. R198 gives the widths and no rule for such a number:
an open value (log entry 5). -/
opaque Config.outOfField : Nat → Int → Nat

end Sys2Proof
end

