-- ==== Sys2Proof/Machine/State.lean ====
section
/-!
DEFINITION. The state of the FC32 as plain data: every register, list, queue, timer, input level and output the spec
gives the part, block by block (00_scope.md, Blocks), the queue of waiting commands, and the machine right after reset.
The default values of the block structures are the values the chapters give for after a reset.
-/
namespace Sys2Proof.Machine

/-! ### Names of states, modes and codes, each list in the order the manual first gives it (R198) -/

/-- Line states (R167). -/
inductive LineState where
  | unthreaded | threaded | running | stopping | holding | faulted | eStopped | endOfWeb
  deriving DecidableEq, Repr

/-- Stop classes (R167). -/
inductive StopClass where
  | cycleEnd | controlled
  deriving DecidableEq, Repr

/-- Stop causes (R167). -/
inductive StopCause where
  | proof | stackFull | hold | filmOut | planStarved | webEnd
  deriving DecidableEq, Repr

/-- The twelve fault causes and ESTOP, in the order of the table of Faults (R179, R198). -/
inductive FaultCause where
  | encoder1 | encoder2 | dancer | tempSensor | overtemp | knifeTimeout | gateTimeout | bladeTimeout
  | nipTimeout | inDrive | outDrive | moveTimeout | estop
  deriving DecidableEq, Repr

/-- Panel kinds (R4). -/
inductive PanelKind where
  | product | leader
  deriving DecidableEq, Repr

/-- Panel states, in their order (R9 to R14). -/
inductive PanelState where
  | queued | infeed | atOutfeed | committed | cutting | done
  deriving DecidableEq, Repr

/-- Completion codes (R23), coded as R198 lists them. -/
inductive Completion where
  | delivered | partly | scrapped | aborted
  deriving DecidableEq, Repr

/-- The panel flags in the order of the table of R16. -/
inductive Flag where
  | leader | cancelled | unlocked | coastedM1 | coastedM2 | scaleFault | splice | filmSplice | dwell | cutOffPos
  | cutFault | merged | laneLate | recut | inspect | stretchLimit | short
  deriving DecidableEq, Repr

/-- The basis of a panel's outfeed length (R6). -/
inductive Basis where
  | nominal | m1 | m2
  deriving DecidableEq, Repr

/-- The two marks of a panel. -/
inductive Mark where
  | head | tail
  deriving DecidableEq, Repr

/-- Loop zones (R38). -/
inductive Zone where
  | empty | low | normal | high | full | unknown
  deriving DecidableEq, Repr

/-- The channels of the analog converter in visiting order (R33). -/
inductive Channel where
  | dancer | temp | level1 | level2
  deriving DecidableEq, Repr

/-- The bar state of a sensor (R46). A COUNTING bar holds its leading position, and whether it began before the
expectation now in force was taken up (`stale`; R53, R71). -/
inductive Bar where
  | none
  | counting (leading : Int) (stale : Bool)
  | ignoring
  deriving DecidableEq, Repr

/-- States of the M1 cursor (R50). -/
inductive M1State where
  | halted | idle | window | seek | spliceHold
  deriving DecidableEq, Repr

/-- States of the M2 cursor (R67). -/
inductive M2State where
  | halted | idle | await | window
  deriving DecidableEq, Repr

/-- Modes of the Registration Unit (R66). -/
inductive Mode where
  | seek | capture | follow
  deriving DecidableEq, Repr

/-- Lock modes (R66). -/
inductive LockMode where
  | auto | manual
  deriving DecidableEq, Repr

/-- The manual choice (R66). -/
inductive Choice where
  | capture | follow
  deriving DecidableEq, Repr

/-- Register states (R66). -/
inductive RegState where
  | inRegister | outOfRegister | none
  deriving DecidableEq, Repr

/-- Causes of a REGISTER event (R202). -/
inductive RegCause where
  | locked | error | coast | modeLeft | disturbance | host | thread | clear
  deriving DecidableEq, Repr

/-- Causes of a MODE event (R202). -/
inductive ModeCause where
  | seekMatch | trackIn | trackOut | coasts | seekCoasts | disturbance | overflow | host | thread | clear
  deriving DecidableEq, Repr

/-- Kinds of disturbance points (R82). -/
inductive PointKind where
  | printSplice | filmSplice | nipReclose | speedStep
  deriving DecidableEq, Repr

/-- States of a Cut Queue entry (R96). -/
inductive EntryState where
  | pending | active | settling | executing
  deriving DecidableEq, Repr

/-- Cycle states of the Knife Station (R112). -/
inductive Cycle where
  | idle | approach | correct | paused | preparing | stroke
  deriving DecidableEq, Repr

/-- Knife states (R112). -/
inductive KnifeState where
  | unhomed | homeL | homeR | traversingLR | traversingRL | homing
  deriving DecidableEq, Repr

/-- Positions of the delivery gate (R112). -/
inductive GatePos where
  | delivery | scrap
  deriving DecidableEq, Repr

/-- Kinds of outfeed move (R139). -/
inductive MoveKind where
  | forward | reverse | stopNow
  deriving DecidableEq, Repr

/-- Owners of an outfeed move (R139). -/
inductive Owner where
  | station | free
  deriving DecidableEq, Repr

/-- What a move is for, which decides its speed (R140). -/
inductive Purpose where
  | approach | freeRun | creep
  deriving DecidableEq, Repr

/-- States of the end-of-web sequence (R146 to R148). -/
inductive WebSeq where
  | none | feedingOut | draining | finishing
  deriving DecidableEq, Repr

/-- Heat states (R152). -/
inductive Heat where
  | off | warming | ready | standby
  deriving DecidableEq, Repr

/-- Nip states (R159). -/
inductive Nip where
  | opened | closing | closed | opening
  deriving DecidableEq, Repr

/-- Results of a teach (R63, R64). -/
inductive TeachResult where
  | taught | lowContrast | timeout | aborted
  deriving DecidableEq, Repr

/-- Reply statuses with their values (R191). -/
inductive Status where
  | ok | okClamped | badRequest | notSynced | badState | busy | noCredit | duplicateId | badPlan | unknownId
  | badValue | unfitted
  deriving DecidableEq, Repr

/-! ### Records shared by several blocks -/

/-- A panel named as itself: its id, and the number of its acceptance, which tells it from a later panel with the
same id (R50, R67). -/
structure PanelRef where
  serial : Nat
  id : PanelId
  deriving DecidableEq, Repr

/-- A mark coordinate with its coasted marker (R5). -/
structure Coord where
  pos : Int
  coasted : Bool
  deriving DecidableEq, Repr

/-- An outfeed length with its basis (R6). -/
structure Length2 where
  len : Int
  basis : Basis
  deriving DecidableEq, Repr

/-- A panel record (chapter 1, The panel record). `serial` is the model's own. -/
structure Panel where
  serial : Nat
  id : PanelId
  kind : PanelKind
  proof : Bool
  lNom : Int
  gNom : Int
  lanes : Byte
  cuts : List Int
  state : PanelState := .queued
  aHead : Option Coord := none
  aTail : Option Coord := none
  bHead : Option Coord := none
  bTail : Option Coord := none
  l2 : Option Length2 := none
  triggers : Option (List Int) := none
  cutsDone : Nat := 0
  delivered : Nat := 0
  scrapped : Nat := 0
  flags : List Flag := []
  scaleRejecting : Bool := false
  completion : Option Completion := none
  deriving DecidableEq, Repr

/-- The last-plan record (R19). -/
structure LastPlan where
  lNom : Int
  lastCut : Int
  deriving DecidableEq, Repr

/-- A position watch (R31): its limit, whether it was set at or beyond the limit (it then fires at the next step forward),
and whether it has fired and waits for its owner's step. -/
structure Watch where
  limit : Int
  beyond : Bool := false
  due : Bool := false
  deriving DecidableEq, Repr

/-- A running timer: the time it started and its length, in ms. -/
structure Timer where
  start : Nat
  limit : Nat
  deriving DecidableEq, Repr

/-- Every position watch of the part, by its owner (R31). M1 window, hold and starvation watches pass on P1, tail-out
reaches on P1, the M2 window passes on P2; bar and teach watches are on their sensor's own roll. -/
structure Watches where
  m1Window : Option Watch := none
  hold : Option Watch := none
  tailOut : Option Watch := none
  starve : Option Watch := none
  bar1 : Option Watch := none
  teach1 : Option Watch := none
  m2Window : Option Watch := none
  bar2 : Option Watch := none
  teach2 : Option Watch := none
  deriving DecidableEq, Repr

/-! ### The blocks -/

/-- The levels standing on the part's inputs. A level changes by the command that reports it. -/
structure Inputs where
  e1A : Bool := false
  e1B : Bool := false
  e2A : Bool := false
  e2B : Bool := false
  dark1 : Bool := false
  dark2 : Bool := false
  web1 : Bool := true
  splice : Bool := false
  nipOpen : Bool := false
  nipClosed : Bool := false
  filmSplice : Bool := false
  filmOut : Bool := false
  stackFull : Bool := false
  eStop : Bool := false
  inDrive : Bool := false
  outDrive : Bool := false
  homeL : Bool := false
  homeR : Bool := false
  gateDelivery : Bool := false
  gateScrap : Bool := false
  bladeDown : BitVec 6 := 0
  bladeUp : BitVec 6 := 0
  inspectReject : Bool := false
  deriving DecidableEq, Repr

/-- The straps as held since the last power-on (R208). -/
structure Straps where
  blades : Nat := 6
  laminator : Bool := true
  baud : Bool := false
  deriving DecidableEq, Repr

/-- A measuring roll (R25 to R30). -/
structure RollBlock where
  count : Int := 0
  scale : Int
  pos : Int := 0
  high : Int := 0
  armed : Bool := true
  fault : Bool := false
  deriving DecidableEq, Repr

/-- The Sampler (R33 to R36): the turns left in the round, the one being converted first, and the latest results. -/
structure Sampler where
  round : List (Channel × Nat)
  dancer : Option Nat := none
  temp : Option Nat := none
  level1 : Option Nat := none
  level2 : Option Nat := none
  deriving DecidableEq, Repr

/-- The Loop (R37 to R43). -/
structure LoopBlock where
  length : Option Int := none
  zone : Zone := .unknown
  faulted : Bool := false
  watching : Bool := false
  atThread : Option Int := none
  k : Option Int := none
  deriving DecidableEq, Repr

/-- A teach in progress (R62). -/
structure Teach where
  start : Int
  min : Option Nat := none
  max : Option Nat := none
  timer : Timer
  deriving DecidableEq, Repr

/-- A mark sensor (R45 to R49, R62). -/
structure SensorBlock where
  threshold : Int
  bar : Bar := .none
  teach : Option Teach := none
  deriving DecidableEq, Repr

/-- The window of an M1 expectation (R52). -/
structure Window1 where
  expected : Int
  lower : Int
  upper : Int
  deriving DecidableEq, Repr

/-- The expectation of the M1 cursor (R50). -/
structure Expect1 where
  panel : PanelRef
  mark : Mark
  takeUp : Int
  window : Option Window1 := none
  deriving DecidableEq, Repr

/-- The M1 cursor (R50). `lastHead` names the panel whose head it last resolved since the last THREAD and CLEAR (R51);
`deciding` says that its watch has fired and the decision waits for a bar in progress (R54). -/
structure Cursor1 where
  state : M1State := .halted
  expect : Option Expect1 := none
  seekPending : Bool := true
  lastTail : Option Int := none
  holdLimit : Option Int := none
  lastHead : Option PanelRef := none
  deciding : Bool := false
  deriving DecidableEq, Repr

/-- The window of an M2 expectation (R67, R70). -/
structure Window2 where
  a : Int
  takeUp : Int
  predicted : Int
  half : Int
  lower : Int
  upper : Int
  deriving DecidableEq, Repr

/-- The expectation of the M2 cursor (R67). -/
structure Expect2 where
  panel : PanelRef
  mark : Mark
  window : Option Window2 := none
  deriving DecidableEq, Repr

/-- The M2 cursor (R67), with `lastHead` and `deciding` as at M1. -/
structure Cursor2 where
  state : M2State := .halted
  expect : Option Expect2 := none
  lastHead : Option PanelRef := none
  deciding : Bool := false
  deriving DecidableEq, Repr

/-- A point of the Disturbance List (R82). -/
structure Point where
  kind : PointKind
  pos : Int
  deriving DecidableEq, Repr

/-- The Registration Unit (R66). K is the Loop's (R43). -/
structure RegBlock where
  anchor : Option (Int × Int) := none
  s : Int
  mode : Mode := .seek
  lock : LockMode
  choice : Choice := .capture
  register : RegState
  lockCount : Nat := 0
  coastCount : Nat := 0
  points : List Point := []
  deriving DecidableEq, Repr

/-- The cut of a panel, counted from 1 (R95). -/
structure CutRef where
  panel : PanelRef
  index : Nat
  deriving DecidableEq, Repr

/-- A lane change: the new lane set and its owner (R95). -/
structure LaneChange where
  lanes : Byte
  owner : PanelRef
  deriving DecidableEq, Repr

/-- An entry of the Cut Queue (R95). It is CUT, LANE or CUT+LANE by what it carries. -/
structure Entry where
  cut : Option CutRef
  partner : Option CutRef := none
  lane : Option LaneChange := none
  trigger : Int
  state : EntryState := .pending
  deriving DecidableEq, Repr

/-- The Cut Planner (R95 to R110): the Cut Queue, the target last handed on, the end-of-web limit. -/
structure Planner where
  queue : List Entry := []
  target : Option Int := none
  limit : Option Int := none
  deriving DecidableEq, Repr

/-- The gate's record (R112, R123). -/
structure Gate where
  commanded : GatePos := .scrap
  confirmed : Bool := false
  timer : Option Timer := none
  deriving DecidableEq, Repr

/-- A blade's record (R112, R123). -/
structure Blade where
  down : Bool := false
  confirmed : Bool := false
  timer : Option Timer := none
  deriving DecidableEq, Repr

/-- The Knife Station (R112). -/
structure Station where
  cycle : Cycle := .idle
  corrections : Nat := 0
  lastErr : Option Int := none
  recut : Bool := false
  gate : Gate := {}
  blades : List Blade
  laneSet : Byte := 0
  knife : KnifeState
  knifeTimer : Option Timer := none
  deriving DecidableEq, Repr

/-- An outfeed move issued and not yet reported ended (R139). A STOP-NOW has no end point. `reports` says that its "move ended" goes
to the owner; a move stopped by a fault reports to no owner (R144). -/
structure Move where
  kind : MoveKind
  purpose : Purpose
  owner : Owner
  distance : Int
  speed : Nat
  endPoint : Option Int
  deadline : Option Nat
  reports : Bool := true
  deriving DecidableEq, Repr

/-- The request held while the outfeed is HELD (R139). -/
inductive HeldReq where
  | nothing
  | station (purpose : Purpose) (endPoint : Int)
  | free
  deriving DecidableEq, Repr

/-- The outfeed's move state (R139). -/
inductive Outfeed where
  | stopped
  | moving (m : Move)
  | held (r : HeldReq)
  deriving DecidableEq, Repr

/-- The Section Drives (R134 to R149). The end-of-web limit is the Cut Planner's. -/
structure Drives where
  setpoint : Nat := 5
  infeedRef : Nat := 0
  outfeed : Outfeed := .stopped
  timeoutFlag : Bool := false
  starveBase : Option Int := none
  webSeq : WebSeq := .none
  aEnd : Option Int := none
  tailOutPos : Option Int := none
  deriving DecidableEq, Repr

/-- The dwell timer with the two limits read at its start, and whether DWELL_MARK has been taken (R162, R163). -/
structure Dwell where
  start : Nat
  mark : Nat
  max : Nat
  marked : Bool := false
  deriving DecidableEq, Repr

/-- The Laminator (R151 to R165). -/
structure Laminator where
  setpoint : Nat := 0
  heat : Heat := .off
  target : Option Int := none
  temperature : Option Nat := none
  sensorFaulted : Bool := false
  heater : Bool := false
  armed : Bool := false
  lockout : Bool := false
  settle : Option Timer := none
  idle : Option Timer := none
  dwell : Option Dwell := none
  nip : Nip := .opening
  commandClose : Bool := false
  nipTimer : Option Timer := none
  reclose : Bool := false
  deriving DecidableEq, Repr

/-- A stop record (R167). -/
structure StopRecord where
  cls : StopClass
  cause : StopCause
  deriving DecidableEq, Repr

/-- A first-fault record (R167). -/
structure FirstFault where
  cause : FaultCause
  p1 : Int
  p2 : Int
  deriving DecidableEq, Repr

/-- Line Control (R167). -/
structure LineBlock where
  state : LineState := .unthreaded
  stop : Option StopRecord := none
  firstFault : Option FirstFault := none
  resume : Option LineState := none
  deriving DecidableEq, Repr

/-- The events of the Event Queue with their data (R202). -/
inductive Event where
  | lineState (line : LineState) (stop : Option StopRecord) (firstFault : Option FaultCause) (resume : Option LineState)
  | fault (cause : FaultCause) (latched : Bool) (p1 p2 : Int)
  | register (state : RegState) (cause : RegCause)
  | mode (mode : Mode) (cause : ModeCause) (lock : LockMode)
  | markCoast (sensor : Sensor) (panel : PanelId) (mark : Mark)
  | teachEnd (sensor : Sensor) (result : TeachResult) (min max : Option Nat) (threshold : Int)
  | splice (film : Bool) (pos : Int)
  | stretchLimit (panel : Option PanelId) (mark : Option Mark) (measured s : Int)
  | calWritten (index : Nat) (value : Int)
  | knifeHomed (home : Home)
  deriving DecidableEq, Repr

/-- A request frame, intact (R199). -/
structure Frame where
  kind : Byte
  tag : Byte
  payload : List Byte
  deriving DecidableEq, Repr

/-- The receiver's state (R186): in BODY the length byte and the body bytes so far, in CHECK also the CRC bytes so far. -/
inductive Rx where
  | hunt
  | length
  | body (n : Nat) (got : List Byte)
  | check (n : Nat) (got crc : List Byte)
  deriving DecidableEq, Repr

/-- A set of the three attention conditions (R196). -/
structure AttnSet where
  done : Bool
  event : Bool
  fault : Bool
  deriving DecidableEq, Repr

/-- A reply (R190, R199): kind and tag of its frame, the header, and the data or the BAD_PLAN detail. -/
structure Reply where
  kind : Byte
  tag : Byte
  status : Status
  credits : Nat
  attention : AttnSet
  data : List Byte
  deriving DecidableEq, Repr

/-- The Message Link (R185 to R197). While `reply` is present it is being sent, and the first frame of the buffer is the
request it answers. -/
structure Link where
  rx : Rx := .hunt
  crcSeen : Bool := false
  framingSeen : Bool := false
  overrunSeen : Bool := false
  buffer : List Frame := []
  reply : Option Reply := none
  breakArmed : Bool := false
  synced : Bool := false
  events : List Event := []
  eventsLost : Bool := false
  mask : AttnSet := ⟨true, true, true⟩
  attn : Bool := false
  deriving DecidableEq, Repr

/-- A stored calibration entry: its value, and whether its check value passes (R203, R204). -/
structure StoredEntry where
  value : Int
  checkOk : Bool
  deriving DecidableEq, Repr

/-- The Calibration Store (R203 to R207). `reported` is the stored value as CAL-READ reports it (R204). -/
structure CalBlock where
  working : List Int
  reported : List Int
  store : List StoredEntry
  defaulted : BitVec 64
  write : Option (Nat × Int) := none
  deriving DecidableEq, Repr

/-- The state of the FC32. `pending` is the queue of commands that wait, first in, first out. `now` counts ms and `nextSerial`
counts accepted plans; both are the model's own. `heldBy` lists the reset kinds that hold the part in reset, empty while it runs. -/
structure State where
  pending : List Instr
  now : Nat
  nextSerial : Nat
  inputs : Inputs
  driveEnable : Bool
  resetOut : Bool
  heldBy : List ResetKind
  causes : List ResetKind
  straps : Straps
  cal : CalBlock
  panels : List Panel
  lastPlan : Option LastPlan
  roll1 : RollBlock
  roll2 : RollBlock
  watches : Watches
  sampler : Sampler
  loop : LoopBlock
  sensor1 : SensorBlock
  sensor2 : SensorBlock
  webEnd : Bool
  cursor1 : Cursor1
  reg : RegBlock
  cursor2 : Cursor2
  planner : Planner
  station : Station
  drives : Drives
  lam : Laminator
  line : LineBlock
  link : Link
  deriving DecidableEq, Repr

/-- Why a command stops with a fault. No command of the FC32 does: every rule of the spec gives its step an effect, and a fault of the
line is an effect on the state (R178). The type has no constructor, which is safe. -/
inductive Fault where
  deriving DecidableEq, Repr

/-- Why a command has no meaning. -/
inductive Refusal where
  /-- Raised by `exec` for a command whose meaning is not written yet; no arm raises it now. Safe: the machine stops. -/
  | notModelled (mnemonic : String)
  deriving DecidableEq, Repr

/-- The FC32 right after a power-on reset with a blank calibration store (R204, R210): every block at the value its chapter gives
for after a reset, the working copy at the defaults. The strap readings, the levels on the inputs and the blank store
are the model's choices (log entries 1 and 2). -/
def State.reset : State where
  pending := []
  now := 0
  nextSerial := 0
  inputs := {}
  driveEnable := true
  resetOut := false
  heldBy := []
  causes := [.powerOn]
  straps := {}
  cal :=
    { working := calDefaults
      reported := calDefaults
      store := List.replicate 58 ⟨0, false⟩
      defaulted := 0x03FFFFFFFFFFFFFF }
  panels := []
  lastPlan := none
  roll1 := { scale := 10000 }
  roll2 := { scale := 10000 }
  watches := {}
  sampler := { round := [(.dancer, 4), (.temp, 1)] }
  loop := {}
  sensor1 := { threshold := 512 }
  sensor2 := { threshold := 512 }
  webEnd := false
  cursor1 := {}
  reg := { s := 0, lock := .auto, register := .outOfRegister }
  cursor2 := {}
  planner := {}
  station := { blades := List.replicate 6 {}, knife := .unhomed }
  drives := {}
  lam := {}
  line := {}
  link := {}

end Sys2Proof.Machine
end

