-- ==== Sys2Proof/Machine/Flags.lean ====
section
/-!
DEFINITION. The flags of a panel (R15, R16): their order, their classes, how one is raised, and what they say of a piece's
eligibility for delivery (R8). Also the completion code computed from a record (R23).
-/
namespace Sys2Proof.Machine

/-- The flags in the order of the table of R16: bit 0 of the flag set is LEADER, bit 16 SHORT (R201). -/
def allFlags : List Flag :=
  [.leader, .cancelled, .unlocked, .coastedM1, .coastedM2, .scaleFault, .splice, .filmSplice, .dwell, .cutOffPos,
    .cutFault, .merged, .laneLate, .recut, .inspect, .stretchLimit, .short]

/-- The class of a flag (R16): whether it is rejecting. That of SCALE_FAULT is kept with the panel (R15). -/
def flagRejects (scaleRejecting : Bool) : Flag → Bool
  | .leader => true
  | .cancelled => true
  | .unlocked => true
  | .coastedM1 => false
  | .coastedM2 => false
  | .scaleFault => scaleRejecting
  | .splice => true
  | .filmSplice => true
  | .dwell => true
  | .cutOffPos => false
  | .cutFault => true
  | .merged => false
  | .laneLate => true
  | .recut => false
  | .inspect => false
  | .stretchLimit => false
  | .short => true

/-- A flag raised against a panel: not recorded against a DONE panel, nothing new if already held (R15). -/
def Panel.raise (f : Flag) (p : Panel) : Panel :=
  if p.state = .done ∨ f ∈ p.flags then p else { p with flags := p.flags ++ [f] }

/-- SCALE_FAULT raised against a panel, with its class fixed by the lock mode (R15): rejecting under AUTO; a raise under MANUAL
leaves a rejecting one rejecting. -/
def Panel.raiseScale (lock : LockMode) (p : Panel) : Panel :=
  if p.state = .done then p
  else { p.raise .scaleFault with scaleRejecting := p.scaleRejecting || decide (lock = .auto) }

/-- The panel holds a rejecting flag (R16). -/
def Panel.rejected (p : Panel) : Bool := p.flags.any (flagRejects p.scaleRejecting)

/-- A product piece of the panel is eligible for delivery (R8). -/
def Panel.eligible (p : Panel) : Bool := decide (p.kind = .product) && !p.rejected

/-- The flag set as the 24-bit number of R201: bits 0 to 16 the flags, bit 17 a rejecting SCALE_FAULT. -/
def Panel.flagBits (p : Panel) : Nat :=
  (allFlags.zipIdx.foldl (fun acc fi => if fi.1 ∈ p.flags then acc + 2 ^ fi.2 else acc) 0)
    + (if .scaleFault ∈ p.flags ∧ p.scaleRejecting then 2 ^ 17 else 0)

/-- The completion code of a panel that enters DONE, by an abort or by its last stroke (R23). -/
def Panel.code (aborted : Bool) (p : Panel) : Completion :=
  if aborted ∨ p.cutsDone < p.cuts.length then .aborted
  else if p.delivered + 1 = p.cuts.length then .delivered
  else if p.delivered = 0 then .scrapped
  else .partly

/-- The panel enters DONE, its completion code computed once (R12, R13, R23). -/
def Panel.finish (aborted : Bool) (p : Panel) : Panel :=
  { p with state := .done, completion := some (p.code aborted) }

/-- A panel that is not DONE is aborted; it keeps coordinates, triggers, counters and flags (R13). -/
def Panel.abort (p : Panel) : Panel := if p.state = .done then p else p.finish true

end Sys2Proof.Machine
end

