-- ==== Sys2Proof/Machine/Ops.lean ====
section
/-!
DEFINITION. The named operations the blocks share: reading the working copy, the line's feeding conditions, the Event Queue,
panel records, position watches and timers.
-/
namespace Sys2Proof.Machine

/-! ### Reading the state -/

/-- P1, the infeed position. -/
def State.p1 (s : State) : Int := s.roll1.pos

/-- P2, the outfeed position. -/
def State.p2 (s : State) : Int := s.roll2.pos

/-- The working value of a calibration entry (R203). -/
def State.work (s : State) (e : CalEntry) : Int := s.cal.working.getD e.index 0

/-- The working value of an entry whose range has no negative value. -/
def State.workNat (s : State) (e : CalEntry) : Nat := (s.work e).toNat

/-- The line is in a feeding state (R167): RUNNING, or STOPPING of class CYCLE_END. -/
def LineBlock.feeding (l : LineBlock) : Bool :=
  match l.state with
  | .running => true
  | .stopping => l.stop.any (fun r => decide (r.cls = .cycleEnd))
  | _ => false

/-- The line is in a feeding state (R167). -/
def State.feeding (s : State) : Bool := s.line.feeding

/-- The line lets a sequence past its arrival go on (R113): RUNNING, or STOPPING of either class. -/
def State.continuing (s : State) : Bool := decide (s.line.state = .running ∨ s.line.state = .stopping)

/-- The part is held in reset (R209). -/
def State.inReset (s : State) : Bool := !s.heldBy.isEmpty

/-- The credits: the slots not in use (R2). -/
def State.credits (s : State) : Nat := 48 - s.panels.length

/-- DONE_PENDING (R2). -/
def State.donePending (s : State) : Bool := s.panels.any (fun p => decide (p.state = .done))

/-- FAULT_PRESENT (R183). -/
def State.faultPresent (s : State) : Bool := decide (s.line.state = .faulted ∨ s.line.state = .eStopped)

/-- The attention summary (R196). -/
def State.summary (s : State) : AttnSet := ⟨s.donePending, !s.link.events.isEmpty, s.faultPresent⟩

/-- The level ATTN has by its terms and the mask (R196); deasserted while a reset is held. -/
def State.attnLevel (s : State) : Bool :=
  !s.inReset && ((s.summary.done && s.link.mask.done) || (s.summary.event && s.link.mask.event)
    || (s.summary.fault && s.link.mask.fault))

/-! ### The Event Queue (R195) -/

/-- An event is queued; with 64 held it is dropped and EVENTS_LOST is set (R195). -/
def queueEvent (e : Event) (s : State) : State :=
  if s.link.events.length < 64 then { s with link := { s.link with events := s.link.events ++ [e] } }
  else { s with link := { s.link with eventsLost := true } }

/-- Several events in order. -/
def queueEvents (es : List Event) (s : State) : State := es.foldl (fun s e => queueEvent e s) s

/-! ### Panel records -/

/-- A panel named as itself. -/
def Panel.ref (p : Panel) : PanelRef := ⟨p.serial, p.id⟩

/-- The panel still in the list under a name, if it is. -/
def State.panel? (s : State) (r : PanelRef) : Option Panel := s.panels.find? (fun p => p.serial == r.serial)

/-- The panel in use with an id, if there is one. -/
def State.byId? (s : State) (id : PanelId) : Option Panel := s.panels.find? (fun p => p.id == id)

/-- A panel's record is changed; a panel no longer in the list is left out. -/
def updPanel (r : PanelRef) (f : Panel → Panel) (s : State) : State :=
  { s with panels := s.panels.map (fun p => if p.serial = r.serial then f p else p) }

/-- A flag is raised against a panel (R15). -/
def raiseFlag (f : Flag) (r : PanelRef) (s : State) : State := updPanel r (Panel.raise f) s

/-- A flag is raised against several panels. -/
def raiseFlags (f : Flag) (rs : List PanelRef) (s : State) : State := rs.foldl (fun s r => raiseFlag f r s) s

/-- A flag is raised against every panel that satisfies a test; a DONE panel records nothing (R15). -/
def raiseWhere (f : Flag) (test : Panel → Bool) (s : State) : State :=
  { s with panels := s.panels.map (fun p => if test p then p.raise f else p) }

/-- A panel's infeed span, from a_head + x_1 to a_head + x_n; absent while a_head is (R5). -/
def Panel.span (p : Panel) : Option (Int × Int) :=
  match p.aHead, p.cuts.head?, p.cuts.getLast? with
  | some a, some x1, some xn => some (a.pos + x1, a.pos + xn)
  | _, _, _ => none

/-- The panel's infeed span shares at least one position with a zone, both with their ends (R58, R163, R164). -/
def Panel.touches (lo hi : Int) (p : Panel) : Bool :=
  match p.span with
  | some (a, b) => decide (a ≤ hi ∧ lo ≤ b)
  | none => false

/-! ### Position watches (R31) -/

/-- A watch that passes a limit, set at a position. -/
def watchPasses (pos limit : Int) : Watch := { limit, beyond := decide (limit < pos) }

/-- A watch that reaches a limit, set at a position. -/
def watchReaches (pos limit : Int) : Watch := { limit, beyond := decide (limit ≤ pos) }

/-- A step of the position from `old` to `new` as a watch that passes sees it (R31). -/
def Watch.stepPasses (old new : Int) (w : Watch) : Watch :=
  if old < new ∧ (w.beyond ∨ (old ≤ w.limit ∧ w.limit < new)) then { w with due := true } else w

/-- A step of the position from `old` to `new` as a watch that reaches sees it (R31). -/
def Watch.stepReaches (old new : Int) (w : Watch) : Watch :=
  if old < new ∧ (w.beyond ∨ (old < w.limit ∧ w.limit ≤ new)) then { w with due := true } else w

/-- Every watch on P1 sees a step of P1. -/
def Watches.stepP1 (old new : Int) (w : Watches) : Watches :=
  { w with
    m1Window := w.m1Window.map (Watch.stepPasses old new)
    hold := w.hold.map (Watch.stepPasses old new)
    tailOut := w.tailOut.map (Watch.stepReaches old new)
    starve := w.starve.map (Watch.stepPasses old new)
    bar1 := w.bar1.map (Watch.stepPasses old new)
    teach1 := w.teach1.map (Watch.stepReaches old new) }

/-- Every watch on P2 sees a step of P2. -/
def Watches.stepP2 (old new : Int) (w : Watches) : Watches :=
  { w with
    m2Window := w.m2Window.map (Watch.stepPasses old new)
    bar2 := w.bar2.map (Watch.stepPasses old new)
    teach2 := w.teach2.map (Watch.stepReaches old new) }

/-- A watch has fired and waits for its owner's step. -/
def watchDue (w : Option Watch) : Bool := w.any (·.due)

/-! ### Timers -/

/-- A timer started now. -/
def State.startTimer (s : State) (limit : Nat) : Timer := ⟨s.now, limit⟩

/-- Time has reached the end of a timer that started at `start` and runs `limit` ms (log entry 6). -/
def reachTime (start limit : Nat) (s : State) : State := { s with now := max s.now (start + limit) }

end Sys2Proof.Machine
end

