-- ==== Sys2Proof/Machine/Drives.lean ====
section
/-!
DEFINITION. The Section Drives: the allowances and the infeed reference (R136), the outfeed's moves, their speeds and deadlines
(R139, R140, R143), the loop hold (R141), the free run (R142) and the stops of the outfeed (R144).
-/
namespace Sys2Proof.Machine

/-! ### The infeed (R136) -/

/-- The loop allowance (R136). -/
def State.loopAllowance (s : State) : Nat :=
  match s.loop.zone with
  | .empty => s.drives.setpoint
  | .low => s.drives.setpoint
  | .normal => s.drives.setpoint
  | .high => s.drives.setpoint / 2
  | .full => 0
  | .unknown => 0

/-- The Laminator reports READY or cold mode with the nip CLOSED; always without the strap (R136, R151). -/
def State.lamReady (s : State) : Bool :=
  !s.straps.laminator || (decide (s.lam.heat = .ready ∨ s.lam.heat = .off) && decide (s.lam.nip = .closed))

/-- The laminator allowance (R136). -/
def State.lamAllowance (s : State) : Nat := if s.lamReady then s.drives.setpoint else 0

/-- The line allowance (R136): full in a feeding state until the end-of-web sequence reaches tail-out (R147). -/
def State.lineAllowance (s : State) : Nat :=
  if s.feeding ∧ (s.drives.webSeq = .none ∨ s.drives.webSeq = .feedingOut) then s.drives.setpoint else 0

/-- The infeed speed reference: the least of the four allowances (R136). -/
def State.infeedReference (s : State) : Nat :=
  min (min s.drives.setpoint s.loopAllowance) (min s.lamAllowance s.lineAllowance)

/-! ### Outfeed moves (R139, R140, R143) -/

/-- The end-of-web sequence is DRAINING (R148). -/
def State.draining (s : State) : Bool := decide (s.drives.webSeq = .draining)

/-- The loop zone holds the outfeed: EMPTY or UNKNOWN, but not while DRAINING (R141, R148). -/
def State.zoneHolds (s : State) : Bool :=
  !s.draining && decide (s.loop.zone = .empty ∨ s.loop.zone = .unknown)

/-- The catch-up speed (R140). -/
def State.catchUp (s : State) : Nat := min 600 (roundDiv (s.drives.setpoint * s.work .outRatio) 100).toNat

/-- The speed of an outfeed move by its purpose and the zone at its issue (R140, R148). -/
def State.moveSpeed (s : State) (p : Purpose) : Nat :=
  match p with
  | .creep => 10
  | _ => if s.draining ∨ s.loop.zone = .low then s.drives.setpoint else s.catchUp

/-- The nominal duration of a move in ms, rounded up (R143). -/
def nominalMs (distance : Int) (speed : Nat) : Nat := ceilDiv (3 * distance.natAbs) (5 * speed)

/-- The outfeed has a move in progress: the state MOVING (R139). -/
def State.moving (s : State) : Bool :=
  match s.drives.outfeed with
  | .moving _ => true
  | _ => false

/-- The outfeed is HELD (R139). -/
def State.outfeedHeld (s : State) : Bool :=
  match s.drives.outfeed with
  | .held _ => true
  | _ => false

/-- The outfeed's move state is set. -/
def setOutfeed (o : Outfeed) (s : State) : State := { s with drives := { s.drives with outfeed := o } }

/-- A FORWARD or REVERSE move from P2 to an end point is issued, with its speed and deadline (R140, R143). -/
def issueMove (p : Purpose) (o : Owner) (endPoint : Int) (s : State) : State :=
  let d := endPoint - s.p2
  let v := s.moveSpeed p
  setOutfeed (.moving
    { kind := if d < 0 then .reverse else .forward
      purpose := p
      owner := o
      distance := d.natAbs
      speed := v
      endPoint := some endPoint
      deadline := some (s.now + nominalMs d v + s.workNat .moveTimeout) }) s

/-- A STOP-NOW; it replaces the move in progress (R139). 7.3 gives it no distance and no speed; it holds 0 for both (log entry 41). -/
def stopMove (p : Purpose) (o : Owner) (deadline : Option Nat) : Move :=
  { kind := .stopNow, purpose := p, owner := o, distance := 0, speed := 0, endPoint := none, deadline }

/-- The deadline of a STOP-NOW that carries one (R143). -/
def State.stopDeadline (s : State) : Option Nat := some (s.now + s.workNat .moveTimeout)

/-- The owner of a STOP-NOW given now (R139): that of the move it stops, and the station, whose STOP-NOW it is, where no move is in progress. -/
def State.stopOwner (s : State) : Owner :=
  match s.drives.outfeed with
  | .moving m => m.owner
  | _ => .station

/-- The Knife Station asks a move to an end point (R114, R115, R118). In a zone that holds the outfeed, or while it is HELD, the move
becomes the held request (R141). DESIGN CHOICE (log entry 42): so it does while a STOP-NOW is still MOVING in such a zone, which is dropped with its
deadline; R141 names HELD and STOPPED only. An approach with no distance left is a STOP-NOW, as for a reissue (R140; log entry 12). -/
def askStation (p : Purpose) (endPoint : Int) (s : State) : State :=
  if s.zoneHolds ∨ s.outfeedHeld then setOutfeed (.held (.station p endPoint)) s
  else if p = .approach ∧ endPoint ≤ s.p2 then setOutfeed (.moving (stopMove p s.stopOwner s.stopDeadline)) s
  else issueMove p .station endPoint s

/-- The Knife Station asks a STOP-NOW during an approach (R114, R115); its owner is that of the move it stops (R139). The flag says that the outfeed is at rest already, so that the end of
the stop is reported at once (R141). -/
def stationStop (s : State) : State × Bool :=
  match s.drives.outfeed with
  | .held _ => (setOutfeed (.held .nothing) s, true)
  | .moving m => (setOutfeed (.moving (stopMove .approach m.owner s.stopDeadline)) s, false)
  | .stopped => (s, true)

/-- An approach or free-run move that is MOVING is reissued to the same end point at the speed of the moment, or given STOP-NOW where no distance remains
(R140). A STOP-NOW has no end point and is left alone. -/
def reissue (s : State) : State :=
  match s.drives.outfeed with
  | .moving m =>
    match m.endPoint with
    | some e =>
      if m.purpose ≠ .creep then
        if e ≤ s.p2 then setOutfeed (.moving (stopMove m.purpose m.owner s.stopDeadline)) s
        else issueMove m.purpose m.owner e s
      else s
    | none => s
  | _ => s

/-! ### The free run (R142) -/

/-- The three conditions of the free run (R142). -/
def State.freeCond (s : State) : Bool :=
  s.feeding && decide (s.station.cycle = .idle) && s.planner.target.isNone

/-- Where a free-run move goes: D_MK on from P2, or to the end-of-web limit while DRAINING (R142, R148). -/
def State.freeEnd (s : State) : Option Int :=
  if s.draining then s.planner.limit.filter (fun l => decide (s.p2 < l)) else some (s.p2 + s.work .dMk)

/-- A free-run move is issued, or held for the loop (R141, R142); a STOP-NOW still MOVING then is dropped with its deadline (log entry 42). -/
def startFreeRun (s : State) : State :=
  match s.freeEnd with
  | none => s
  | some e => if s.zoneHolds ∨ s.outfeedHeld then setOutfeed (.held .free) s else issueMove .freeRun .free e s

/-- A station move left to the Section Drives is taken over as FREE (R115, R142). -/
def takeOverMove (s : State) : State :=
  match s.drives.outfeed with
  | .moving m => setOutfeed (.moving { m with owner := .free, purpose := .freeRun }) s
  | .held _ => setOutfeed (.held .free) s
  | .stopped => s

/-! ### The loop hold (R141) -/

/-- The zone has become EMPTY or UNKNOWN: a move in progress is stopped and its request held (R141). -/
def loopHold (s : State) : State :=
  match s.drives.outfeed with
  | .moving m =>
    match m.kind, m.owner with
    | .stopNow, _ => s
    | _, .free => setOutfeed (.held .free) s
    | _, .station => setOutfeed (.held (.station m.purpose (m.endPoint.getD s.p2))) s
  | _ => s

/-- The hold is released (R141). The flag says that a held station move had no distance left, so that its STOP-NOW ends at once and is
the station's arrival. A held free run is resumed if its conditions still hold (log entry 13). -/
def releaseHold (s : State) : State × Bool :=
  match s.drives.outfeed with
  | .held (.station p e) =>
    if e = s.p2 then (setOutfeed .stopped s, true) else (issueMove p .station e (setOutfeed .stopped s), false)
  | .held .free =>
    let s' := setOutfeed .stopped s
    (if s'.freeCond then startFreeRun s' else s', false)
  | .held .nothing => (setOutfeed .stopped s, false)
  | _ => (s, false)

/-! ### Stops of the outfeed (R142, R144) -/

/-- The line leaves the feeding states: a FREE move is given STOP-NOW without deadline, a held free run is dropped (R142). -/
def freeLeave (s : State) : State :=
  match s.drives.outfeed with
  | .moving m => if m.owner = .free then setOutfeed (.moving (stopMove m.purpose .free none)) s else s
  | .held .free => setOutfeed .stopped s
  | _ => s

/-- A fault is taken: STOP-NOW without deadline, whose end goes to no owner, and a held request dropped (R144). -/
def outfeedFault (s : State) : State :=
  match s.drives.outfeed with
  | .moving m => setOutfeed (.moving { stopMove m.purpose m.owner none with reports := false }) s
  | .held _ => setOutfeed .stopped s
  | .stopped => s

/-- The E-stop is taken: the move in progress and any held request are dropped (R144). -/
def outfeedEStop (s : State) : State := setOutfeed .stopped s

end Sys2Proof.Machine
end

