-- ==== Sys2Proof/Machine/Station.lean ====
section
/-!
DEFINITION. The Knife Station up to the start of a traverse: its current entry, taking an entry up (R114), arrivals and corrections
(R117 to R119), preparing with the gate and the blades (R121 to R123), and how its sequence is interrupted
(R116, R118, R125, R128).
-/
namespace Sys2Proof.Machine

/-! ### The current entry -/

/-- The station's current entry: the first of the queue once it is ACTIVE, SETTLING or EXECUTING (R112). -/
def State.current (s : State) : Option Entry :=
  match s.planner.queue with
  | e :: _ => if e.state = .pending then none else some e
  | [] => none

/-- The first entry of the queue is changed. -/
def updFirst (f : Entry → Entry) (s : State) : State :=
  match s.planner.queue with
  | e :: es => { s with planner := { s.planner with queue := f e :: es } }
  | [] => s

/-- The state of the first entry is set (R96). -/
def setEntry (st : EntryState) (s : State) : State := updFirst (fun e => { e with state := st }) s

/-- The cycle state is set (R112). -/
def setCycle (c : Cycle) (s : State) : State := { s with station := { s.station with cycle := c } }

/-- Corrections made, last arrival error and recut mark return to 0, absent and clear (R112; at the end of a LANE entry, log entry 52). -/
def clearRecords (s : State) : State :=
  { s with station := { s.station with corrections := 0, lastErr := none, recut := false } }

/-- An entry that carries a lane change and no cut is of kind LANE (R95). -/
def Entry.isLane (e : Entry) : Bool := e.cut.isNone

/-- The entry is SETTLING or EXECUTING: fixed (R96). -/
def Entry.fixed (e : Entry) : Bool := decide (e.state = .settling ∨ e.state = .executing)

/-- The cuts an entry's stroke serves: its own and its partner's (R95). -/
def Entry.cuts (e : Entry) : List CutRef := e.cut.toList ++ e.partner.toList

/-- The panels whose product piece the stroke severs: those it serves with a cut after the first (R8). -/
def Entry.severed (e : Entry) : List PanelRef := (e.cuts.filter (fun c => decide (2 ≤ c.index))).map (·.panel)

/-- The knife is at a home (R130). -/
def KnifeState.atHome (k : KnifeState) : Bool := decide (k = .homeL ∨ k = .homeR)

/-- The knife is traversing (R126). -/
def KnifeState.traversing (k : KnifeState) : Bool := decide (k = .traversingLR ∨ k = .traversingRL)

/-! ### Gate and blades (R122, R123) -/

/-- The level of the gate's confirm input for a position. -/
def Inputs.gateAt (i : Inputs) : GatePos → Bool
  | .delivery => i.gateDelivery
  | .scrap => i.gateScrap

/-- The level of a blade's confirm input for a position; blade 0 here is blade 1 of the manual. -/
def Inputs.bladeAt (i : Inputs) (k : Nat) (down : Bool) : Bool :=
  if down then i.bladeDown.getLsbD k else i.bladeUp.getLsbD k

/-- A command to the gate (R123). -/
def commandGate (pos : GatePos) (s : State) : State :=
  let g := s.station.gate
  if g.commanded = pos ∧ g.confirmed then s
  else
    let now := s.inputs.gateAt pos
    { s with station := { s.station with gate :=
      { commanded := pos
        confirmed := now
        timer := if now then none else some (s.startTimer (s.workNat .gateTimeout)) } } }

/-- A command to one blade (R123). -/
def bladeCommand (inp : Inputs) (t : Timer) (k : Nat) (down : Bool) (b : Blade) : Blade :=
  if b.down = down ∧ b.confirmed then b
  else { down := down, confirmed := inp.bladeAt k down, timer := if inp.bladeAt k down then none else some t }

/-- Each fitted blade named in the set is commanded DOWN and every other fitted blade UP (R122). -/
def commandBlades (lanes : Byte) (s : State) : State :=
  let t := s.startTimer (s.workNat .bladeTimeout)
  let bs := s.station.blades.zipIdx.map (fun bk => bladeCommand s.inputs t bk.2 (lanes.getLsbD bk.2) bk.1)
  { s with station := { s.station with blades := bs } }

/-- Every fitted blade is CONFIRMED. -/
def State.bladesConfirmed (s : State) : Bool := s.station.blades.all (·.confirmed)

/-! ### Preparing (R121, R122) -/

/-- Every severed piece is eligible for delivery (R8, R121). -/
def State.eligibleAll (s : State) (rs : List PanelRef) : Bool :=
  rs.all (fun r => (s.panel? r).any Panel.eligible)

/-- The inspect-reject input as the station reads it (R121). -/
def State.inspectRejects (s : State) : Bool := decide (s.work .inspectEnable = 1) && s.inputs.inspectReject

/-- The gate position of a stroke (R121). -/
def State.gateFor (s : State) (e : Entry) : GatePos :=
  if e.severed.isEmpty then .scrap
  else if s.eligibleAll e.severed ∧ ¬ s.inspectRejects then .delivery
  else .scrap

/-- RECUT is raised at the preparing of an entry whose recut mark is set (R121). -/
def raiseRecut (e : Entry) (s : State) : State :=
  if s.station.recut then raiseFlags .recut (e.cuts.map (·.panel)) s else s

/-- The gate is fixed and commanded for an entry that carries a cut, and INSPECT raised (R121). -/
def prepareGate (e : Entry) (s : State) : State :=
  if e.isLane then s
  else
    let pos := s.gateFor e
    let inspected := !e.severed.isEmpty && s.eligibleAll e.severed && s.inspectRejects
    commandGate pos (if inspected then raiseFlags .inspect e.severed s else s)

/-- The lane set the blades are commanded to for an entry (R122). -/
def State.lanesFor (s : State) (e : Entry) : Byte := (e.lane.map (·.lanes)).getD s.station.laneSet

/-- Preparing begins (R121, R122). -/
def prepare (e : Entry) (s : State) : State :=
  let s := raiseRecut e (setCycle .preparing (setEntry .executing s))
  commandBlades (s.lanesFor e) (prepareGate e s)

/-! ### Arrivals (R117 to R119) -/

/-- A distance judged as a cut's displacement (R93, R119): the flag it gives, if any. DESIGN CHOICE (log entry 50): REJECT_TOL is asked first, so that with CUT_TOL
above REJECT_TOL, which R203 does not exclude, a distance between the two gives CUT_FAULT and not nothing. -/
def State.cutFlag (s : State) (d : Int) : Option Flag :=
  if s.work .rejectTol < d.natAbs then some .cutFault
  else if s.work .cutTol < d.natAbs then some .cutOffPos
  else none

/-- A miss of `err` is judged (R119). DESIGN CHOICE (log entry 35): on |err| alone, as R119 says, also where BACK_MAX lies below REJECT_TOL and the cause
column of R16 gives CUT_FAULT for any overshoot beyond BACK_MAX. -/
def judgeMiss (e : Entry) (err : Int) (s : State) : State :=
  let s := match s.cutFlag err with
    | some f => raiseFlags f (e.cuts.map (·.panel)) s
    | none => s
  match e.lane with
  | some l => if s.work .rejectTol < err then raiseFlag .laneLate l.owner s else s
  | none => s

/-- A creep correction towards the trigger (R118). -/
def correct (e : Entry) (s : State) : State :=
  askStation .creep e.trigger
    { s with station := { s.station with corrections := s.station.corrections + 1, cycle := .correct } }

/-- What an arrival has decided is done if the line lets the entry continue past arrival, and otherwise the station is PAUSED (R113, R117, R121). -/
def goOn (f : State → State) (s : State) : State := if s.continuing then f s else setCycle .paused s

/-- An arrival (R117): the error is recorded, an ACTIVE entry becomes SETTLING, and the first row that applies decides. An entry executed here as a miss is
judged in this event, also where the line does not let it go on. DESIGN CHOICE (log entry 57): a correction decided on such a line is not begun and not counted;
R117 says of an entry settled or executed that the station is then PAUSED, and of a correction nothing. -/
def arrive (s : State) : State :=
  match s.current with
  | none => s
  | some e =>
    let err := s.p2 - e.trigger
    let s := setEntry .settling { s with station := { s.station with lastErr := some err } }
    if err.natAbs ≤ s.work .cutTol then goOn (prepare e) s
    else if s.work .backMax < err ∨ 2 ≤ s.station.corrections then goOn (prepare e) (judgeMiss e err s)
    else goOn (correct e) s

/-- A move given by the station that may be at its end at once: the arrival is then taken in the same event. -/
def thenArrive (r : State × Bool) : State := if r.2 then arrive r.1 else r.1

/-- The station takes up the first entry of the queue (R114). DESIGN CHOICE (log entry 40): with the trigger at or behind P2 while an earlier stop's STOP-NOW is
still MOVING, a new STOP-NOW is given whose end is the arrival; R114 names a free run and no move in progress only. -/
def takeUp (s : State) : State :=
  match s.planner.queue with
  | [] => s
  | e :: _ =>
    let s := clearRecords (setCycle .approach (setEntry .active s))
    if s.p2 < e.trigger then askStation .approach e.trigger s
    else if s.moving then thenArrive (stationStop s)
    else arrive s

/-! ### The traverse (R124, R126) -/

/-- The entry's devices are all CONFIRMED: every blade, and the gate if it was commanded for the entry (R124). -/
def State.prepared (s : State) (e : Entry) : Bool := s.bladesConfirmed && (e.isLane || s.station.gate.confirmed)

/-- The knife may start its traverse (R124). -/
def State.mayTraverse (s : State) : Bool := s.station.knife.atHome && !s.moving && s.continuing

/-- The knife starts a traverse towards the other home (R126). -/
def startTraverse (s : State) : State :=
  { s with station :=
    { s.station with
      cycle := .stroke
      knife := if s.station.knife = .homeL then .traversingLR else .traversingRL
      knifeTimer := some (s.startTimer (s.workNat .knifeTimeout)) } }

/-! ### Interruptions -/

/-- An approach ends without an arrival: the entry is PENDING again and the station IDLE (R116). -/
def endApproach (s : State) : State :=
  if s.station.cycle = .approach then setCycle .idle (setEntry .pending s) else s

/-- The line leaves the feeding states: an approach ends with STOP-NOW without deadline (R116, R143); a held request of the approach is
cleared (R141). -/
def stationLeave (s : State) : State :=
  if s.station.cycle = .approach then
    endApproach (match s.drives.outfeed with
      | .moving m => setOutfeed (.moving (stopMove m.purpose m.owner none)) s
      | .held _ => setOutfeed (.held .nothing) s
      | .stopped => s)
  else s

/-- A correction or a preparing ends with the entry SETTLING and the station PAUSED (R118, R125). -/
def pauseSequence (s : State) : State :=
  if s.station.cycle = .correct ∨ s.station.cycle = .preparing then setCycle .paused (setEntry .settling s) else s

/-- A fault is taken (R116, R118, R125); a traverse or a homing runs on (R128, R132). -/
def stationFault (s : State) : State := pauseSequence (endApproach s)

/-- The traverse is interrupted (R128): the knife stops UNHOMED, the entry is SETTLING again, the recut mark is set and the station PAUSED.
Where CLEAR has taken the entry away the station becomes IDLE (log entry 15). -/
def interruptTraverse (s : State) : State :=
  let s := { s with station := { s.station with knife := .unhomed, knifeTimer := none } }
  match s.current with
  | some _ => setCycle .paused (setEntry .settling { s with station := { s.station with recut := true } })
  | none => setCycle .idle s

/-- A homing stops with the knife UNHOMED (R132). -/
def stopHoming (s : State) : State :=
  if s.station.knife = .homing then { s with station := { s.station with knife := .unhomed, knifeTimer := none } } else s

/-- The E-stop is taken (R116, R118, R125, R128, R132). -/
def stationEStop (s : State) : State :=
  let s := stationFault s
  stopHoming (if s.station.cycle = .stroke then interruptTraverse s else s)

/-- The station's entry is taken away by CLEAR or by the end of web: the station is IDLE with its records dropped, unless the knife is
traversing, which runs on to its far home (R112, R120, R127). -/
def dropEntry (s : State) : State :=
  clearRecords (if s.station.cycle = .stroke then s else setCycle .idle s)

end Sys2Proof.Machine
end

