-- ==== Sys2Proof/Machine/Planner.lean ====
section
/-!
DEFINITION. The Cut Planner: outfeed lengths and triggers (R88, R89), placing, merging and pushing entries (R97, R98), the outfeed target
and what the station does with a new one (R107, R115), committing panels (R99 to R101), lane changes (R102 to R105), refreshes (R91 to R94,
R106) and the end-of-web drop (R110).
-/
namespace Sys2Proof.Machine

/-! ### The outfeed target (R107, R115) -/

/-- The queue is replaced. -/
def setQueue (q : List Entry) (s : State) : State := { s with planner := { s.planner with queue := q } }

/-- While the station approaches, the ACTIVE marking stands on the first entry of the queue and on no other (R96). -/
def remark (s : State) : State :=
  if s.station.cycle = .approach then
    match s.planner.queue with
    | [] => s
    | e :: es =>
      setQueue ({ e with state := .active } ::
        es.map (fun x => if x.state = .active then { x with state := .pending } else x)) s
  else s

/-- The station, approaching, is handed a new target (R115). -/
def approachTarget (old new : Option Int) (s : State) : State :=
  match new with
  | none => takeOverMove (clearRecords (setCycle .idle s))
  | some t =>
    if old.any (fun o => decide (t < o)) ∧ t - s.p2 < s.work .stopMin then thenArrive (stationStop s)
    else askStation .approach t s

/-- The outfeed target is taken afresh and handed to the Knife Station if it has changed (R107). -/
def targetUpdate (s : State) : State :=
  let s := remark s
  let t := s.planner.queue.head?.map (·.trigger)
  let old := s.planner.target
  if t = old then s
  else
    let s' : State := { s with planner := { s.planner with target := t } }
    if s'.station.cycle = .approach then approachTarget old t s' else s'

/-! ### Triggers (R88, R89) -/

/-- The outfeed length of a reference length at a stretch (R88). -/
def scaleLength (ref stretch : Int) : Int := ref + roundDiv (ref * stretch) 1000000

/-- The trigger of a cut at nominal position `x` (R89). -/
def triggerOf (bHead l2 lNom dMk x : Int) : Int := bHead + roundDiv (x * l2) lNom.toNat + dMk

/-- The triggers of all cuts of a panel by its present L2 and b_head (R89); absent while either is. -/
def State.triggersOf (s : State) (p : Panel) : Option (List Int) :=
  match p.bHead, p.l2 with
  | some b, some l => some (p.cuts.map (triggerOf b.pos l.len p.lNom (s.work .dMk)))
  | _, _ => none

/-- The outfeed length of a panel whose head is handed over: on the M1 basis if its a_tail is present, and NOMINAL otherwise (R88). -/
def headLength (stretch : Int) (p : Panel) : Length2 :=
  match p.aHead, p.aTail with
  | some h, some t => ⟨scaleLength (t.pos - h.pos) stretch, .m1⟩
  | _, _ => ⟨scaleLength p.lNom stretch, .nominal⟩

/-- The first trigger of a panel's record. -/
def State.firstTrigger (s : State) (r : PanelRef) : Option Int :=
  ((s.panel? r).bind (·.triggers)).bind List.head?

/-! ### Placing entries (R97, R98) -/

/-- An entry can be moved and can take a merge: PENDING or ACTIVE (R96). -/
def Entry.refreshable (e : Entry) : Bool := decide (e.state = .pending ∨ e.state = .active)

/-- The entry is the panel's own, free to move: PENDING or ACTIVE, with no partner (R93). -/
def movesWith (r : PanelRef) (e : Entry) : Bool :=
  e.refreshable && e.partner.isNone && e.cut.any (fun c => c.panel.serial == r.serial)

/-- The panel an entry belongs to: its cut's (R95), and of a LANE entry the lane owner. -/
def Entry.panel? (e : Entry) : Option PanelRef := (e.cut.map (·.panel)).or (e.lane.map (·.owner))

/-- The entry `q` of the queue is a free cut of the panel of `e`, which is being moved: the same refresh has placed `q` again, since it takes out all it moves first
and places the cuts before the LANE entry (R94, R106, log entry 25). A LANE entry of the panel in the queue is one that has stayed. -/
def movedTogether (e q : Entry) : Bool := e.panel?.any (fun r => movesWith r q)

/-- An entry `q` conflicts with the placement of `e` at `x` (R97): too near, fixed with `x` at or before its trigger, or passed by a move from `old`. DESIGN CHOICE
(log entry 38): a move passes the entries that have stayed in the queue, and not those that the same refresh has placed again, so that all of them go by the same
difference (R89); those count only by CUT_MIN_SEP. -/
def conflicts (sep : Int) (old : Option Int) (x : Int) (e q : Entry) : Bool :=
  decide ((q.trigger - x).natAbs < sep)
    || (q.fixed && decide (x ≤ q.trigger))
    || (!movedTogether e q && old.any (fun o => decide ((o < q.trigger ∧ q.trigger < x) ∨ (x < q.trigger ∧ q.trigger < o))))

/-- The nearest to `x` of some entries in ascending order, and of two equally near the earlier (R97). -/
def nearest (x : Int) : List Entry → Option Entry
  | [] => none
  | e :: es =>
    match nearest x es with
    | none => some e
    | some f => if (f.trigger - x).natAbs < (e.trigger - x).natAbs then some f else some e

/-- The first of some entries in ascending order that a move from `old` towards `x` meets (R94). DESIGN CHOICE (log entry 39): an entry that lies ahead of the old
trigger counts before one behind it, which counts only where none lies ahead; R94 does not name the second. -/
def firstMet (old x : Int) (es : List Entry) : Option Entry :=
  if old ≤ x then
    ((es.filter (fun e => decide (old ≤ e.trigger))).head?).or es.getLast?
  else
    ((es.filter (fun e => decide (e.trigger ≤ old))).getLast?).or es.head?

/-- The conflicting entry that counts for a placement or a move (R94, R97). -/
def conflictOf (sep : Int) (old : Option Int) (x : Int) (e : Entry) (q : List Entry) : Option Entry :=
  let cs := q.filter (conflicts sep old x e)
  match old with
  | none => nearest x cs
  | some o => firstMet o x cs

/-- A conflicting entry can take a newcomer (R98). -/
def canTake (c n : Entry) : Bool :=
  c.refreshable
    && !(c.lane.isSome && n.lane.isSome)
    && (match c.cut, n.cut with
      | some cc, some nc => c.partner.isNone && decide (cc.panel.serial ≠ nc.panel.serial)
      | _, _ => true)

/-- The entry after it has taken a newcomer (R98). -/
def mergeEntries (c n : Entry) : Entry :=
  { c with
    cut := c.cut.or n.cut
    partner := if c.cut.isSome then c.partner.or n.cut else c.partner
    lane := c.lane.or n.lane }

/-- A cut's displacement is judged against its panel (R93, R98). -/
def judgeCut (r : PanelRef) (wanted given : Int) (s : State) : State :=
  match s.cutFlag (given - wanted) with
  | some f => raiseFlag f r s
  | none => s

/-- A lane change is judged for lateness against its intended position, the owner's first trigger less D_SK (R98). -/
def judgeLane (r : PanelRef) (given : Int) (s : State) : State :=
  match s.firstTrigger r with
  | some t => if s.work .rejectTol < given - (t - s.work .dSk) then raiseFlag .laneLate r s else s
  | none => s

/-- A newcomer merged or pushed is judged by the position it was to be placed at and the trigger it is given (R98). -/
def judgeNewcomer (n : Entry) (wanted given : Int) (s : State) : State :=
  let s := match n.cut with
    | some c => judgeCut c.panel wanted given s
    | none => s
  match n.lane with
  | some l => judgeLane l.owner given s
  | none => s

/-- MERGED to both panels when a newcomer's cut joins a cut (R98). -/
def flagMerged (c n : Entry) (s : State) : State :=
  match c.cut, n.cut with
  | some cc, some nc => raiseFlags .merged [cc.panel, nc.panel] s
  | _, _ => s

/-- An entry put at its place in ascending order (R97). -/
def insertEntry (e : Entry) : List Entry → List Entry
  | [] => [e]
  | q :: qs => if e.trigger < q.trigger then e :: q :: qs else q :: insertEntry e qs

/-- A position lies beyond the end-of-web limit (R110). -/
def State.beyondLimit (s : State) (x : Int) : Bool := s.planner.limit.any (fun l => decide (l < x))

/-- The placement of an entry (R97, R98, R110), by at most `fuel` pushes. `old` is the trigger it is moved from, absent for a newcomer and
after a push; `pushed` says that it has been pushed already, and is then judged where it comes to stand (R98, R106); `wanted` is the position it was
to be placed at; `x` the position tried now. -/
def placeEntry : Nat → Option Int → Bool → Int → Entry → Int → State → State
  | 0, _, _, _, _, _, s => s
  | fuel + 1, old, pushed, wanted, e, x, s =>
    match conflictOf (s.work .cutMinSep) old x e s.planner.queue with
    | none =>
      if s.beyondLimit x then s
      else
        let s := setQueue (insertEntry { e with trigger := x } s.planner.queue) s
        if pushed then judgeNewcomer e wanted x s else s
    | some c =>
      if canTake c e then
        let s := setQueue (s.planner.queue.map (fun q => if q = c then mergeEntries c e else q)) s
        judgeNewcomer e wanted c.trigger (flagMerged c e s)
      else placeEntry fuel none true wanted e (c.trigger + s.work .cutMinSep) s

/-- An entry is placed at its trigger as a newcomer, or as a move from an old trigger. -/
def place (old : Option Int) (e : Entry) (s : State) : State :=
  placeEntry (s.planner.queue.length + 1) old false e.trigger { e with state := .pending } e.trigger s

/-! ### Lane changes (R102 to R105) -/

/-- The lane set to be in force once every queued entry is completed (R102). -/
def State.lanesToBe (s : State) : Byte :=
  match (s.planner.queue.filterMap (·.lane)).getLast? with
  | some l => l.lanes
  | none => s.station.laneSet

/-- The trigger of the latest entry that carries a cut (R103). -/
def State.lastCutTrigger (s : State) : Option Int :=
  ((s.planner.queue.filter (fun e => e.cut.isSome)).getLast?).map (·.trigger)

/-- An entry can take a lane change to ride on it, in the lane window from `lo` to `hi` (R104). -/
def canCarryLane (lo : Option Int) (hi : Int) (e : Entry) : Bool :=
  e.cut.isSome && e.lane.isNone && decide (e.state ≠ .executing) && decide (e.trigger ≤ hi)
    && lo.all (fun l => decide (l ≤ e.trigger))

/-- A lane change is placed: riding on the latest entry that can carry it, or as a LANE entry of its own (R104, R105). -/
def placeLane (l : LaneChange) (tOld : Option Int) (tNew : Int) (s : State) : State :=
  let at' := tNew - s.work .dSk
  match (s.planner.queue.filter (canCarryLane (tOld.map (· - s.work .dSk)) at')).getLast? with
  | some c => setQueue (s.planner.queue.map (fun q => if q = c then { q with lane := some l } else q)) s
  | none => place none { cut := none, lane := some l, trigger := at' } s

/-! ### Committing (R99 to R101) -/

/-- How many places a panel needs in the queue (R99). -/
def State.needs (s : State) (p : Panel) : Nat := p.cuts.length + (if p.lanes = s.lanesToBe then 0 else 1)

/-- The queue has room for the panel (R99). -/
def State.hasRoom (s : State) (p : Panel) : Bool := decide (s.needs p + s.planner.queue.length ≤ 32)

/-- The cuts of a panel are placed in cut order at its triggers (R101). -/
def placeCuts (r : PanelRef) (ts : List Int) (s : State) : State :=
  ts.zipIdx.foldl (fun s ti => place none { cut := some ⟨r, ti.2 + 1⟩, trigger := ti.1 } s) s

/-- A panel is committed (R101). -/
def commitPanel (p : Panel) (s : State) : State :=
  let ts := p.triggers.getD []
  let tOld := s.lastCutTrigger
  let change := decide (p.lanes ≠ s.lanesToBe)
  let s := placeCuts p.ref ts (updPanel p.ref (fun q => { q with state := .committed }) s)
  let s := match change, ts.head? with
    | true, some tNew => placeLane ⟨p.lanes, p.ref⟩ tOld tNew s
    | _, _ => s
  targetUpdate s

/-- The panel to be committed next: the first that is not COMMITTED or later, if it stands AT_OUTFEED and has room (R11, R100). -/
def State.nextCommit (s : State) : Option Panel :=
  match s.panels.find? (fun p => decide (p.state = .queued ∨ p.state = .infeed ∨ p.state = .atOutfeed)) with
  | some p => if p.state = .atOutfeed ∧ s.hasRoom p then some p else none
  | none => none

/-- The commits of one event (R100): panel after panel until one does not fit or none is left. -/
def commitLoop : Nat → State → State
  | 0, s => s
  | n + 1, s =>
    match s.nextCommit with
    | some p => commitLoop n (commitPanel p s)
    | none => s

/-- The planner tries its commits (R100). -/
def tryCommits (s : State) : State := commitLoop s.panels.length s

/-! ### Heads, tails and refreshes (R88 to R94, R106) -/

/-- A head resolved at M2 is handed over: L2, its basis and the triggers are written, and the commits tried (R88, R89). -/
def planHead (r : PanelRef) (s : State) : State :=
  let s := updPanel r (fun p => { p with l2 := some (headLength s.reg.s p) }) s
  tryCommits (updPanel r (fun p => { p with triggers := s.triggersOf p }) s)

/-- The entry that serves a panel's cut, as its own or as a partner's. -/
def State.entryOf (s : State) (r : PanelRef) (i : Nat) : Option Entry :=
  s.planner.queue.find? (fun e => e.cuts.any (fun c => c.panel.serial == r.serial && c.index == i))

/-- The record trigger of a cut after a recomputation (R93): the new one while its entry is PENDING or ACTIVE, otherwise the old one. -/
def keptTrigger (entry : Option Entry) (old new : Int) : Int :=
  if entry.any Entry.refreshable then new else old

/-- The judgement of a recomputed trigger whose entry is held (R93). -/
def judgeHeld (r : PanelRef) (entry : Option Entry) (new : Int) (s : State) : State :=
  match entry with
  | some e => if e.fixed ∨ e.partner.isSome then judgeCut r e.trigger new s else s
  | none => s

/-- A standalone LANE entry of the panel that can move (R106). -/
def laneMovesWith (r : PanelRef) (e : Entry) : Bool :=
  e.refreshable && e.isLane && e.lane.any (fun l => l.owner.serial == r.serial)

/-- The panel's entries that move, each with its new trigger, in cut order (R93, R94), wherever they stand in the queue: of each cut from the first on, the entry that
serves it, if that entry is free to move, and the cut's new trigger. -/
def ownMoves (r : PanelRef) (cuts : List (Option Entry × Int)) : List (Entry × Int) :=
  cuts.filterMap (fun x => (x.1.filter (movesWith r)).map (fun e => (e, x.2)))

/-- Moved entries are placed again one by one (R94); one placed again keeps those after it CUT_MIN_SEP away (R97, log entry 38). -/
def placeMoved (moves : List (Entry × Int)) (s : State) : State :=
  moves.foldl (fun s m => place (some m.1.trigger) { m.1 with trigger := m.2 } s) s

/-- A panel's recomputed triggers are applied (R93, R94, R106). -/
def applyTriggers (r : PanelRef) (news : List Int) (p : Panel) (s : State) : State :=
  if p.state = .atOutfeed then updPanel r (fun q => { q with triggers := some news }) s
  else
    let olds := p.triggers.getD []
    let entries := (List.range news.length).map (fun i => s.entryOf r (i + 1))
    let kept := (entries.zip (olds.zip news)).map (fun x => keptTrigger x.1 x.2.1 x.2.2)
    let s := updPanel r (fun q => { q with triggers := some kept }) s
    let s := (entries.zip news).foldl (fun s x => judgeHeld r x.1 x.2 s) s
    let cutMoves := ownMoves r (entries.zip news)
    let own := cutMoves.map (·.1)
    let firstMoves := (entries.head?.bind id).any Entry.refreshable
    let lanes := if firstMoves then s.planner.queue.filter (laneMovesWith r) else []
    let laneMoves := lanes.filterMap (fun e => news.head?.map (fun t => (e, t - s.work .dSk)))
    let before := s.planner.queue.length
    let s := setQueue (s.planner.queue.filter (fun e => !(own.contains e || lanes.contains e))) s
    let s := targetUpdate (placeMoved (cutMoves ++ laneMoves) s)
    if s.planner.queue.length < before then tryCommits s else s

/-- A panel's L2 takes a new value and basis, and its triggers are recomputed and applied; nothing for a DONE panel (R91, R92). -/
def refresh (r : PanelRef) (l : Length2) (s : State) : State :=
  match s.panel? r with
  | some p =>
    if p.state = .done then s
    else
      let s := updPanel r (fun q => { q with l2 := some l }) s
      match s.triggersOf { p with l2 := some l } with
      | some news => applyTriggers r news p s
      | none => s
  | none => s

/-- A tail resolved at M1 after its head at M2: the refresh on the M1 basis (R91). -/
def planTailM1 (r : PanelRef) (s : State) : State :=
  match s.panel? r with
  | some p =>
    match p.aHead, p.aTail, p.bHead with
    | some h, some t, some _ => refresh r ⟨scaleLength (t.pos - h.pos) s.reg.s, .m1⟩ s
    | _, _, _ => s
  | none => s

/-- A tail resolved at M2 is handed over: the tail check and the refresh on the M2 basis (R92). A coasted tail changes nothing. -/
def planTailM2 (r : PanelRef) (s : State) : State :=
  match s.panel? r with
  | some p =>
    match p.bHead, p.bTail, p.l2 with
    | some h, some t, some l =>
      if t.coasted then s
      else if ((t.pos - h.pos) - l.len).natAbs ≤ s.work .tailTol then refresh r ⟨t.pos - h.pos, .m2⟩ s
      else updPanel r (Panel.raiseScale s.reg.lock) s
    | _, _, _ => s
  | none => s

/-! ### Leaving the queue (R108 to R110) -/

/-- The first entry is removed; the target is taken afresh and the commits tried (R108). -/
def removeFirst (s : State) : State := tryCommits (targetUpdate (setQueue s.planner.queue.tail s))

/-- The queue is emptied and the target absent (R109). -/
def emptyQueue (s : State) : State := { s with planner := { s.planner with queue := [], target := none } }

/-- The end-of-web limit is handed over: every PENDING or ACTIVE entry beyond it is removed and the target taken afresh; the room that appears is tried
for commits (R100, R110). -/
def dropBeyond (limit : Int) (s : State) : State :=
  let s := { s with planner := { s.planner with limit := some limit } }
  let before := s.planner.queue.length
  let s := targetUpdate (setQueue (s.planner.queue.filter (fun e => e.fixed || decide (e.trigger ≤ limit))) s)
  if s.planner.queue.length < before then tryCommits s else s

end Sys2Proof.Machine
end

