-- ==== Sys2Proof/Machine/Registration.lean ====
section
/-!
DEFINITION. The Registration Unit: prediction (R69), matches and coasts (R74 to R81), the Disturbance List (R82, R83), resolutions at M2
(R73), the M2 cursor (R67 to R72), and what THREAD, CLEAR and SET-REGISTER do to the unit (R84 to R86).
-/
namespace Sys2Proof.Machine

/-! ### Mode and register changes, with their causes (R77 to R81, R87) -/

/-- The unit while one event acts on it: its state, the cause of the last change of mode and of register state, and the measured stretch if
the match clamped s (R87). -/
structure RegStep where
  reg : RegBlock
  modeCause : Option ModeCause := none
  regCause : Option RegCause := none
  clamped : Option Int := none
  deriving DecidableEq, Repr

/-- In AUTO the register state goes OUT_OF_REGISTER and lock_count to 0, whatever they are (R81). -/
def takeOut (c : RegCause) (x : RegStep) : RegStep :=
  if x.reg.lock = .auto then
    { x with
      reg := { x.reg with register := .outOfRegister, lockCount := 0 }
      regCause := if x.reg.register = .inRegister then some c else x.regCause }
  else x

/-- The mode changes. Leaving FOLLOW in AUTO takes the register state out (R81). -/
def changeMode (m : Mode) (c : ModeCause) (x : RegStep) : RegStep :=
  if x.reg.mode = m then x
  else
    let y : RegStep := { x with reg := { x.reg with mode := m }, modeCause := some c }
    if x.reg.mode = .follow then takeOut .modeLeft y else y

/-- The mode that the manual choice names. -/
def Choice.mode : Choice → Mode
  | .capture => .capture
  | .follow => .follow

/-- A match made in SEEK (R74): the anchor is set and SEEK left, s and lock_count untouched. -/
def seekMatch (a b : Int) (x : RegStep) : RegStep :=
  changeMode (if x.reg.lock = .auto then .capture else x.reg.choice.mode) .seekMatch
    { x with reg := { x.reg with anchor := some (a, b), coastCount := 0 } }

/-- The stretch measured over a span `d` (R75). -/
def measuredStretch (b bk d : Int) : Int := roundDiv ((b - bk - d) * 1000000) d.toNat

/-- The gain of a mode (R75). -/
def Mode.gain : Mode → Nat
  | .follow => 8
  | _ => 2

/-- Stretch and anchor at a match in CAPTURE or FOLLOW (R75, R76). -/
def learn (spanMin sMax a b : Int) (x : RegStep) : RegStep :=
  match x.reg.anchor with
  | some (ak, bk) =>
    let d := a - ak
    if 0 < d ∧ spanMin ≤ d then
      let meas := measuredStretch b bk d
      let new := x.reg.s + roundDiv (meas - x.reg.s) x.reg.mode.gain
      let held := clampInt (-sMax) sMax new
      { x with
        reg := { x.reg with s := held, anchor := some (a, b) }
        clamped := if held = new then x.clamped else some meas }
    else x
  | none => x

/-- The register detector's judgement of an error, in AUTO while the mode in force is FOLLOW (R80). DESIGN CHOICE (log entry 36): the row of |e| within
LOCK_IN is taken first, so that with LOCK_IN above LOCK_OUT, which R203 does not exclude, an error between the two keeps IN_REGISTER. -/
def judgeMatch (lockIn lockOut : Int) (nLock : Nat) (e : Int) (x : RegStep) : RegStep :=
  if x.reg.lock = .auto ∧ x.reg.mode = .follow then
    if e.natAbs ≤ lockIn then
      let n := min (x.reg.lockCount + 1) nLock
      let lockedNow := decide (x.reg.register ≠ .inRegister) && decide (nLock ≤ n)
      { x with
        reg := { x.reg with lockCount := n, register := if lockedNow then .inRegister else x.reg.register }
        regCause := if lockedNow then some .locked else x.regCause }
    else if x.reg.register = .inRegister ∧ lockOut < e.natAbs then takeOut .error x
    else { x with reg := { x.reg with lockCount := 0 } }
  else x

/-- The mode after a match in CAPTURE or FOLLOW, in AUTO (R77). -/
def trackMatch (trackIn trackOut : Int) (e : Int) (x : RegStep) : RegStep :=
  if x.reg.lock = .auto then
    if x.reg.mode = .capture ∧ e.natAbs ≤ trackIn then changeMode .follow .trackIn x
    else if x.reg.mode = .follow ∧ trackOut < e.natAbs then changeMode .capture .trackOut x
    else x
  else x

/-- A match at outfeed coordinate `b` of the mark at infeed coordinate `a`, predicted at `bHat` (R74 to R81). -/
def regMatch (s : State) (a b bHat : Int) : RegStep :=
  let x : RegStep := { reg := s.reg }
  if s.reg.mode = .seek then seekMatch a b x
  else
    let x := learn (s.work .spanMin) (s.work .sMax) a b { x with reg := { x.reg with coastCount := 0 } }
    let x := judgeMatch (s.work .lockIn) (s.work .lockOut) (s.workNat .nLock) (b - bHat) x
    trackMatch (s.work .trackIn) (s.work .trackOut) (b - bHat) x

/-- A coast (R78, R81): anchor and s untouched. -/
def regCoast (s : State) : RegStep :=
  let n := min (s.reg.coastCount + 1) 15
  let x := takeOut .coast { reg := { s.reg with coastCount := n } }
  if s.workNat .nSeek ≤ n ∧ x.reg.mode ≠ .seek then changeMode .seek .seekCoasts x
  else if x.reg.lock = .auto ∧ s.workNat .nCoast ≤ n ∧ x.reg.mode = .follow then changeMode .capture .coasts x
  else x

/-- The points at or below a resolved mark's infeed coordinate are consumed (R83). -/
def consumePoints (a : Int) (x : RegStep) : RegStep :=
  let left := x.reg.points.filter (fun p => decide (a < p.pos))
  let y : RegStep := { x with reg := { x.reg with points := left } }
  if left.length = x.reg.points.length then x
  else if x.reg.lock = .auto then
    let y := takeOut .disturbance y
    if y.reg.mode = .follow then changeMode .capture .disturbance y else y
  else y

/-- The events of a change of the unit: MODE and REGISTER, each only if its state differs from what it was before (R87). -/
def regEvents (before : RegBlock) (x : RegStep) : List Event :=
  (match x.modeCause with
    | some c => if x.reg.mode = before.mode then [] else [.mode x.reg.mode c x.reg.lock]
    | none => [])
  ++ (match x.regCause with
    | some c => if x.reg.register = before.register then [] else [.register x.reg.register c]
    | none => [])

/-- The unit takes the state a step left it, and its MODE and REGISTER events are queued. DESIGN CHOICE (log entry 37): MODE before REGISTER also where the event is no
resolution (a list overflow, THREAD, CLEAR); R87's order is that of a resolution. -/
def applyReg (x : RegStep) (s : State) : State := queueEvents (regEvents s.reg x) { s with reg := x.reg }

/-! ### The Disturbance List (R82) -/

/-- A point at its place in ascending order. -/
def insertPoint (p : Point) : List Point → List Point
  | [] => [p]
  | q :: qs => if p.pos < q.pos then p :: q :: qs else q :: insertPoint p qs

/-- A point is added: absorbed at an equal position, discarded as a seventeenth (which in AUTO takes FOLLOW to CAPTURE), or inserted (R82). -/
def addPoint (k : PointKind) (pos : Int) (s : State) : State :=
  if s.reg.points.any (fun p => decide (p.pos = pos)) then s
  else if s.reg.points.length < 16 then
    { s with reg := { s.reg with points := insertPoint ⟨k, pos⟩ s.reg.points } }
  else if s.reg.lock = .auto ∧ s.reg.mode = .follow then applyReg (changeMode .capture .overflow { reg := s.reg }) s
  else s

/-! ### Prediction (R69, R70) -/

/-- The predicted outfeed coordinate of a mark (R69). Without anchor and K the value is open (log entry 4). -/
def State.predict (s : State) (a : Int) : Int :=
  match s.reg.anchor, s.loop.k with
  | some (ak, bk), _ => bk + (a - ak) + roundDiv ((a - ak) * s.reg.s) 1000000
  | none, some k => a + k
  | none, none => Config.predictionWithoutReference a

/-- The half-width of a window by the mode (R70). -/
def State.halfWidth (s : State) : Int :=
  match s.reg.mode with
  | .seek => s.work .wSeek
  | .capture => s.work .wAcq
  | .follow => s.work .wTrk

/-- The window of an expectation taken up now for infeed coordinate `a` (R69, R70). -/
def State.window2 (s : State) (a : Int) : Window2 :=
  let b := s.predict a
  let w := s.halfWidth
  { a, takeUp := s.p2, predicted := b, half := w, lower := max (b - w) s.p2, upper := b + w }

/-! ### The M2 cursor (R67, R68) -/

/-- A bar in progress has begun before the expectation now taken up (R53, R71). -/
def Bar.markStale : Bar → Bar
  | .counting l _ => .counting l true
  | b => b

/-- What the M2 cursor expects next (R68): the panel, the mark, and its infeed coordinate if it has one. -/
def State.next2 (s : State) : Option (PanelRef × Mark × Option Int) :=
  let tail := s.cursor2.lastHead.bind (fun r => (s.panel? r).bind (fun p =>
    if p.bTail.isNone ∧ p.completion ≠ some .aborted then some (r, Mark.tail, p.aTail.map (·.pos)) else none))
  let head := (s.panels.find? (fun p => decide (p.state = .infeed))).map (fun p => (p.ref, Mark.head, p.aHead.map (·.pos)))
  tail.or head

/-- The cursor takes up an expectation: WINDOW where the infeed coordinate is present, AWAIT where it is not, IDLE with nothing to expect
(R68, R70). -/
def setExpect2 (s : State) : State :=
  match s.next2 with
  | some (r, m, some a) =>
    let w := s.window2 a
    { s with
      cursor2 := { s.cursor2 with state := .window, expect := some ⟨r, m, some w⟩, deciding := false }
      watches := { s.watches with m2Window := some (watchPasses s.p2 w.upper) }
      sensor2 := { s.sensor2 with bar := s.sensor2.bar.markStale } }
  | some (r, m, none) =>
    { s with
      cursor2 := { s.cursor2 with state := .await, expect := some ⟨r, m, none⟩, deciding := false }
      watches := { s.watches with m2Window := none } }
  | none =>
    { s with
      cursor2 := { s.cursor2 with state := .idle, expect := none, deciding := false }
      watches := { s.watches with m2Window := none } }

/-- The open window's upper edge lies below P2 at its take-up: the mark is coasted at once (R70). -/
def State.late2 (s : State) : Bool :=
  decide (s.cursor2.state = .window) && (s.cursor2.expect.bind (·.window)).any (fun w => decide (w.upper < w.takeUp))

/-! ### Resolutions at M2 (R73) -/

/-- The coordinate of a resolved mark is written to the panel, and a resolved head moves it to AT_OUTFEED (R5, R10, R73). -/
def writeMark2 (m : Mark) (c : Coord) (p : Panel) : Panel :=
  match m with
  | .head => { p with bHead := some c, state := if p.state = .infeed then .atOutfeed else p.state }
  | .tail => { p with bTail := some c }

/-- The flags a resolution gives its panel (R73). -/
def flags2 (m : Mark) (coasted : Bool) (x : RegStep) : List Flag :=
  (if m = .head ∧ x.reg.lock = .auto ∧ x.reg.register = .outOfRegister then [.unlocked] else [])
    ++ (if m = .head ∧ x.clamped.isSome then [.stretchLimit] else [])
    ++ (if coasted then [.coastedM2] else [])

/-- The resolved mark is handed to the Cut Planner (R73). -/
def handToPlanner (m : Mark) (r : PanelRef) (s : State) : State :=
  match m with
  | .head => planHead r s
  | .tail => planTailM2 r s

/-- The events of a resolution, in the order of R87. -/
def events2 (r : PanelRef) (m : Mark) (coasted : Bool) (before : RegBlock) (x : RegStep) : List Event :=
  (if coasted then [.markCoast .m2 r.id m] else [])
    ++ (match x.clamped with
      | some meas => [.stretchLimit (some r.id) (some m) meas x.reg.s]
      | none => [])
    ++ regEvents before x

/-- A mark is resolved at M2, matched or coasted, all but the take-up of the next expectation (R73). -/
def resolveM2 (coasted : Bool) (b : Int) (s : State) : State :=
  match s.cursor2.expect with
  | some ⟨r, m, some w⟩ =>
    let before := s.reg
    let x := consumePoints w.a (if coasted then regCoast s else regMatch s w.a b w.predicted)
    let inList := (s.panel? r).isSome
    let s : State := { s with
      reg := x.reg
      cursor2 := { state := .idle, expect := none, lastHead := if m = .head then some r else none, deciding := false }
      watches := { s.watches with m2Window := none } }
    let s := updPanel r (fun p => (flags2 m coasted x).foldl (fun p f => p.raise f) (writeMark2 m ⟨b, coasted⟩ p)) s
    let s := if inList then handToPlanner m r s else s
    queueEvents (events2 r m coasted before x) s
  | _ => s

/-- The M2 cursor takes up its next expectation, resolving by a coast every mark whose window P2 has left behind (R68, R70). -/
def takeUp2 : Nat → State → State
  | 0, s => s
  | n + 1, s =>
    let s := setExpect2 s
    if s.late2 then
      match s.cursor2.expect.bind (·.window) with
      | some w => takeUp2 n (resolveM2 true w.predicted s)
      | none => s
    else s

/-- Two marks for each of the 48 slots: no take-up resolves more. -/
def markBound : Nat := 100

/-- A mark is resolved at M2 and the cursor takes up its next expectation (R73). -/
def settleM2 (coasted : Bool) (b : Int) (s : State) : State := takeUp2 markBound (resolveM2 coasted b s)

/-- The M1 cursor has resolved a head or a tail: the M2 cursor takes up from IDLE or AWAIT (R68). -/
def notifyM2 (s : State) : State :=
  if s.cursor2.state = .idle ∨ s.cursor2.state = .await then takeUp2 markBound s else s

/-- The open mark is coasted at its predicted position (R72). -/
def coastM2 (s : State) : State :=
  match s.cursor2.expect.bind (·.window) with
  | some w => settleM2 true w.predicted s
  | none => s

/-- A bar report from M2 (R71). DESIGN CHOICE (log entry 45): R71's test alone decides, so that a second mark-like bar which begins after the first one's trailing
edge, and so after the take-up that edge brings, resolves the next mark where its window holds it; R71's remark says of such a bar that it began before
that take-up and cannot. -/
def reportM2 (leading : Int) (stale : Bool) (s : State) : State :=
  match s.cursor2.state, s.cursor2.expect.bind (·.window) with
  | .window, some w =>
    if stale = false ∧ w.lower ≤ leading ∧ leading ≤ w.upper then settleM2 false leading s else s
  | _, _ => s

/-- A bar at M2 was discarded or became IGNORING: a mark whose decision waited for it is coasted (R72). -/
def lostBarM2 (s : State) : State := if s.cursor2.deciding then coastM2 s else s

/-- The watch on the M2 window's upper edge fires: coast, unless a bar in progress is a candidate (R72). -/
def expireM2 (s : State) : State :=
  match s.cursor2.expect.bind (·.window) with
  | some w =>
    let s := { s with watches := { s.watches with m2Window := none } }
    match s.sensor2.bar with
    | .counting l false =>
      if w.lower ≤ l ∧ l ≤ w.upper then { s with cursor2 := { s.cursor2 with deciding := true } } else coastM2 s
    | _ => coastM2 s
  | none => s

/-! ### Line events and requests (R76, R84 to R86) -/

/-- The stretch a THREAD or a reset starts from: S_INIT clamped to S_MAX (R76). -/
def State.initialStretch (s : State) : Int := clampInt (-(s.work .sMax)) (s.work .sMax) (s.work .sInit)

/-- THREAD resets the unit for a new web (R85). DESIGN CHOICE (log entry 37): of the unit's events in one THREAD, STRETCH_LIMIT is queued first, then MODE, then
REGISTER; R87's order is that of a resolution, and R85 gives none. -/
def threadReg (s : State) : State :=
  let s0 := s.initialStretch
  let x : RegStep := changeMode .seek .thread { reg := s.reg }
  let y := takeOut .thread { x with reg := { x.reg with register := s.reg.register }, regCause := none }
  let reg : RegBlock := { y.reg with anchor := none, s := s0, lockCount := 0, coastCount := 0, points := [] }
  let s := if s0 = s.work .sInit then s else queueEvent (.stretchLimit none none (s.work .sInit) s0) s
  let s := applyReg { y with reg := reg } s
  { s with
    cursor2 := { state := .idle, expect := none, lastHead := none, deciding := false }
    watches := { s.watches with m2Window := none } }

/-- The M2 cursor drops its expectation; a HALTED cursor stays HALTED (R86). -/
def dropExpect2 (s : State) : State :=
  if s.cursor2.state = .halted then { s with cursor2 := { s.cursor2 with lastHead := none } }
  else
    { s with
      cursor2 := { state := .idle, expect := none, lastHead := none, deciding := false }
      watches := { s.watches with m2Window := none } }

/-- CLEAR acts on the unit (R86), after the panels have been aborted. DESIGN CHOICE (log entry 37): of the unit's events in one CLEAR, MODE is queued before REGISTER;
R86 and R87 give no order there. -/
def clearReg (s : State) : State :=
  let x : RegStep := changeMode .seek .clear { reg := s.reg }
  let y := takeOut .clear { x with reg := { x.reg with register := s.reg.register }, regCause := none }
  let reg : RegBlock := { y.reg with anchor := none, lockCount := 0, coastCount := 0, points := [] }
  let s := dropExpect2 (applyReg { y with reg := reg } s)
  if s.cursor2.state = .halted then s else takeUp2 markBound s

/-- The end-of-web abort has reached the panels: an expectation of an aborted panel is dropped and the cursor takes up again (R86). -/
def dropAborted2 (s : State) : State :=
  match s.cursor2.expect with
  | some e =>
    if (s.panel? e.panel).any (fun p => decide (p.completion = some .aborted)) ∧ s.cursor2.state ≠ .halted then
      takeUp2 markBound (dropExpect2 s)
    else s
  | none => s

/-- FETCH-DONE has freed panels: a cursor in AWAIT for a freed panel becomes IDLE (R86). -/
def freedAwait2 (s : State) : State :=
  match s.cursor2.state, s.cursor2.expect with
  | .await, some e =>
    if (s.panel? e.panel).isNone then
      { s with cursor2 := { state := .idle, expect := none, lastHead := none, deciding := false } }
    else s
  | _, _ => s

/-- The lock mode and manual choice are set (R84). -/
def setRegister (lock : LockMode) (choice : Choice) (s : State) : State :=
  match s.reg.lock, lock with
  | .auto, .auto => s
  | _, .manual =>
    let x : RegStep := { reg := { s.reg with lock := .manual, register := .none, lockCount := 0, choice := choice } }
    applyReg (if s.reg.mode = .seek then x else changeMode choice.mode .host x) s
  | .manual, .auto =>
    applyReg { reg := { s.reg with lock := .auto, register := .outOfRegister, lockCount := 0 }, regCause := some .host } s

/-- A CAL-WRITE has changed S_MAX: s is clamped to the new limit (R76). -/
def clampStretch (s : State) : State :=
  let new := clampInt (-(s.work .sMax)) (s.work .sMax) s.reg.s
  if new = s.reg.s then s
  else queueEvent (.stretchLimit none none s.reg.s new) { s with reg := { s.reg with s := new } }

end Sys2Proof.Machine
end

