-- ==== Sys2Proof/Machine/MarkCursor.lean ====
section
/-!
DEFINITION. The M1 cursor: what it expects next (R51, R52), how a mark at M1 is resolved by a bar, a seek or a coast (R53 to R55), its bar reports and
its window watch, the print splice's hold (R59), the line events that act on it (R56), and the starvation base it hands the Section Drives (R57, R145).
-/
namespace Sys2Proof.Machine

/-- What the M1 cursor can take up (R51). -/
inductive Next1 where
  | tail (panel : PanelRef) (expected : Int)
  | head (panel : PanelRef) (expected : Option Int)
  | nothing
  deriving DecidableEq, Repr

/-- What the M1 cursor expects next (R51, R52): the tail of the panel whose head it last resolved, else the head of the first QUEUED panel, with its
expected position where the last tail is present. -/
def State.next1 (s : State) : Next1 :=
  let tail := s.cursor1.lastHead.bind (fun r => (s.panel? r).bind (fun p =>
    if p.aTail.isNone ∧ p.completion ≠ some .aborted then p.aHead.map (fun a => Next1.tail r (a.pos + p.lNom)) else none))
  match tail with
  | some t => t
  | none =>
    match s.panels.find? (fun p => decide (p.state = .queued)) with
    | some p => .head p.ref (s.cursor1.lastTail.map (· + p.gNom))
    | none => .nothing

/-- The cursor's state and expectation are set. -/
def setCursor1 (st : M1State) (e : Option Expect1) (s : State) : State :=
  { s with cursor1 := { s.cursor1 with state := st, expect := e, deciding := false } }

/-- A mark is taken up in WINDOW around its expected position, with the watch on the upper edge (R52). -/
def openWindow1 (r : PanelRef) (m : Mark) (expected : Int) (s : State) : State :=
  let w1 := s.work .w1
  let w : Window1 := { expected, lower := max (expected - w1) s.p1, upper := expected + w1 }
  let s := setCursor1 .window (some { panel := r, mark := m, takeUp := s.p1, window := some w }) s
  { s with watches := { s.watches with m1Window := some (watchPasses s.p1 w.upper) } }

/-- The cursor becomes IDLE. If it was not, the starvation base is the last tail, or P1 at this event (R57, R145). -/
def becomeIdle1 (s : State) : State :=
  let base := if s.cursor1.state = .idle then s.drives.starveBase else some (s.cursor1.lastTail.getD s.p1)
  setCursor1 .idle none { s with drives := { s.drives with starveBase := base } }

/-- The cursor takes up what it expects next (R51). A bar in progress began before it. -/
def setExpect1 (s : State) : State :=
  let s := { s with
    watches := { s.watches with m1Window := none }
    sensor1 := { s.sensor1 with bar := s.sensor1.bar.markStale } }
  match s.next1 with
  | .tail r e => openWindow1 r .tail e s
  | .head r e =>
    if s.cursor1.holdLimit.isSome then setCursor1 .spliceHold (some { panel := r, mark := .head, takeUp := s.p1 }) s
    else
      match s.cursor1.seekPending, e with
      | false, some x => openWindow1 r .head x s
      | _, _ => setCursor1 .seek (some { panel := r, mark := .head, takeUp := s.p1 }) s
  | .nothing => becomeIdle1 s

/-- The open window's upper edge lies below P1 at its take-up: the mark is coasted at once (R52). -/
def State.late1 (s : State) : Bool :=
  decide (s.cursor1.state = .window)
    && s.cursor1.expect.any (fun e => e.window.any (fun w => decide (w.upper < e.takeUp)))

/-- The coordinate of a resolved mark is written to the panel; a resolved head moves it to INFEED (R5, R9). -/
def writeMark1 (m : Mark) (c : Coord) (p : Panel) : Panel :=
  match m with
  | .head => { p with aHead := some c, state := if p.state = .queued then .infeed else p.state }
  | .tail => { p with aTail := some c }

/-- The records of the cursor after a mark is resolved (R53, R55): a head clears seek pending, which a head in WINDOW finds clear; a tail becomes
the last tail. -/
def afterMark1 (m : Mark) (r : PanelRef) (pos : Int) (c : Cursor1) : Cursor1 :=
  match m with
  | .head => { c with lastHead := some r, seekPending := false, deciding := false }
  | .tail => { c with lastHead := none, lastTail := some pos, deciding := false }

/-- A mark is resolved at M1, seen or coasted, all but the take-up of the next expectation (R53, R54, R55). DESIGN CHOICE (log entry 54): the M2 cursor takes up, and
resolves what it coasts at once, before the M1 cursor's next take-up; R51 and R68 give no order. -/
def resolveM1 (coasted : Bool) (pos : Int) (s : State) : State :=
  match s.cursor1.expect with
  | some e =>
    let s := { s with
      cursor1 := { afterMark1 e.mark e.panel pos s.cursor1 with expect := none }
      watches := { s.watches with m1Window := none } }
    let s := updPanel e.panel (fun p =>
      let q := writeMark1 e.mark ⟨pos, coasted⟩ p
      if coasted then q.raise .coastedM1 else q) s
    let s := if coasted then queueEvent (.markCoast .m1 e.panel.id e.mark) s else s
    notifyM2 (if e.mark = .tail then planTailM1 e.panel s else s)
  | none => s

/-- The M1 cursor takes up its next expectation, coasting every mark whose window P1 has left behind (R51, R52). -/
def takeUp1 : Nat → State → State
  | 0, s => s
  | n + 1, s =>
    let s := setExpect1 s
    if s.late1 then
      match s.cursor1.expect.bind (·.window) with
      | some w => takeUp1 n (resolveM1 true w.expected s)
      | none => s
    else s

/-- The cursor takes up, unless it is HALTED (R51). -/
def takeUpM1 (s : State) : State := if s.cursor1.state = .halted then s else takeUp1 markBound s

/-- A mark is resolved at M1 and the cursor takes up its next expectation (R51). -/
def settleM1 (coasted : Bool) (pos : Int) (s : State) : State := takeUpM1 (resolveM1 coasted pos s)

/-- The mark of the open window is coasted at its expected position (R54). -/
def coastM1 (s : State) : State :=
  match s.cursor1.expect.bind (·.window) with
  | some w => settleM1 true w.expected s
  | none => s

/-- A bar report from M1 (R53, R55). DESIGN CHOICE (log entry 58): R53's test alone decides, so that a second mark-like bar which begins after the first one's trailing
edge, and so after the take-up that edge brings, resolves the next mark where its window holds it; R53's remark says that a second such bar inside the same
window resolves nothing. -/
def reportM1 (leading : Int) (stale : Bool) (s : State) : State :=
  match s.cursor1.state, s.cursor1.expect.bind (·.window) with
  | .window, some w =>
    if stale = false ∧ w.lower ≤ leading ∧ leading ≤ w.upper then settleM1 false leading s else s
  | .seek, _ => if stale then s else settleM1 false leading s
  | _, _ => s

/-- A bar at M1 was discarded or became IGNORING: a mark whose decision waited for it is coasted (R54). -/
def lostBarM1 (s : State) : State := if s.cursor1.deciding then coastM1 s else s

/-- The watch on the M1 window's upper edge fires: coast, unless a bar in progress is a candidate (R54). -/
def expireM1 (s : State) : State :=
  match s.cursor1.expect.bind (·.window) with
  | some w =>
    let s := { s with watches := { s.watches with m1Window := none } }
    match s.sensor1.bar with
    | .counting l false =>
      if w.lower ≤ l ∧ l ≤ w.upper then { s with cursor1 := { s.cursor1 with deciding := true } } else coastM1 s
    | _ => coastM1 s
  | none => s

/-- The hold watch fires: the hold limit goes, and a held head is taken up in SEEK (R59). -/
def releaseHold1 (s : State) : State :=
  let s : State := { s with
    cursor1 := { s.cursor1 with holdLimit := none }
    watches := { s.watches with hold := none } }
  if s.cursor1.state = .spliceHold then takeUpM1 s else s

/-- A print splice acts on the cursor (R59): a tail in WINDOW is coasted, a head dropped; seek pending is set, the hold limit moves on, and the cursor
takes up again. -/
def spliceCursor1 (limit : Int) (s : State) : State :=
  let isTail := decide (s.cursor1.state = .window) && s.cursor1.expect.any (fun e => decide (e.mark = .tail))
  let s := match isTail, s.cursor1.expect.bind (·.window) with
    | true, some w => resolveM1 true w.expected s
    | _, _ => s
  let hold := match s.cursor1.holdLimit with
    | some h => max h limit
    | none => limit
  let s : State := { s with
    cursor1 := { s.cursor1 with seekPending := true, holdLimit := some hold, lastHead := none }
    watches := { s.watches with hold := some (watchPasses s.p1 hold) } }
  takeUpM1 s

/-- The cursor becomes HALTED (R56): its expectation and its window watch go. -/
def haltM1 (s : State) : State :=
  { setCursor1 .halted none s with watches := { s.watches with m1Window := none } }

/-- THREAD takes the cursor to IDLE and then to a head if a QUEUED panel exists (R56). The positions are 0 by then. -/
def threadM1 (s : State) : State :=
  takeUpM1 (becomeIdle1 { s with cursor1 := { (s.cursor1) with
    seekPending := true, lastTail := none, holdLimit := none, lastHead := none, state := .seek } })

/-- CLEAR acts on the cursor (R56): IDLE again unless HALTED, seek pending set, last tail absent, hold limit kept. -/
def clearM1 (s : State) : State :=
  let s : State := { s with cursor1 := { s.cursor1 with seekPending := true, lastTail := none, lastHead := none } }
  if s.cursor1.state = .halted then s
  else takeUpM1 (becomeIdle1 { setCursor1 .seek none s with watches := { s.watches with m1Window := none } })

end Sys2Proof.Machine
end

