-- ==== Sys2Proof/Machine/LamOps.lean ====
section
/-!
DEFINITION. The Laminator's mechanisms: targets and heat states (R152, R153, R157, R158), the nip and its confirms (R159 to R161), the temperature
results (R154 to R157), and the conditions under which the idle and dwell timers run (R158, R162).
-/
namespace Sys2Proof.Machine

/-- The laminator block is changed. -/
def updLam (f : Laminator → Laminator) (s : State) : State := { s with lam := f s.lam }

/-- Hot mode: WARMING, READY or STANDBY. -/
def Heat.hot (h : Heat) : Bool := decide (h ≠ .off)

/-! ### Heat (R152, R153, R158) -/

/-- The target of a heat state at a setpoint (R152). -/
def State.targetFor (s : State) (h : Heat) (setpoint : Nat) : Option Int :=
  match h with
  | .off => none
  | .standby => some (max 0 ((setpoint : Int) - s.work .standbyDrop))
  | _ => some setpoint

/-- Heat state and setpoint change, with the target that follows them. A falling target disarms the relative overtemperature test (R153, R155). -/
def setHeat (h : Heat) (setpoint : Nat) (s : State) : State :=
  let t := s.targetFor h setpoint
  let falls := match s.lam.target, t with
    | some old, some new => decide (new < old)
    | _, none => true
    | none, some _ => false
  updLam (fun l => { l with
    setpoint := setpoint, heat := h, target := t, armed := if falls then false else l.armed }) s

/-- A new setpoint is accepted (R153). -/
def acceptHeat (v : Nat) (s : State) : State :=
  if v = s.lam.setpoint then s
  else if v = 0 then
    updLam (fun l => { l with heater := false, settle := none, idle := none, armed := false }) (setHeat .off 0 s)
  else
    match s.lam.heat with
    | .standby => setHeat .standby v s
    | _ => updLam (fun l => { l with settle := none }) (setHeat .warming v s)

/-- The idle timer has run out: STANDBY (R158). -/
def enterStandby (s : State) : State :=
  updLam (fun l => { l with settle := none, idle := none, armed := false }) (setHeat .standby s.lam.setpoint s)

/-- A RUN takes STANDBY to WARMING (R158). -/
def leaveStandby (s : State) : State :=
  if s.straps.laminator ∧ s.lam.heat = .standby then setHeat .warming s.lam.setpoint s else s

/-! ### The nip (R159 to R161) -/

/-- A CLOSING nip whose NIP_CLOSED is active becomes CLOSED, an OPENING nip whose NIP_OPEN is active OPEN; the timer stops (R159). A closure with the reclose
record set adds a NIP_RECLOSE point and clears the record (R161). -/
def confirmNip (s : State) : State :=
  match s.lam.nip with
  | .closing =>
    if s.inputs.nipClosed then
      let s' := updLam (fun l => { l with nip := .closed, nipTimer := none, reclose := false }) s
      if s.lam.reclose then addPoint .nipReclose (s.p1 - s.work .dNip) s' else s'
    else s
  | .opening => if s.inputs.nipOpen then updLam (fun l => { l with nip := .opened, nipTimer := none }) s else s
  | _ => s

/-- The close command (R159). -/
def commandClose (s : State) : State :=
  match s.lam.nip with
  | .opened =>
    confirmNip (updLam (fun l => { l with
      nip := .closing, commandClose := true, nipTimer := some (s.startTimer (s.workNat .nipTimeout)) }) s)
  | .opening =>
    confirmNip (updLam (fun l => { l with
      nip := .closing, commandClose := true, nipTimer := some (s.startTimer (s.workNat .nipTimeout)) }) s)
  | _ => s

/-- The open command, given for one of the causes of R161, which also sets the reclose record. Nothing without the strap (R151). -/
def commandOpen (s : State) : State :=
  if s.straps.laminator then
    let s := updLam (fun l => { l with reclose := true }) s
    match s.lam.nip with
    | .closed =>
      confirmNip (updLam (fun l => { l with
        nip := .opening, commandClose := false, nipTimer := some (s.startTimer (s.workNat .nipTimeout)) }) s)
    | .closing =>
      confirmNip (updLam (fun l => { l with
        nip := .opening, commandClose := false, nipTimer := some (s.startTimer (s.workNat .nipTimeout)) }) s)
    | _ => s
  else s

/-- The close demand of R160: feeding, READY or OFF, something to feed, and the nip OPEN or OPENING. -/
def State.closeDemand (s : State) : Bool :=
  s.straps.laminator && s.feeding && decide (s.lam.heat = .ready ∨ s.lam.heat = .off)
    && decide (0 < min s.drives.setpoint (min s.loopAllowance s.lineAllowance))
    && decide (s.lam.nip = .opened ∨ s.lam.nip = .opening)

/-- A confirm input of a CLOSED or OPEN nip goes inactive without a command (R159): it becomes CLOSING or OPENING with its timer; a nip that springs open
sets the reclose record (R161). -/
def springNip (i : NipInput) (s : State) : State :=
  let t := some (s.startTimer (s.workNat .nipTimeout))
  match i, s.lam.nip with
  | .nipClosed, .closed => updLam (fun l => { l with nip := .closing, nipTimer := t, reclose := true }) s
  | .nipOpen, .opened => updLam (fun l => { l with nip := .opening, nipTimer := t }) s
  | _, _ => s

/-! ### Temperature results (R154 to R157) -/

/-- The relative limit of the overtemperature test: the target plus T_OVER (R155). -/
def State.overLimit (s : State) : Int := s.lam.target.getD 0 + s.work .tOver

/-- A temperature is over a limit (R155): the absolute one, or the relative one while armed in hot mode. -/
def State.isOver (s : State) (t : Nat) : Bool :=
  decide (1500 ≤ t) || (s.lam.armed && s.lam.heat.hot && decide (s.overLimit ≤ t))

/-- A temperature clears the lockout (R155). -/
def State.clearsLockout (s : State) (t : Nat) : Bool :=
  decide (t < 1500) && (!s.lam.heat.hot || decide ((t : Int) < s.overLimit))

/-- The lockout after a temperature (R155). -/
def State.lockoutAfter (s : State) (t : Nat) : Bool := s.isOver t || (s.lam.lockout && !s.clearsLockout t)

/-- The relative test is armed by a temperature below its limit in hot mode (R155). -/
def State.armedAfter (s : State) (t : Nat) : Bool :=
  s.lam.armed || (s.lam.heat.hot && decide ((t : Int) < s.overLimit))

/-- The heater after a temperature with the lockout as it then stands (R155, R156). -/
def State.heaterAfter (s : State) (t : Nat) (lockout : Bool) : Bool :=
  if lockout then false
  else
    match s.lam.target with
    | none => false
    | some g => if (t : Int) < g - 20 then true else if g ≤ t then false else s.lam.heater

/-- The settle test of a temperature (R157). -/
def settleTest (t : Nat) (s : State) : State :=
  let inBand := decide ((s.lam.setpoint : Int) - s.work .tBand ≤ t)
  match s.lam.heat, inBand with
  | .warming, true =>
    if s.lam.settle.isSome then s
    else if s.workNat .settle = 0 then setHeat .ready s.lam.setpoint s
    else updLam (fun l => { l with settle := some (s.startTimer (1000 * s.workNat .settle)) }) s
  | .warming, false => updLam (fun l => { l with settle := none }) s
  | .ready, false => setHeat .warming s.lam.setpoint s
  | _, _ => s

/-- The temperature is lost: a WARMING roller's settle timer stops, a READY one goes back to WARMING (R157). -/
def loseTemperature (s : State) : State :=
  match s.lam.heat with
  | .warming => updLam (fun l => { l with settle := none }) s
  | .ready => setHeat .warming s.lam.setpoint s
  | _ => s

/-! ### Conditions of the timers (R158, R162) -/

/-- The idle timer runs (R158). -/
def State.idleRuns (s : State) : Bool :=
  s.straps.laminator && decide (s.line.state = .holding ∨ s.line.state = .threaded)
    && decide (s.lam.heat = .warming ∨ s.lam.heat = .ready)

/-- The idle timer starts in the event that makes its condition true, and stops in the one that makes it false (R158). DESIGN CHOICE (log entry 48): the condition is
judged as the event ends, so that a RUN which FILM_OUT or STACK_FULL takes back to HOLDING in the same request neither stops nor restarts a running timer. -/
def idleUpdate (s : State) : State :=
  if s.idleRuns then
    if s.lam.idle.isSome then s
    else updLam (fun l => { l with idle := some (s.startTimer (1000 * s.workNat .tIdle)) }) s
  else if s.lam.idle.isSome then updLam (fun l => { l with idle := none }) s
  else s

/-- The dwell timer runs (R162). -/
def State.dwellRuns (s : State) : Bool :=
  s.straps.laminator && s.lam.heat.hot && decide (s.lam.nip = .closed) && decide (s.drives.infeedRef = 0)

/-- The dwell timer starts from zero in the event that makes its condition true, and stops in the one that makes it false (R162). DESIGN CHOICE (log entry 46): so a
fault ends a dwell under way, since R161 opens the nip in the fault's event and R162's second condition fails there; R162's remark that a timer running when
the line faults runs on is taken of the infeed reference alone. DESIGN CHOICE (log entry 48): the three conditions are judged as the event ends, so that a RUN which
FILM_OUT or STACK_FULL ends in the same request leaves a dwell under way running on. -/
def dwellUpdate (s : State) : State :=
  if s.dwellRuns then
    if s.lam.dwell.isSome then s
    else updLam (fun l => { l with dwell := some ⟨s.now, s.workNat .dwellMark, s.workNat .dwellMax, false⟩ }) s
  else if s.lam.dwell.isSome then updLam (fun l => { l with dwell := none }) s
  else s

end Sys2Proof.Machine
end

