-- ==== Sys2Proof/Machine/LineControl.lean ====
section
/-!
DEFINITION. Line Control: taking a fault (R178, R179), taking the E-stop (R180), stops handed over and how they begin and end (R169 to R173), the drain
test of the end-of-web sequence (R148), and the conditions under which RESUME counts a cause as present (R182, table of Faults).
-/
namespace Sys2Proof.Machine

/-- The line block is changed. -/
def setLine (l : LineBlock) (s : State) : State := { s with line := l }

/-- The line leaves the feeding states: the approach and the free run are given STOP-NOW (R116, R142, R170). -/
def leaveFeeding (s : State) : State := freeLeave (stationLeave s)

/-! ### Faults and the E-stop (R178 to R180) -/

/-- The resume state recorded from the state the line leaves (R178). -/
def resumeFrom : LineState → LineState
  | .running => .holding
  | .stopping => .holding
  | l => l

/-- The line enters FAULTED: first-fault record and resume state latched, and the other blocks act on it (R144, R161, R178). -/
def enterFaulted (c : FaultCause) (s : State) : State :=
  let s := setLine { state := .faulted, stop := none, firstFault := some ⟨c, s.p1, s.p2⟩, resume := some (resumeFrom s.line.state) } s
  commandOpen (outfeedFault (stationFault s))

/-- A block raises a fault (R178, R179): the FAULT event, latched if this fault enters FAULTED. -/
def raiseFault (c : FaultCause) (s : State) : State :=
  if s.line.state = .faulted ∨ s.line.state = .eStopped then queueEvent (.fault c false s.p1 s.p2) s
  else enterFaulted c (queueEvent (.fault c true s.p1 s.p2) s)

/-- The E-stop input becomes active (R180): the line enters E_STOPPED unless it is there already. -/
def enterEStop (s : State) : State :=
  if s.line.state = .eStopped then s
  else
    let l : LineBlock :=
      if s.line.state = .faulted then { s.line with state := .eStopped, stop := none }
      else
        { state := .eStopped, stop := none, firstFault := some ⟨.estop, s.p1, s.p2⟩
          resume := some (resumeFrom s.line.state) }
    commandOpen (outfeedEStop (stationEStop (setLine l s)))

/-! ### End of web (R110, R173) -/

/-- Every panel not DONE is aborted (R13). -/
def abortPanels (s : State) : State := { s with panels := s.panels.map Panel.abort }

/-- The line enters END_OF_WEB with the effects of that entry (R13, R86, R120, R161, R173). Entries of the aborted panels leave the queue
(log entry 14). -/
def enterEndOfWeb (l : LineBlock) (s : State) : State :=
  commandOpen (dropAborted2 (dropEntry (emptyQueue (abortPanels (setLine { l with state := .endOfWeb } s)))))

/-! ### Stops (R169 to R172) -/

/-- A PLAN_STARVED stop that begins, or takes over a CYCLE_END stop, sets seek pending and makes the last-plan record absent (R19, R56, R169). -/
def starvedEffects (c : StopCause) (s : State) : State :=
  if c = .planStarved then { s with cursor1 := { s.cursor1 with seekPending := true }, lastPlan := none } else s

/-- A CONTROLLED stop begins, or takes over a CYCLE_END stop (R170). -/
def beginControlled (c : StopCause) (s : State) : State :=
  starvedEffects c (leaveFeeding (setLine { s.line with state := .stopping, stop := some ⟨.controlled, c⟩ } s))

/-- A WEB_END stop arrives outside RUNNING and STOPPING (R169, R173). -/
def webEndElsewhere (s : State) : State :=
  match s.line.state with
  | .holding => enterEndOfWeb { s.line with stop := some ⟨.controlled, .webEnd⟩ } s
  | .threaded => enterEndOfWeb { s.line with stop := some ⟨.controlled, .webEnd⟩ } s
  | .faulted => setLine { s.line with resume := some .endOfWeb } s
  | .eStopped => setLine { s.line with resume := some .endOfWeb } s
  | _ => s

/-- A stop of class CYCLE_END is handed to Line Control (R169). -/
def handCycleEnd (c : StopCause) (s : State) : State :=
  if s.line.state = .running then setLine { s.line with state := .stopping, stop := some ⟨.cycleEnd, c⟩ } s else s

/-- A stop of class CONTROLLED is handed to Line Control (R169). -/
def handControlled (c : StopCause) (s : State) : State :=
  match s.line.state with
  | .running => beginControlled c s
  | .stopping =>
    if s.feeding then beginControlled c s
    else if c = .webEnd then setLine { s.line with stop := some ⟨.controlled, .webEnd⟩ } s
    else s
  | _ => if c = .webEnd then webEndElsewhere s else s

/-- The station has no sequence past arrival (R113). -/
def Cycle.restful (c : Cycle) : Bool := decide (c = .idle ∨ c = .approach ∨ c = .paused)

/-- A CYCLE_END stop ends: the line enters HOLDING and leaves the feeding states (R171). -/
def endCycleEnd (s : State) : State := leaveFeeding (setLine { s.line with state := .holding } s)

/-- The Knife Station reports that a stroke has completed: a CYCLE_END stop ends (R171). -/
def strokeReported (s : State) : State :=
  if s.line.state = .stopping ∧ s.feeding then endCycleEnd s else s

/-- A stop ends in the first event that allows it (R170, R171): a CONTROLLED stop when the station has no sequence past arrival, a CYCLE_END stop when
the station is IDLE and the target absent. -/
def endStop (s : State) : State :=
  if s.line.state = .stopping then
    if s.feeding then
      if s.station.cycle = .idle ∧ s.planner.target = none then endCycleEnd s else s
    else if s.station.cycle.restful then
      if s.line.stop.any (fun r => decide (r.cause = .webEnd)) then enterEndOfWeb s.line s
      else setLine { s.line with state := .holding } s
    else s
  else s

/-! ### The drain test (R148) -/

/-- The drain is over: the Cut Queue is empty and P2 at or beyond the limit (R148). -/
def State.drained (s : State) : Bool :=
  s.draining && s.planner.queue.isEmpty && s.planner.limit.any (fun l => decide (l ≤ s.p2))

/-- The drain test (R148). -/
def drainTest (s : State) : State :=
  if s.drained then handControlled .webEnd { s with drives := { s.drives with webSeq := .finishing } } else s

/-! ### Causes present for RESUME (table of Faults) -/

/-- The knife is UNHOMED or HOMING (R132). -/
def State.knifeLost (s : State) : Bool := decide (s.station.knife = .unhomed ∨ s.station.knife = .homing)

/-- Whether a fault cause counts as present (R179, R182, R184). -/
def State.present (s : State) : FaultCause → Bool
  | .encoder1 => s.roll1.fault
  | .encoder2 => s.roll2.fault
  | .dancer => s.loop.faulted
  | .tempSensor => s.lam.sensorFaulted
  | .overtemp => s.lam.lockout
  | .knifeTimeout => s.knifeLost
  | .gateTimeout => !s.station.gate.confirmed
  | .bladeTimeout => !s.bladesConfirmed
  | .nipTimeout => s.straps.laminator && decide (s.lam.nip = .closing ∨ s.lam.nip = .opening)
  | .inDrive => s.inputs.inDrive
  | .outDrive => s.inputs.outDrive
  | .moveTimeout => s.drives.timeoutFlag
  | .estop => s.inputs.eStop || s.knifeLost

end Sys2Proof.Machine
end

