-- ==== Sys2Proof/Machine/Settle.lean ====
section
/-!
DEFINITION. How one event is brought to its end. The station goes on as far as it can (R114, R124), a stop that can end ends (R170, R171), the free run
starts (R142), and what is a level of the state is brought up to it: the close demand (R160), the infeed reference (R136), the dwell and idle timers
(R158, R162), the starvation watch (R145), the LINE_STATE event (R183) and ATTN (R196).
-/
namespace Sys2Proof.Machine

/-! ### The station goes on (R114, R124, R127) -/

/-- A LANE entry completes (R124, R108). DESIGN CHOICE (log entry 52): corrections made, last arrival error and recut mark go with it at once, as they do with
an entry removed by a stroke; R112's list of removals does not name this one. -/
def completeLane (e : Entry) (s : State) : State :=
  let lanes := s.lanesFor e
  let s := clearRecords { s with station := { s.station with laneSet := lanes, cycle := .idle } }
  drainTest (removeFirst s)

/-- One thing the station can do now of itself: take up the first entry, complete a LANE entry, or start its traverse. -/
def pumpStep (s : State) : Option State :=
  match s.station.cycle with
  | .idle => if s.planner.target.isSome ∧ s.feeding then some (takeUp s) else none
  | .preparing =>
    match s.current with
    | some e =>
      if ¬ s.prepared e then none
      else if e.isLane then some (completeLane e s)
      else if s.mayTraverse then some (startTraverse s)
      else none
    | none => none
  | _ => none

/-- The station goes on until nothing more can be done in this event. -/
def pump : Nat → State → State
  | 0, s => s
  | n + 1, s =>
    match pumpStep s with
    | some s' => pump n s'
    | none => s

/-- More things than the station can do in one event: the queue holds at most 32 entries and each takes at most two steps, and the panels that
wait bring at most ten entries each. -/
def pumpBound : Nat := 1100

/-- One cut credited to its panel, with the piece it severs counted by the gate (R7, R8, R12). A DONE panel is left as it is. -/
def creditPanel (delivered : Bool) (i : Nat) (p : Panel) : Panel :=
  if p.state = .done then p
  else
    let q : Panel := { p with
      cutsDone := p.cutsDone + 1
      delivered := if 2 ≤ i ∧ delivered then p.delivered + 1 else p.delivered
      scrapped := if 2 ≤ i ∧ ¬ delivered then p.scrapped + 1 else p.scrapped
      state := .cutting }
    if q.cuts.length ≤ q.cutsDone then q.finish false else q

/-- The cuts of a stroke are credited by the gate's commanded position (R127). -/
def creditCuts (cs : List CutRef) (s : State) : State :=
  let delivered := decide (s.station.gate.commanded = .delivery)
  cs.foldl (fun s c => updPanel c.panel (creditPanel delivered c.index) s) s

/-- A panel with its proof field set has reached DONE by this stroke (R12, R127). -/
def proofDone (before after : State) (cs : List CutRef) : Bool :=
  cs.any (fun c =>
    (before.panel? c.panel).any (fun p => decide (p.state ≠ .done))
      && (after.panel? c.panel).any (fun p => p.proof && decide (p.state = .done)))

/-- The home a traverse goes to (R126). -/
def KnifeState.far (k : KnifeState) : Home := if k = .traversingLR then .right else .left

/-- The knife state at a home. -/
def KnifeState.at (h : Home) : KnifeState :=
  match h with
  | .left => .homeL
  | .right => .homeR

/-- The knife stops at a home, its timer stopped (R126, R132). -/
def knifeAt (h : Home) (s : State) : State :=
  { s with station := { s.station with knife := KnifeState.at h, knifeTimer := none } }

/-- A traverse ends at its far home and the stroke completes (R127). A stroke whose entry CLEAR has taken away credits nothing. DESIGN CHOICE (log entry 44):
a CYCLE_END stop that this stroke ends puts the line into HOLDING before the station could take up the next entry; R171 leaves either order. -/
def completeStroke (s : State) : State :=
  let s := knifeAt s.station.knife.far s
  match s.current with
  | none => strokeReported (setCycle .idle (clearRecords s))
  | some e =>
    let lanes := s.lanesFor e
    let t := creditCuts e.cuts s
    let u := clearRecords { t with station := { t.station with laneSet := lanes, cycle := .idle } }
    let v := drainTest (removeFirst u)
    strokeReported (if proofDone s t e.cuts then handCycleEnd .proof v else v)

/-! ### Levels brought up to the state -/

/-- The limit of the starvation watch while it is to be set (R145). -/
def State.starveLimit (s : State) : Option Int :=
  if s.cursor1.state = .idle ∧ s.feeding then s.drives.starveBase.map (· + s.work .unplannedMax) else none

/-- The starvation watch is set while the M1 cursor is IDLE and the line feeds, and removed otherwise (R145). -/
def starveUpdate (s : State) : State :=
  match s.starveLimit with
  | some l =>
    if s.watches.starve.any (fun w => decide (w.limit = l)) then s
    else { s with watches := { s.watches with starve := some (watchPasses s.p1 l) } }
  | none => if s.watches.starve.isSome then { s with watches := { s.watches with starve := none } } else s

/-- The infeed reference is recomputed and given to the infeed drive (R136). -/
def infeedUpdate (s : State) : State := { s with drives := { s.drives with infeedRef := s.infeedReference } }

/-- The nip is commanded close while the close demand stands (R160). -/
def closeUpdate (s : State) : State := if s.closeDemand then commandClose s else s

/-- The outfeed is MOVING with a station move that the event has left to the Section Drives (R115, R142). -/
def justLeft (old s : State) : Bool := s.moving && decide (old.station.cycle = .approach)

/-- The free run starts in the event that makes its three conditions true together; a station move just left is run out first, and any other move
still MOVING, such as a fault's STOP-NOW, is replaced (R139, R142). -/
def freeUpdate (old s : State) : State :=
  if s.freeCond ∧ ¬ old.freeCond ∧ ¬ justLeft old s then startFreeRun s else s

/-- The levels, in order. -/
def bringUp (s : State) : State := starveUpdate (idleUpdate (dwellUpdate (infeedUpdate (closeUpdate s))))

/-- The LINE_STATE event of the line as it stands (R183, R202). -/
def LineBlock.event (l : LineBlock) : Event := .lineState l.state l.stop (l.firstFault.map (·.cause)) l.resume

/-- A LINE_STATE event is queued if the line state or the stop record differs from what it was at the start (R183). -/
def lineUpdate (old s : State) : State :=
  if s.line.state = old.line.state ∧ s.line.stop = old.line.stop then s else queueEvent s.line.event s

/-- ATTN follows its terms (R196). -/
def attnUpdate (s : State) : State := { s with link := { s.link with attn := s.attnLevel } }

/-- An event that began in `old` is brought to its end. -/
def finish (old s : State) : State :=
  attnUpdate (lineUpdate old (bringUp (freeUpdate old (endStop (pump pumpBound s)))))

/-- An event that reaches the part while it is not held in reset. -/
def event (f : State → State) (s : State) : State := if s.inReset then s else finish s (f s)

/-- An event that reports the level of an input. The level is kept in a reset as well; the event acts outside it. -/
def inputEvent (level : Inputs → Inputs) (f : State → State) (s : State) : State :=
  let s' : State := { s with inputs := level s.inputs }
  if s.inReset then s' else finish s (f s')

end Sys2Proof.Machine
end

