-- ==== Sys2Proof/Machine/Operands.lean ====
section
/-!
DEFINITION. The operand forms of the link: how values are coded in a payload (R198), and the fields of a request's payload (R192, R200).
-/
namespace Sys2Proof.Machine

/-! ### Numbers (R198) -/

/-- A number lies in the signed range of `n` bytes. -/
def fitsSigned (n : Nat) (v : Int) : Bool := decide (-(128 * 256 ^ (n - 1) : Int) ≤ v ∧ v < 128 * 256 ^ (n - 1))

/-- A signed number in a field of `n` bytes. -/
def signedField (n : Nat) (v : Int) : List Byte :=
  if fitsSigned n v then intBytes n v else leBytes n (Config.outOfField n v)

/-- A position or coordinate: 6 bytes signed. -/
def posField (v : Int) : List Byte := signedField 6 v

/-- A length, distance, calibration value or stretch: 4 bytes signed. -/
def lenField (v : Int) : List Byte := signedField 4 v

/-- A time in ms: 4 bytes unsigned. -/
def timeField (v : Nat) : List Byte := leBytes 4 (if v < 256 ^ 4 then v else Config.outOfField 4 v)

/-- An id, setpoint, analog result, threshold or temperature: 2 bytes unsigned. -/
def wordField (v : Nat) : List Byte := leBytes 2 v

/-- A count, index or code: 1 byte. -/
def byteField (v : Nat) : List Byte := leBytes 1 v

/-- A panel id: 2 bytes. -/
def idField (v : PanelId) : List Byte := wordField v.toNat

/-- A signed value whose field is a word. -/
def wordOf (v : Int) : List Byte := wordField v.toNat

/-- A condition: 1 byte, 0 or 1. -/
def flagField (b : Bool) : List Byte := [if b then 1 else 0]

/-- An optional field of `n` bytes after its presence byte; an absent one keeps its width, filled with zeros. -/
def optField {α : Type} (n : Nat) (code : α → List Byte) (o : Option α) : List Byte :=
  match o with
  | some v => 1 :: code v
  | none => 0 :: List.replicate n 0

/-- A mark coordinate: its presence byte is 2 when it was coasted. -/
def coordField (o : Option Coord) : List Byte :=
  match o with
  | some c => (if c.coasted then 2 else 1) :: posField c.pos
  | none => 0 :: List.replicate 6 0

/-- A named value by its place in its list, counted from 1. -/
def named (i : Nat) : List Byte := byteField (i + 1)

/-- An optional named value: 0 for absent. -/
def optNamed {α : Type} (code : α → List Byte) (o : Option α) : List Byte :=
  match o with
  | some v => code v
  | none => [0]

/-! ### Named values (R198, R200 to R202) -/

def LineState.code (x : LineState) : List Byte := named x.ctorIdx
def StopClass.code (x : StopClass) : List Byte := named x.ctorIdx
def StopCause.code (x : StopCause) : List Byte := named x.ctorIdx
def FaultCause.code (x : FaultCause) : List Byte := named x.ctorIdx
def PanelState.code (x : PanelState) : List Byte := named x.ctorIdx
def PanelKind.code (x : PanelKind) : List Byte := named x.ctorIdx
def Completion.code (x : Completion) : List Byte := named x.ctorIdx
def Basis.code (x : Basis) : List Byte := named x.ctorIdx
def Mark.code (x : Mark) : List Byte := named x.ctorIdx
def Mode.code (x : Mode) : List Byte := named x.ctorIdx
def LockMode.code (x : LockMode) : List Byte := named x.ctorIdx
def RegState.code (x : RegState) : List Byte := named x.ctorIdx
def RegCause.code (x : RegCause) : List Byte := named x.ctorIdx
def ModeCause.code (x : ModeCause) : List Byte := named x.ctorIdx
def TeachResult.code (x : TeachResult) : List Byte := named x.ctorIdx
def KnifeState.code (x : KnifeState) : List Byte := named x.ctorIdx
def Zone.code (x : Zone) : List Byte := named x.ctorIdx
def M1State.code (x : M1State) : List Byte := named x.ctorIdx
def M2State.code (x : M2State) : List Byte := named x.ctorIdx
def Cycle.code (x : Cycle) : List Byte := named x.ctorIdx
def EntryState.code (x : EntryState) : List Byte := named x.ctorIdx
def MoveKind.code (x : MoveKind) : List Byte := named x.ctorIdx
def Owner.code (x : Owner) : List Byte := named x.ctorIdx
def WebSeq.code (x : WebSeq) : List Byte := named x.ctorIdx
def Heat.code (x : Heat) : List Byte := named x.ctorIdx
def Nip.code (x : Nip) : List Byte := named x.ctorIdx
def GatePos.code (x : GatePos) : List Byte := named x.ctorIdx

/-- The manual choice names a mode and travels as that mode's code (log entry 16). -/
def Choice.code (x : Choice) : List Byte := x.mode.code

/-- Sensor 1 or 2 (R202). -/
def sensorCode (x : Sensor) : List Byte := named x.ctorIdx

/-- HOME_L 1, HOME_R 2 (R202). -/
def homeCode (x : Home) : List Byte := named x.ctorIdx

/-- NONE 1, COUNTING 2, IGNORING 3. -/
def Bar.code (x : Bar) : List Byte :=
  match x with
  | .none => named 0
  | .counting _ _ => named 1
  | .ignoring => named 2

/-- The value of a status (R191). -/
def Status.value (x : Status) : Byte := BitVec.ofNat 8 x.ctorIdx

/-- A set of attention conditions or members: bits 0 to 2 (R196, R199). -/
def AttnSet.byte (a : AttnSet) : Byte :=
  (if a.done then 1 else 0) ||| (if a.event then 2 else 0) ||| (if a.fault then 4 else 0)

/-- The reset-cause set: member k in bit k − 1 (R198, R209). -/
def causesByte (cs : List ResetKind) : Byte :=
  (if .powerOn ∈ cs then 1 else 0) ||| (if .resetPin ∈ cs then 2 else 0) ||| (if .linkBreak ∈ cs then 4 else 0)
    ||| (if .supplyLow ∈ cs then 8 else 0)

/-! ### Fields of a payload -/

/-- `len` bytes of a payload from place `at'`. -/
def part (at' len : Nat) (bs : List Byte) : List Byte := (bs.drop at').take len

/-- The unsigned number at a place of a payload. -/
def natAt (at' len : Nat) (bs : List Byte) : Nat := leNat (part at' len bs)

/-- The signed number at a place of a payload. -/
def intAt (at' len : Nat) (bs : List Byte) : Int := leInt (part at' len bs)

/-- The panel id a payload begins with. -/
def idAt (bs : List Byte) : PanelId := BitVec.ofNat 16 (natAt 0 2 bs)

/-- The sensor that a TEACH names (R62). -/
def sensorOf (n : Nat) : Option Sensor :=
  match n with
  | 1 => some .m1
  | 2 => some .m2
  | _ => none

/-- A PLAN payload's fields as they stand in it (R200). -/
structure PlanFields where
  id : PanelId
  kind : Nat
  proof : Nat
  lNom : Int
  gNom : Int
  lanes : Byte
  cuts : List Int
  deriving DecidableEq, Repr

/-- The payload is as long as its own cut count says (R191). -/
def planFits (bs : List Byte) : Bool := decide (14 ≤ bs.length ∧ bs.length = 14 + 4 * natAt 13 1 bs)

/-- The fields of a PLAN payload (R200). -/
def planFields (bs : List Byte) : PlanFields where
  id := idAt bs
  kind := natAt 2 1 bs
  proof := natAt 3 1 bs
  lNom := intAt 4 4 bs
  gNom := intAt 8 4 bs
  lanes := BitVec.ofNat 8 (natAt 12 1 bs)
  cuts := (List.range (natAt 13 1 bs)).map (fun i => intAt (14 + 4 * i) 4 bs)

end Sys2Proof.Machine
end

