-- ==== Sys2Proof/Machine/Replies.lean ====
section
/-!
DEFINITION. What the part sends: the records and sections its replies carry (R193, R194, R200 to R202), the frame of a reply (R199), and how a
request is buffered, checked, taken and answered (R188, R190, R191).
-/
namespace Sys2Proof.Machine

/-! ### Records (R200 to R202) -/

/-- An outfeed length: its basis, 0 while absent, and its value (R200, R201). -/
def l2Field (l : Option Length2) : List Byte :=
  match l with
  | some x => x.basis.code ++ lenField x.len
  | none => List.replicate 5 0

/-- The flag set in its 3 bytes (R201). -/
def flagsField (p : Panel) : List Byte := leBytes 3 p.flagBits

/-- The plan fields in the PLAN layout (R200). -/
def planBytes (p : Panel) : List Byte :=
  idField p.id ++ p.kind.code ++ flagField p.proof ++ lenField p.lNom ++ lenField p.gNom ++ [p.lanes]
    ++ byteField p.cuts.length ++ p.cuts.flatMap lenField

/-- The number of triggers held and the triggers (R200). -/
def triggersField (ts : Option (List Int)) : List Byte :=
  match ts with
  | some l => byteField l.length ++ l.flatMap posField
  | none => [0]

/-- The panel record that QUERY returns (R200). -/
def panelRecord (p : Panel) : List Byte :=
  planBytes p ++ p.state.code ++ coordField p.aHead ++ coordField p.aTail ++ coordField p.bHead ++ coordField p.bTail
    ++ l2Field p.l2 ++ triggersField p.triggers ++ byteField p.cutsDone ++ byteField p.delivered ++ byteField p.scrapped
    ++ flagsField p ++ optNamed Completion.code p.completion

/-- A completion record (R201). -/
def completionRecord (p : Panel) : List Byte :=
  idField p.id ++ p.kind.code ++ flagField p.proof ++ optNamed Completion.code p.completion ++ byteField p.cuts.length
    ++ byteField p.cutsDone ++ byteField p.delivered ++ byteField p.scrapped ++ flagsField p ++ coordField p.bHead
    ++ l2Field p.l2

/-- The kind and the data of an event (R202). -/
def Event.body : Event → List Byte
  | .lineState l st ff rs =>
    [1] ++ l.code ++ optNamed StopClass.code (st.map (·.cls)) ++ optNamed StopCause.code (st.map (·.cause))
      ++ optNamed FaultCause.code ff ++ optNamed LineState.code rs
  | .fault c latched p1 p2 => [2] ++ c.code ++ flagField latched ++ posField p1 ++ posField p2
  | .register st c => [3] ++ st.code ++ c.code
  | .mode m c l => [4] ++ m.code ++ c.code ++ l.code
  | .markCoast sn id m => [5] ++ sensorCode sn ++ idField id ++ m.code
  | .teachEnd sn r mn mx th =>
    [6] ++ sensorCode sn ++ r.code ++ wordField (mn.getD 0xFFFF) ++ wordField (mx.getD 0xFFFF) ++ wordOf th
  | .splice film pos => [7] ++ named (if film then 1 else 0) ++ posField pos
  | .stretchLimit id m meas st => [8] ++ idField (id.getD 0) ++ optNamed Mark.code m ++ lenField meas ++ lenField st
  | .calWritten i v => [9] ++ byteField i ++ lenField v
  | .knifeHomed h => [10] ++ homeCode h

/-- An event record: 15 bytes, unused ones 0 (R202). -/
def eventRecord (e : Event) : List Byte := (e.body ++ List.replicate 15 0).take 15

/-- The data of a SYNC reply (R193). -/
def syncData (causes : List ResetKind) (s : State) : List Byte :=
  wordField 0x0C32 ++ [Config.designRevision] ++ byteField s.straps.blades ++ flagField s.straps.laminator
    ++ flagField s.straps.baud ++ [causesByte causes] ++ leBytes 8 s.cal.defaulted.toNat ++ s.line.state.code

/-! ### The sections of STATUS (R194) -/

/-- The causes in the order of the table of Faults (R179). -/
def allCauses : List FaultCause :=
  [.encoder1, .encoder2, .dancer, .tempSensor, .overtemp, .knifeTimeout, .gateTimeout, .bladeTimeout, .nipTimeout,
    .inDrive, .outDrive, .moveTimeout, .estop]

/-- Section 0, LINE (R184). -/
def sectionLine (s : State) : List Byte :=
  s.line.state.code ++ optField 1 StopClass.code (s.line.stop.map (·.cls)) ++ optField 1 StopCause.code (s.line.stop.map (·.cause))
    ++ optField 1 FaultCause.code (s.line.firstFault.map (·.cause)) ++ optField 6 posField (s.line.firstFault.map (·.p1))
    ++ optField 6 posField (s.line.firstFault.map (·.p2)) ++ optField 1 LineState.code s.line.resume ++ flagField s.inputs.eStop
    ++ flagField s.inputs.stackFull ++ allCauses.flatMap (fun c => flagField (s.present c))

/-- Section 1, ROLLS (R32, R35, R38, R43). -/
def sectionRolls (s : State) : List Byte :=
  posField s.p1 ++ posField s.p2 ++ posField s.roll1.high ++ posField s.roll2.high ++ flagField s.roll1.fault
    ++ flagField s.roll2.fault ++ optField 2 wordField s.sampler.dancer ++ optField 2 wordField s.sampler.temp
    ++ optField 4 lenField s.loop.length ++ s.loop.zone.code ++ flagField s.loop.faulted
    ++ named (if s.loop.watching then 0 else 1) ++ optField 4 lenField s.loop.atThread ++ optField 4 lenField s.loop.k

/-- The teach state of a sensor as section 2 gives it (R62). -/
def teachField (t : Option Teach) : List Byte :=
  named (if t.isSome then 1 else 0) ++ optField 6 posField (t.map (·.start)) ++ optField 2 wordField (t.bind (·.min))
    ++ optField 2 wordField (t.bind (·.max))

/-- Section 2, SENSORS (R45, R46, R50, R61, R62). -/
def sectionSensors (s : State) : List Byte :=
  let w := s.cursor1.expect.bind (·.window)
  wordOf s.sensor1.threshold ++ wordOf s.sensor2.threshold ++ s.sensor1.bar.code ++ s.sensor2.bar.code ++ s.cursor1.state.code
    ++ optField 2 idField (s.cursor1.expect.map (·.panel.id)) ++ optField 1 Mark.code (s.cursor1.expect.map (·.mark))
    ++ optField 6 posField (w.map (·.expected)) ++ optField 6 posField (w.map (·.lower)) ++ optField 6 posField (w.map (·.upper))
    ++ optField 6 posField s.cursor1.lastTail ++ flagField s.cursor1.seekPending ++ optField 6 posField s.cursor1.holdLimit
    ++ flagField s.inputs.web1 ++ teachField s.sensor1.teach ++ teachField s.sensor2.teach

/-- The anchor as section 3 gives it. -/
def anchorField (a : Option (Int × Int)) : List Byte := optField 12 (fun x => posField x.1 ++ posField x.2) a

/-- Section 3, REGISTRATION (R66, R67). -/
def sectionRegistration (s : State) : List Byte :=
  let w := s.cursor2.expect.bind (·.window)
  anchorField s.reg.anchor ++ lenField s.reg.s ++ s.reg.mode.code ++ s.reg.lock.code ++ s.reg.choice.code ++ s.reg.register.code
    ++ byteField s.reg.lockCount ++ byteField s.reg.coastCount ++ optField 4 lenField s.loop.k ++ byteField s.reg.points.length
    ++ optField 6 posField (s.reg.points.head?.map (·.pos)) ++ s.cursor2.state.code
    ++ optField 2 idField (s.cursor2.expect.map (·.panel.id)) ++ optField 1 Mark.code (s.cursor2.expect.map (·.mark))
    ++ optField 6 posField (w.map (·.predicted)) ++ optField 6 posField (w.map (·.lower)) ++ optField 6 posField (w.map (·.upper))

/-- A cut as section 4 gives it: panel id and cut index. -/
def cutField (c : CutRef) : List Byte := idField c.panel.id ++ byteField c.index

/-- CUT 1, LANE 2, CUT+LANE 3 (R95). -/
def Entry.kindCode (e : Entry) : List Byte :=
  match e.cut, e.lane with
  | some _, none => named 0
  | none, _ => named 1
  | some _, some _ => named 2

/-- The planner items of section 4 (R111). -/
def plannerItems (s : State) : List Byte :=
  let e := s.planner.queue.head?
  byteField s.planner.queue.length ++ optField 6 posField s.planner.target ++ optField 6 posField s.planner.limit
    ++ optField 1 Entry.kindCode e ++ optField 6 posField (e.map (·.trigger)) ++ optField 3 cutField (e.bind (·.cut))
    ++ optField 3 cutField (e.bind (·.partner))
    ++ optField 3 (fun l : LaneChange => [l.lanes] ++ idField l.owner.id) (e.bind (·.lane))
    ++ optField 1 EntryState.code (e.map (·.state))

/-- MOVING 1, CONFIRMED 2 (R112). -/
def confirmCode (confirmed : Bool) : List Byte := named (if confirmed then 1 else 0)

/-- The station items of section 4 (R133). -/
def stationItems (s : State) : List Byte :=
  s.station.cycle.code ++ optField 3 cutField (s.current.bind (·.cut)) ++ byteField s.station.corrections
    ++ optField 4 lenField s.station.lastErr ++ flagField s.station.recut ++ s.station.knife.code
    ++ s.station.gate.commanded.code ++ confirmCode s.station.gate.confirmed
    ++ s.station.blades.flatMap (fun b => named (if b.down then 1 else 0) ++ confirmCode b.confirmed) ++ [s.station.laneSet]

/-- Section 4, CUTTING. -/
def sectionCutting (s : State) : List Byte := plannerItems s ++ stationItems s

/-- The outfeed's items of section 5: the move state; the kind, owner, end point and speed in MOVING; the held request's kind and end point in HELD
(R150). Each is preceded by its presence byte (R194). The speed of a STOP-NOW, which 7.3 gives none, is present with 0 (log entry 41). -/
def outfeedItems (s : State) : List Byte :=
  let items := fun (m : Option Move) (held : Option Owner) (heldEnd : Option Int) =>
    optField 1 MoveKind.code (m.map (·.kind)) ++ optField 1 Owner.code (m.map (·.owner)) ++ optField 6 posField (m.bind (·.endPoint))
      ++ optField 2 wordField (m.map (·.speed)) ++ optField 1 Owner.code held ++ optField 6 posField heldEnd
  match s.drives.outfeed with
  | .moving m => named 0 ++ items (some m) none none
  | .held (.station _ e) => named 1 ++ items none (some .station) (some e)
  | .held .free => named 1 ++ items none (some .free) none
  | .held .nothing => named 1 ++ items none none none
  | .stopped => named 2 ++ items none none none

/-- Section 5, DRIVES (R150). -/
def sectionDrives (s : State) : List Byte :=
  wordField s.drives.setpoint ++ wordField s.drives.infeedRef ++ wordField s.drives.setpoint ++ wordField s.loopAllowance
    ++ wordField s.lamAllowance ++ wordField s.lineAllowance ++ outfeedItems s ++ optField 6 posField s.drives.starveBase
    ++ flagField s.watches.starve.isSome ++ s.drives.webSeq.code ++ optField 6 posField s.drives.aEnd
    ++ optField 6 posField s.drives.tailOutPos ++ optField 6 posField s.planner.limit

/-- The elapsed time of a timer that started at `start`. -/
def State.elapsed (s : State) (start : Nat) : Nat := s.now - start

/-- Section 6, LAMINATOR (R166). DESIGN CHOICE (log entry 43): with LAMINATOR_FITTED clear, where R151 drives no nip output, the standing nip command is given
as open. -/
def sectionLaminator (s : State) : List Byte :=
  flagField s.straps.laminator ++ wordField s.lam.setpoint ++ s.lam.heat.code ++ optField 2 wordOf s.lam.target
    ++ optField 2 wordField s.lam.temperature ++ flagField s.lam.sensorFaulted ++ named (if s.lam.heater then 0 else 1)
    ++ flagField s.lam.armed ++ flagField s.lam.lockout
    ++ optField 4 timeField (s.lam.settle.map (fun t => s.elapsed t.start))
    ++ optField 4 timeField (s.lam.idle.map (fun t => s.elapsed t.start))
    ++ optField 4 timeField (s.lam.dwell.map (fun t => s.elapsed t.start))
    ++ s.lam.nip.code ++ named (if s.lam.commandClose then 0 else 1) ++ flagField s.lam.reclose ++ flagField s.inputs.nipOpen
    ++ flagField s.inputs.nipClosed ++ flagField s.inputs.filmOut

/-- Section 7, LINK (R194). -/
def sectionLink (s : State) : List Byte :=
  flagField s.link.synced ++ flagField s.link.crcSeen ++ flagField s.link.framingSeen ++ flagField s.link.overrunSeen
    ++ flagField s.link.eventsLost ++ byteField s.link.events.length ++ [s.link.mask.byte] ++ flagField s.straps.baud

/-- The data of a STATUS of section `n`, absent above 7 (R194). -/
def statusSection (n : Nat) (s : State) : Option (List Byte) :=
  match n with
  | 0 => some (sectionLine s)
  | 1 => some (sectionRolls s)
  | 2 => some (sectionSensors s)
  | 3 => some (sectionRegistration s)
  | 4 => some (sectionCutting s)
  | 5 => some (sectionDrives s)
  | 6 => some (sectionLaminator s)
  | 7 => some (sectionLink s)
  | _ => none

/-! ### Frames (R199) -/

/-- A frame on the wire: start byte, length, body, and the CRC over length and body (R186, R199). -/
def frameBytes (kind tag : Byte) (payload : List Byte) : List Byte :=
  let body := byteField (payload.length + 2) ++ [kind, tag] ++ payload
  [0x5A] ++ body ++ crcBytes (crc16 body)

/-- The payload of a reply: the header and the data (R199). -/
def Reply.payload (r : Reply) : List Byte := [r.status.value] ++ byteField r.credits ++ [r.attention.byte] ++ r.data

/-- The bytes the transmitter sends for a reply (R185, R199). -/
def Reply.wire (r : Reply) : List Byte := frameBytes r.kind r.tag r.payload

/-! ### Taking requests (R188, R190, R191) -/

/-- A complete frame: it takes a place of the buffer, or is dropped with OVERRUN_SEEN while 2 hold places (R188). -/
def bufferFrame (f : Frame) (s : State) : State :=
  if s.link.buffer.length < 2 then { s with link := { s.link with buffer := s.link.buffer ++ [f] } }
  else { s with link := { s.link with overrunSeen := true } }

/-- The kind of the reply to a request kind (R190). -/
def replyKind (k : Byte) : Byte := if k.toNat < 0x80 then k + 0x80 else 0xFF

/-- What a request comes to: its status, the state it leaves, and the data of its reply, read from the state once the event is at its end. -/
structure Answer where
  status : Status
  next : State
  data : State → List Byte

/-- A refusal: no block changes (R191). -/
def refuse (st : Status) (s : State) : Answer := ⟨st, s, fun _ => []⟩

/-- A request taken: OK, with no data. -/
def accept (s : State) : Answer := ⟨.ok, s, fun _ => []⟩

/-- The request has taken effect (R191). -/
def Status.taken (st : Status) : Bool := decide (st = .ok ∨ st = .okClamped)

/-- The reply to a request, from the state as the request left it (R190, R191). -/
def replyFor (f : Frame) (a : Answer) (s : State) : Reply :=
  { kind := replyKind f.kind
    tag := f.tag
    status := a.status
    credits := s.credits
    attention := s.summary
    data := if a.status.taken ∨ a.status = .badPlan then a.data s else [] }

/-- The reply begins. -/
def setReply (r : Reply) (s : State) : State := { s with link := { s.link with reply := some r } }

/-- The oldest frame of the buffer is taken and answered, whole in one event (R190). A refused request changes no block. -/
def serve (f : Frame) (act : State → Answer) (s : State) : State :=
  let a := act s
  let t := if a.status.taken then finish s a.next else s
  setReply (replyFor f a t) t

/-- The receiver takes bytes: not in reset, and not before the receive line has been at mark since (R186, R189, R209). -/
def State.receives (s : State) : Bool := !s.inReset && s.link.breakArmed

/-- A request's frame comes over the link: it is buffered where bytes are taken, and nothing happens where none are (R186, R188). -/
def arrives (f : Frame) (s : State) : State := if s.receives then bufferFrame f s else s

/-- The command of a request (R190; log entry 7). In reset no byte is taken. While no reply is being sent, the oldest frame of the buffer is taken if it is this
request's; with the buffer empty the request's frame arrives and is taken, where bytes are taken (R186). Otherwise the frame is one more that arrives. -/
def takeRequest (f : Frame) (act : State → Answer) (s : State) : State :=
  if s.inReset then s
  else
    match s.link.reply, s.link.buffer with
    | none, [] => if s.receives then serve f act (bufferFrame f s) else s
    | none, g :: _ => if g = f then serve f act s else arrives f s
    | some _, _ => arrives f s

/-- The checks every request passes first, in order: its payload length, and the synced flag unless it is taken before SYNC (R191, R192). -/
def checked (fits unsynced : Bool) (act : State → Answer) (s : State) : Answer :=
  if ¬ fits then refuse .badRequest s
  else if ¬ unsynced ∧ ¬ s.link.synced then refuse .notSynced s
  else act s

/-- A request of the catalogue with a payload of fixed length (R192). -/
def request (kind tag : Byte) (payload : List Byte) (length : Nat) (unsynced : Bool) (act : State → Answer) (s : State) : State :=
  takeRequest ⟨kind, tag, payload⟩ (checked (decide (payload.length = length)) unsynced act) s

end Sys2Proof.Machine
end

