-- ==== Sys2Proof/Machine/LaminatorEvents.lean ====
section
/-!
DEFINITION. The laminator's events: its timers (R157, R158, R159, R163), the nip's confirms (R159), and the film (R164, R165).
-/
namespace Sys2Proof.Machine

/-- A timer of the part has run out: time has reached its end and the event is taken. A timer that does not run gives no event (log entry 6). -/
def timerEvent (t : Option Timer) (f : State → State) (s : State) : State :=
  match t with
  | some t => event (fun s => f (reachTime t.start t.limit s)) s
  | none => s

/-! ### Heat timers (R157, R158) -/

/-- The roller has settled: READY (R157). -/
def becomeReady (s : State) : State := updLam (fun l => { l with settle := none }) (setHeat .ready s.lam.setpoint s)

/-- SETTLE_TIMER (R157). -/
def execSettleTimer (s : State) : Host.Outcome State Fault Refusal := .next (timerEvent s.lam.settle becomeReady s)

/-- IDLE_TIMER (R158). -/
def execIdleTimer (s : State) : Host.Outcome State Fault Refusal := .next (timerEvent s.lam.idle enterStandby s)

/-! ### Dwell (R162, R163) -/

/-- The panels whose infeed span contains the dwell position are given DWELL (R163). -/
def markDwell (s : State) : State :=
  let pos := s.p1 - s.work .dNip
  let s := raiseWhere .dwell (Panel.touches pos pos) s
  updLam (fun l => { l with dwell := l.dwell.map (fun d => { d with marked := true }) }) s

/-- The DWELL_MARK of a running dwell timer is still to come, and comes before DWELL_MAX (R163). -/
def Dwell.toMark (d : Dwell) : Bool := !d.marked && decide (d.mark < d.max)

/-- DWELL_MARK (R163). -/
def execDwellMark (s : State) : Host.Outcome State Fault Refusal :=
  .next (match s.lam.dwell with
    | some d => if d.toMark then event (fun s => markDwell (reachTime d.start d.mark s)) s else s
    | none => s)

/-- DWELL_MAX: the nip is commanded open, which ends the timer (R163). -/
def execDwellMax (s : State) : Host.Outcome State Fault Refusal :=
  .next (match s.lam.dwell with
    | some d => event (fun s => commandOpen (reachTime d.start d.max s)) s
    | none => s)

/-! ### The nip (R159) -/

/-- The nip's timer has run out (R159). -/
def nipTimedOut (s : State) : State := raiseFault .nipTimeout (updLam (fun l => { l with nipTimer := none }) s)

/-- NIP_TIMEOUT (R159). -/
def execNipTimeout (s : State) : Host.Outcome State Fault Refusal := .next (timerEvent s.lam.nipTimer nipTimedOut s)

/-- The level of a confirm input of the nip is set. -/
def setNipInput (i : NipInput) (v : Bool) (x : Inputs) : Inputs :=
  match i with
  | .nipOpen => { x with nipOpen := v }
  | .nipClosed => { x with nipClosed := v }

/-- What a part with the laminator strap clear leaves undone (R151). -/
def ifFitted (f : State → State) (s : State) : State := if s.straps.laminator then f s else s

/-- NIP_CONFIRM: a confirm input becomes active (R159, R161). -/
def execNipConfirm (i : NipInput) (s : State) : Host.Outcome State Fault Refusal :=
  .next (inputEvent (setNipInput i true) (ifFitted confirmNip) s)

/-- NIP_CONFIRM_LOST: a confirm input goes inactive (R159). -/
def execNipConfirmLost (i : NipInput) (s : State) : Host.Outcome State Fault Refusal :=
  .next (inputEvent (setNipInput i false) (ifFitted (springNip i)) s)

/-! ### Film (R164, R165) -/

/-- A film splice is taken (R164). -/
def takeFilmSplice (s : State) : State :=
  let a := s.p1 - s.work .dNip
  let z := s.work .spliceZone
  queueEvent (.splice true a) (addPoint .filmSplice a (raiseWhere .filmSplice (Panel.touches (a - z) (a + z)) s))

/-- FILM_SPLICE: the input becomes active (R164). -/
def execFilmSplice (s : State) : Host.Outcome State Fault Refusal :=
  .next (inputEvent (fun i => { i with filmSplice := true })
    (if s.inputs.filmSplice ∨ s.line.state = .unthreaded then id else ifFitted takeFilmSplice) s)

/-- FILM_SPLICE_CLEAR: the input goes inactive (R164). -/
def execFilmSpliceClear (s : State) : Host.Outcome State Fault Refusal :=
  .next (inputEvent (fun i => { i with filmSplice := false }) id s)

/-- FILM_OUT: the input becomes active; in a feeding state the stop is handed over (R165). -/
def execFilmOut (s : State) : Host.Outcome State Fault Refusal :=
  .next (inputEvent (fun i => { i with filmOut := true })
    (if s.feeding ∧ ¬ s.inputs.filmOut then ifFitted (handControlled .filmOut) else id) s)

/-- FILM_OUT_CLEAR: the input goes inactive (R165). -/
def execFilmOutClear (s : State) : Host.Outcome State Fault Refusal :=
  .next (inputEvent (fun i => { i with filmOut := false }) id s)

end Sys2Proof.Machine
end

