-- ==== Sys2Proof/Machine/LineEvents.lean ====
section
/-!
DEFINITION. The events of the line's inputs and of the drives: the stack (R172), the E-stop (R180, R181), the drive faults (R138, R144), a move's end and its
deadline (R139, R142, R143), tail-out (R147) and plan starvation (R145).
-/
namespace Sys2Proof.Machine

/-! ### Inputs -/

/-- STACK_FULL: the input becomes active; in RUNNING the stop begins (R172). -/
def execStackFull (s : State) : Host.Outcome State Fault Refusal :=
  .next (inputEvent (fun i => { i with stackFull := true })
    (if s.inputs.stackFull then id else handCycleEnd .stackFull) s)

/-- STACK_FULL_CLEAR: the input goes inactive (R172). -/
def execStackFullClear (s : State) : Host.Outcome State Fault Refusal :=
  .next (inputEvent (fun i => { i with stackFull := false }) id s)

/-- E_STOP: the input becomes active (R180). -/
def execEStop (s : State) : Host.Outcome State Fault Refusal :=
  .next (inputEvent (fun i => { i with eStop := true }) (if s.inputs.eStop then id else enterEStop) s)

/-- E_STOP_RELEASE: the input goes inactive; the line stays where it is (R181). -/
def execEStopRelease (s : State) : Host.Outcome State Fault Refusal :=
  .next (inputEvent (fun i => { i with eStop := false }) id s)

/-- IN_DRIVE: the infeed drive's fault input becomes active (R138). -/
def execInDrive (s : State) : Host.Outcome State Fault Refusal :=
  .next (inputEvent (fun i => { i with inDrive := true }) (if s.inputs.inDrive then id else raiseFault .inDrive) s)

/-- IN_DRIVE_CLEAR: the input goes inactive (R138). -/
def execInDriveClear (s : State) : Host.Outcome State Fault Refusal :=
  .next (inputEvent (fun i => { i with inDrive := false }) id s)

/-- OUT_DRIVE: the outfeed drive's fault input becomes active (R144). -/
def execOutDrive (s : State) : Host.Outcome State Fault Refusal :=
  .next (inputEvent (fun i => { i with outDrive := true }) (if s.inputs.outDrive then id else raiseFault .outDrive) s)

/-- OUT_DRIVE_CLEAR: the input goes inactive (R144). -/
def execOutDriveClear (s : State) : Host.Outcome State Fault Refusal :=
  .next (inputEvent (fun i => { i with outDrive := false }) id s)

/-! ### Moves (R139, R142, R143) -/

/-- A station move has ended: an arrival, in APPROACH and CORRECT (R116 to R118). -/
def stationMoveEnded (s : State) : State :=
  if s.station.cycle = .approach ∨ s.station.cycle = .correct then arrive s else s

/-- A FREE move has ended: the drain test, then the next free run while its conditions hold (R142, R148). -/
def freeMoveEnded (s : State) : State :=
  let s := drainTest s
  if s.freeCond then startFreeRun s else s

/-- "Move ended": the flag and the deadline go, and the report goes to the owner of a MOVING move (R139, R143, R144). The end of a STOP-NOW with which
the station stopped a free run in its approach is its arrival (R114), whoever owns it (log entry 23). -/
def moveReported (s : State) : State :=
  let s' : State := { s with drives := { s.drives with timeoutFlag := false } }
  match s.drives.outfeed with
  | .moving m =>
    let t := setOutfeed .stopped s'
    if ¬ m.reports then t
    else
      if m.owner = .station ∨ s.station.cycle = .approach then stationMoveEnded t else freeMoveEnded t
  | _ => s'

/-- MOVE_ENDED (R139). -/
def execMoveEnded (s : State) : Host.Outcome State Fault Refusal := .next (event moveReported s)

/-- The deadline of the move in progress. -/
def Outfeed.deadline (o : Outfeed) : Option Nat :=
  match o with
  | .moving m => m.deadline
  | _ => none

/-- The deadline of the move in progress is spent. -/
def spendDeadline (s : State) : State :=
  match s.drives.outfeed with
  | .moving m => setOutfeed (.moving { m with deadline := none }) s
  | _ => s

/-- A deadline has passed: the move-timeout flag is set and the fault raised, the move stays MOVING (R143). -/
def moveTimedOut (d : Nat) (s : State) : State :=
  let s := spendDeadline { s with now := max s.now d, drives := { s.drives with timeoutFlag := true } }
  raiseFault .moveTimeout s

/-- MOVE_TIMEOUT: acts while a move with a deadline is MOVING (R143; log entry 6). -/
def execMoveTimeout (s : State) : Host.Outcome State Fault Refusal :=
  .next (match s.drives.outfeed.deadline with
    | some d => event (moveTimedOut d) s
    | none => s)

/-! ### Tail-out and starvation (R145, R147) -/

/-- The tail-out watch has fired (R147, R148): DRAINING, the dancer check suspended, the end-of-web limit handed over, and then a hold released
(log entry 17). DESIGN CHOICE (log entry 55): an approach or a free run that is MOVING runs on as it was issued; R148 gives the speed and the distance of moves
issued while DRAINING only. -/
def tailOut (s : State) : State :=
  let s : State := { s with
    watches := { s.watches with tailOut := none }
    drives := { s.drives with webSeq := .draining }
    loop := { s.loop with watching := false } }
  let limit := (s.drives.aEnd.map s.predict).getD s.p2 + s.work .dMk
  drainTest (thenArrive (releaseHold (dropBeyond limit s)))

/-- TAIL_OUT: acts once the tail-out watch has fired (R147; log entry 8). -/
def execTailOut (s : State) : Host.Outcome State Fault Refusal :=
  .next (if watchDue s.watches.tailOut then event tailOut s else s)

/-- The starvation watch has fired (R145). -/
def starve (s : State) : State :=
  handControlled .planStarved { s with watches := { s.watches with starve := none } }

/-- PLAN_STARVED: acts once the starvation watch has fired (R145; log entry 8). -/
def execPlanStarved (s : State) : Host.Outcome State Fault Refusal :=
  .next (if watchDue s.watches.starve then event starve s else s)

end Sys2Proof.Machine
end

