-- ==== Sys2Proof/Machine/LineRequests.lean ====
section
/-!
DEFINITION. The line requests THREAD, RUN, HOLD, CLEAR and RESUME (R168, R174 to R177, R182), HOME-KNIFE (R131), and the web-end report that a RUN
can make (R61, R146).
-/
namespace Sys2Proof.Machine

/-- The line state after a line request, as its reply carries it (R192). -/
def lineData (s : State) : List Byte := s.line.state.code

/-- A line request taken: OK with the line state after (R168). -/
def lineAccept (s : State) : Answer := ⟨.ok, s, lineData⟩

/-! ### The end of a teach (R64) -/

/-- The sensor's own block. -/
def State.sensor (s : State) : Sensor → SensorBlock
  | .m1 => s.sensor1
  | .m2 => s.sensor2

/-- A sensor's block is set. -/
def setSensor (sn : Sensor) (b : SensorBlock) (s : State) : State :=
  match sn with
  | .m1 => { s with sensor1 := b }
  | .m2 => { s with sensor2 := b }

/-- The calibration entry of a sensor's threshold. -/
def thresholdEntry : Sensor → CalEntry
  | .m1 => .threshM1
  | .m2 => .threshM2

/-- A teach's span watch is set or removed. -/
def setTeachWatch (sn : Sensor) (w : Option Watch) (s : State) : State :=
  match sn with
  | .m1 => { s with watches := { s.watches with teach1 := w } }
  | .m2 => { s with watches := { s.watches with teach2 := w } }

/-- A teach ends: the state IDLE, the watch and the timer gone, and a TEACH_END event queued (R64). -/
def endTeach (sn : Sensor) (r : TeachResult) (s : State) : State :=
  match (s.sensor sn).teach with
  | some t =>
    let s := setTeachWatch sn none (setSensor sn { s.sensor sn with teach := none } s)
    queueEvent (.teachEnd sn r t.min t.max (s.work (thresholdEntry sn))) s
  | none => s

/-! ### THREAD (R174) -/

/-- A measuring roll at THREAD and reset: position 0, armed, the scale in use from the working copy (R28, R29). -/
def State.freshRoll (s : State) (scale : CalEntry) : RollBlock := { scale := s.work scale }

/-- The bar state of a sensor at THREAD and reset (R49). -/
def abandonedBar (dark : Bool) : Bar := if dark then .ignoring else .none

/-- A sensor at THREAD: its bar abandoned, and a threshold held back taken over where no trailing edge is to come (R45, R49). -/
def threadSensor (dark : Bool) (work : Int) (b : SensorBlock) : SensorBlock :=
  { b with bar := abandonedBar dark, threshold := if dark then b.threshold else work }

/-- THREAD's conditions beside the line state (R42, R168). -/
def State.canThread (s : State) : Bool :=
  s.panels.all (fun p => decide (p.state = .done)) && s.station.knife.atHome && s.sampler.dancer.isSome && !s.loop.faulted

/-- The Loop's capture at THREAD (R42). -/
def captureLoop (s : State) : State :=
  { s with loop := { s.loop with
    atThread := s.loop.length, k := s.loop.length.map (fun l => s.work .dFixed + l), watching := true } }

/-- A new web is begun (R174). DESIGN CHOICE (log entry 37): with both sensors teaching, sensor 1's TEACH_END is queued first; R64 and R195 give no order. -/
def threadLine (s : State) : State :=
  let s := endTeach .m2 .aborted (endTeach .m1 .aborted s)
  let s : State := { s with
    roll1 := s.freshRoll .e1Scale
    roll2 := s.freshRoll .e2Scale
    watches := {}
    sensor1 := threadSensor s.inputs.dark1 (s.work .threshM1) s.sensor1
    sensor2 := threadSensor s.inputs.dark2 (s.work .threshM2) s.sensor2
    webEnd := false
    lastPlan := none
    planner := { s.planner with limit := none }
    drives := { s.drives with webSeq := .none, aEnd := none, tailOutPos := none }
    lam := { s.lam with reclose := false } }
  threadM1 (threadReg (captureLoop (setLine { s.line with state := .threaded, stop := none } s)))

/-- THREAD's own checks and effect (R168, R174). -/
def threadAct (s : State) : Answer :=
  if s.line.state = .unthreaded ∨ s.line.state = .threaded ∨ s.line.state = .endOfWeb then
    if s.canThread then lineAccept (threadLine s) else refuse .badState s
  else refuse .badState s

/-- THREAD (R174). -/
def execThread (tag : Byte) (payload : List Byte) (s : State) : Host.Outcome State Fault Refusal :=
  .next (request 0x20 tag payload 0 false threadAct s)

/-! ### RUN (R175) -/

/-- Web end is reported: the M1 cursor halts, the end-of-web sequence begins, and panels without their tail are SHORT (R56, R61, R146). -/
def reportWebEnd (s : State) : State :=
  let pos := s.p1 + s.work .dNip + 100000
  let s := haltM1 s
  let s : State := { s with
    webEnd := true
    cursor1 := { s.cursor1 with holdLimit := none }
    watches := { s.watches with hold := none, tailOut := some (watchReaches s.p1 pos) }
    drives := { s.drives with webSeq := .feedingOut, aEnd := some s.p1, tailOutPos := some pos } }
  raiseWhere .short (fun p => p.aTail.isNone) s

/-- Web end is reported at a RUN with WEB1 absent (R61). -/
def webEndAtRun (s : State) : State := if ¬ s.inputs.web1 ∧ ¬ s.webEnd then reportWebEnd s else s

/-- The film-out stop at a RUN (R165). -/
def filmOutAtRun (s : State) : State :=
  if s.straps.laminator ∧ s.inputs.filmOut then handControlled .filmOut s else s

/-- The stack-full stop at a RUN (R172). -/
def stackFullAtRun (s : State) : State := if s.inputs.stackFull then handCycleEnd .stackFull s else s

/-- A PAUSED entry goes on with a fresh arrival (R120). -/
def goOnPaused (s : State) : State := if s.station.cycle = .paused then arrive s else s

/-- The free run begins at a RUN that makes its conditions true (R142, R175). -/
def freeAtRun (s : State) : State := if s.freeCond then startFreeRun s else s

/-- The line enters RUNNING (R175). DESIGN CHOICE (log entry 47): the close demand of R160 is judged as the event ends, after the stops that the RUN itself begins;
a RUN with FILM_OUT active, or with STACK_FULL active and nothing for the station to do, does not command the nip close. R175 gives no order. -/
def runLine (s : State) : State :=
  let s := leaveStandby (setLine { s.line with state := .running, stop := none } s)
  stackFullAtRun (filmOutAtRun (drainTest (webEndAtRun (freeAtRun (pump pumpBound (goOnPaused s))))))

/-- RUN's own check and effect (R168, R175). -/
def runAct (s : State) : Answer :=
  if s.line.state = .threaded ∨ s.line.state = .holding then lineAccept (runLine s) else refuse .badState s

/-- RUN (R175). -/
def execRun (tag : Byte) (payload : List Byte) (s : State) : Host.Outcome State Fault Refusal :=
  .next (request 0x21 tag payload 0 false runAct s)

/-! ### HOLD (R176) -/

/-- HOLD's own check and effect (R168, R176). -/
def holdAct (s : State) : Answer :=
  if s.line.state = .running then lineAccept (handControlled .hold s) else refuse .badState s

/-- HOLD (R176). -/
def execHold (tag : Byte) (payload : List Byte) (s : State) : Host.Outcome State Fault Refusal :=
  .next (request 0x22 tag payload 0 false holdAct s)

/-! ### CLEAR (R177) -/

/-- What CLEAR makes of the line's own records (R177). -/
def clearedLine (l : LineBlock) : LineBlock :=
  match l.state with
  | .holding => { l with state := .threaded, stop := none }
  | .faulted => { l with resume := if l.resume = some .holding then some .threaded else l.resume }
  | _ => l

/-- Everything in flight on the web is written off (R177). -/
def clearLine (s : State) : State :=
  let s := dropEntry (emptyQueue { abortPanels s with lastPlan := none })
  let s : State := { s with roll1 := { s.roll1 with fault := false }, roll2 := { s.roll2 with fault := false } }
  commandOpen (setLine (clearedLine s.line) (clearReg (clearM1 s)))

/-- CLEAR's own check and effect (R168, R177). -/
def clearAct (s : State) : Answer :=
  if s.line.state = .threaded ∨ s.line.state = .holding ∨ s.line.state = .faulted ∨ s.line.state = .endOfWeb then
    lineAccept (clearLine s)
  else refuse .badState s

/-- CLEAR (R177). -/
def execClear (tag : Byte) (payload : List Byte) (s : State) : Host.Outcome State Fault Refusal :=
  .next (request 0x23 tag payload 0 false clearAct s)

/-! ### RESUME (R182) -/

/-- The line enters UNTHREADED: both cursors are HALTED (R56, R86). -/
def haltCursors (s : State) : State :=
  let s := haltM1 s
  { s with
    cursor2 := { s.cursor2 with state := .halted, expect := none, deciding := false }
    watches := { s.watches with m2Window := none } }

/-- The line enters its resume state, the first-fault record emptied (R173, R182). -/
def resumeLine (s : State) : State :=
  let l : LineBlock := { s.line with firstFault := none, resume := none }
  match s.line.resume with
  | some .endOfWeb => enterEndOfWeb l s
  | some .unthreaded => haltCursors (setLine { l with state := .unthreaded } s)
  | some r => setLine { l with state := r } s
  | none => setLine l s

/-- The cause of the first-fault record is present (R182). -/
def State.firstPresent (s : State) : Bool := s.line.firstFault.any (fun f => s.present f.cause)

/-- RESUME's own checks and effect (R182). -/
def resumeAct (s : State) : Answer :=
  match s.line.state with
  | .faulted => if s.firstPresent then refuse .badState s else lineAccept (resumeLine s)
  | .eStopped =>
    if s.present .estop then refuse .badState s
    else if s.line.firstFault.all (fun f => decide (f.cause = .estop)) then lineAccept (resumeLine s)
    else lineAccept (setLine { s.line with state := .faulted } s)
  | _ => refuse .badState s

/-- RESUME (R182). -/
def execResume (tag : Byte) (payload : List Byte) (s : State) : Host.Outcome State Fault Refusal :=
  .next (request 0x24 tag payload 0 false resumeAct s)

/-! ### HOME-KNIFE (R131) -/

/-- The home a knife state stands for. -/
def KnifeState.home? : KnifeState → Option Home
  | .homeL => some .left
  | .homeR => some .right
  | _ => none

/-- The knife is driven towards the left home (R131). -/
def startHoming (s : State) : State :=
  { s with station := { s.station with knife := .homing, knifeTimer := some (s.startTimer (s.workNat .knifeTimeout)) } }

/-- HOME-KNIFE's effect: a knife at a home is reported, an UNHOMED one is driven (R131). -/
def homeKnifeLine (s : State) : State :=
  match s.station.knife.home? with
  | some h => queueEvent (.knifeHomed h) s
  | none => startHoming s

/-- HOME-KNIFE's own checks and effect (R131). -/
def homeKnifeAct (s : State) : Answer :=
  if s.continuing ∨ s.inputs.eStop ∨ s.moving then refuse .badState s
  else if s.station.knife = .homing ∨ s.station.knife.traversing then refuse .busy s
  else ⟨.ok, homeKnifeLine s, fun t => t.station.knife.code⟩

/-- HOME-KNIFE (R131). -/
def execHomeKnife (tag : Byte) (payload : List Byte) (s : State) : Host.Outcome State Fault Refusal :=
  .next (request 0x25 tag payload 0 false homeKnifeAct s)

end Sys2Proof.Machine
end

