-- ==== Sys2Proof/Machine/LinkEvents.lean ====
section
/-!
DEFINITION. The receiver and the transmitter: bytes received (R186, R187), the gap (R187), a reply sent (R188), and the receive line at mark (R189).
-/
namespace Sys2Proof.Machine

/-- The receiver goes to a state. -/
def setRx (r : Rx) (s : State) : State := { s with link := { s.link with rx := r } }

/-- A frame is discarded with FRAMING_SEEN, and hunting starts (R187). -/
def discardFraming (s : State) : State := { s with link := { s.link with rx := .hunt, framingSeen := true } }

/-- The CRC test of a complete body (R186): the frame enters the buffer, or is discarded with CRC_SEEN. -/
def crcTest (n : Nat) (got crc : List Byte) (s : State) : State :=
  let h := setRx .hunt s
  if leNat crc = (crc16 (BitVec.ofNat 8 n :: got)).toNat then
    match got with
    | kind :: tag :: payload => bufferFrame ⟨kind, tag, payload⟩ h
    | _ => h
  else { h with link := { h.link with crcSeen := true } }

/-- One byte is received (R186, R187). -/
def receiveByte (b : RxByte) (s : State) : State :=
  if ¬ b.stopOk then discardFraming s
  else
    match s.link.rx with
    | .hunt => if b.value = 0x5A then setRx .length s else s
    | .length =>
      if 2 ≤ b.value.toNat ∧ b.value.toNat ≤ 250 then setRx (.body b.value.toNat []) s else discardFraming s
    | .body n got =>
      let got' := got ++ [b.value]
      if got'.length < n then setRx (.body n got') s else setRx (.check n got' []) s
    | .check n got crc =>
      match crc with
      | [] => setRx (.check n got [b.value]) s
      | _ => crcTest n got (crc ++ [b.value]) s

/-- FRAME_RECEIVED: bytes of the receive line, in the order they arrive (R186 to R188). -/
def execFrameReceived (bytes : List RxByte) (s : State) : Host.Outcome State Fault Refusal :=
  .next (if s.receives then bytes.foldl (fun s b => receiveByte b s) s else s)

/-- FRAME_GAP: more than 20 ms between two bytes of a frame (R187). An idle line before a start byte is not a gap. -/
def execFrameGap (s : State) : Host.Outcome State Fault Refusal :=
  .next (if s.inReset ∨ s.link.rx = .hunt then s else discardFraming s)

/-- REPLY_SENT: the reply has gone in full and its frame's place is free (R188). -/
def execReplySent (s : State) : Host.Outcome State Fault Refusal :=
  .next (match s.link.reply with
    | some _ => { s with link := { s.link with reply := none, buffer := s.link.buffer.tail } }
    | none => s)

/-- RECEIVE_LINE_MARK: the receive line is seen at mark; the break detector is armed and bytes are taken again (R186, R189). DESIGN CHOICE (log entry 49): in a reset
it does nothing; a line at mark as the reset ends is seen by the command after that. -/
def execReceiveLineMark (s : State) : Host.Outcome State Fault Refusal :=
  .next (if s.inReset then s else { s with link := { s.link with breakArmed := true } })

end Sys2Proof.Machine
end

