-- ==== Sys2Proof/Machine/LinkRequests.lean ====
section
/-!
DEFINITION. The link's own requests: SYNC (R193), STATUS (R194), SET-ATTENTION (R196), FETCH-EVENTS (R197), and a request of an unknown kind (R190, R191).
-/
namespace Sys2Proof.Machine

/-- SYNC sets the synced flag, and reports and clears the reset-cause set (R193). -/
def syncAct (s : State) : Answer :=
  ⟨.ok, { s with link := { s.link with synced := true }, causes := [] }, fun _ => syncData s.causes s⟩

/-- SYNC (R193). -/
def execSync (tag : Byte) (payload : List Byte) (s : State) : Host.Outcome State Fault Refusal :=
  .next (request 0x01 tag payload 0 true syncAct s)

/-- The receiver flags are cleared by the reply that reports them (R187, R188, R194). -/
def clearReceiverFlags (s : State) : State :=
  { s with link := { s.link with crcSeen := false, framingSeen := false, overrunSeen := false } }

/-- STATUS of one section (R194). -/
def statusAct (n : Nat) (s : State) : Answer :=
  match statusSection n s with
  | none => refuse .badValue s
  | some d => ⟨.ok, if n = 7 then clearReceiverFlags s else s, fun _ => d⟩

/-- STATUS (R194). -/
def execStatus (tag : Byte) (payload : List Byte) (s : State) : Host.Outcome State Fault Refusal :=
  .next (request 0x02 tag payload 1 true (statusAct (natAt 0 1 payload)) s)

/-- The attention mask that a mask byte gives (R196). -/
def maskOf (n : Nat) : AttnSet := ⟨n.testBit 0, n.testBit 1, n.testBit 2⟩

/-- SET-ATTENTION: a mask of bits 0 to 2 (R196). -/
def setAttentionAct (n : Nat) (s : State) : Answer :=
  if 8 ≤ n then refuse .badValue s
  else ⟨.ok, { s with link := { s.link with mask := maskOf n } }, fun t => [t.link.mask.byte]⟩

/-- SET-ATTENTION (R196). -/
def execSetAttention (tag : Byte) (payload : List Byte) (s : State) : Host.Outcome State Fault Refusal :=
  .next (request 0x03 tag payload 1 false (setAttentionAct (natAt 0 1 payload)) s)

/-- FETCH-EVENTS: the oldest events leave the queue and EVENTS_LOST is cleared (R197). -/
def fetchEventsAct (n : Nat) (s : State) : Answer :=
  if n = 0 ∨ 16 < n then refuse .badValue s
  else
    let es := s.link.events.take n
    ⟨.ok, { s with link := { s.link with events := s.link.events.drop n, eventsLost := false } },
      fun _ => flagField s.link.eventsLost ++ byteField es.length ++ es.flatMap eventRecord⟩

/-- FETCH-EVENTS (R197), taken before SYNC as well. -/
def execFetchEvents (tag : Byte) (payload : List Byte) (s : State) : Host.Outcome State Fault Refusal :=
  .next (request 0x04 tag payload 1 true (fetchEventsAct (natAt 0 1 payload)) s)

/-- The kinds of the catalogue (R192). -/
def catalogue : List Byte :=
  [0x01, 0x02, 0x03, 0x04, 0x05, 0x10, 0x11, 0x12, 0x20, 0x21, 0x22, 0x23, 0x24, 0x25, 0x26, 0x30, 0x31, 0x32, 0x40, 0x41]

/-- A request whose kind is not of the catalogue: refused BAD_REQUEST (R190, R191). A kind of the catalogue is not this command: no effect
(the term is ill-formed). -/
def execUnknownRequestKind (kind tag : Byte) (payload : List Byte) (s : State) : Host.Outcome State Fault Refusal :=
  .next (if kind ∈ catalogue then s else takeRequest ⟨kind, tag, payload⟩ (refuse .badRequest) s)

end Sys2Proof.Machine
end

