-- ==== Sys2Proof/Machine/PanelRequests.lean ====
section
/-!
DEFINITION. The requests of the Panel List: PLAN (R17 to R20), CANCEL (R21), QUERY (R22) and FETCH-DONE (R24).
-/
namespace Sys2Proof.Machine

/-! ### PLAN -/

/-- A cut list is as R4 and R18 want it: 2 to 9 cuts, each at least 10,000 after the one before, within the panel and its margins. -/
def cutsGood (lNom : Int) (xs : List Int) : Bool :=
  decide (2 ≤ xs.length ∧ xs.length ≤ 9)
    && (xs.zip xs.tail).all (fun p => decide (p.1 + 10000 ≤ p.2))
    && xs.head?.all (fun x => decide (-200000 ≤ x))
    && xs.getLast?.all (fun x => decide (x ≤ lNom + 200000))

/-- The plan's first cut lies before the last cut of the plan before it (R19). -/
def overlaps (last : Option LastPlan) (f : PlanFields) : Bool :=
  match last, f.cuts.head? with
  | some l, some x1 => decide (l.lNom + f.gNom + x1 < l.lastCut)
  | _, _ => false

/-- The BAD_PLAN detail of a plan, by the first check that fails (R18, R19): KIND 1, LENGTH 2, GAP 3, CUTS 4, LANES 5, OVERLAP 6. -/
def planDetail (s : State) (f : PlanFields) : Option Byte :=
  if (f.kind ≠ 1 ∧ f.kind ≠ 2) ∨ 1 < f.proof then some 1
  else if f.lNom < 300000 ∨ 50000000 < f.lNom then some 2
  else if f.gNom < 30000 ∨ 5000000 < f.gNom then some 3
  else if cutsGood f.lNom f.cuts = false then some 4
  else if 2 ^ s.straps.blades ≤ f.lanes.toNat then some 5
  else if overlaps s.lastPlan f then some 6
  else none

/-- The record of an accepted plan (R20). -/
def newPanel (serial : Nat) (f : PlanFields) : Panel where
  serial := serial
  id := f.id
  kind := if f.kind = 2 then .leader else .product
  proof := decide (f.proof = 1)
  lNom := f.lNom
  gNom := f.gNom
  lanes := f.lanes
  cuts := f.cuts
  flags := if f.kind = 2 then [.leader] else []

/-- An accepted plan takes a slot, becomes the last plan, and is taken up by an IDLE M1 cursor (R20, R51). -/
def acceptPlan (f : PlanFields) (s : State) : State :=
  let s' : State := { s with
    nextSerial := s.nextSerial + 1
    panels := s.panels ++ [newPanel s.nextSerial f]
    lastPlan := some ⟨f.lNom, f.cuts.getLast?.getD 0⟩ }
  if s'.cursor1.state = .idle then takeUpM1 s' else s'

/-- PLAN's own checks, in order (R17 to R20). -/
def planAct (f : PlanFields) (s : State) : Answer :=
  if s.credits = 0 then refuse .noCredit s
  else if f.id = 0 ∨ (s.byId? f.id).isSome then refuse .duplicateId s
  else
    match planDetail s f with
    | some d => ⟨.badPlan, s, fun _ => [d]⟩
    | none => accept (acceptPlan f s)

/-- PLAN (R17 to R20). -/
def execPlan (tag : Byte) (payload : List Byte) (s : State) : Host.Outcome State Fault Refusal :=
  .next (takeRequest ⟨0x10, tag, payload⟩ (checked (planFits payload) false (planAct (planFields payload))) s)

/-! ### CANCEL and QUERY -/

/-- CANCEL's own checks and effect (R21). -/
def cancelAct (id : PanelId) (s : State) : Answer :=
  match s.byId? id with
  | none => refuse .unknownId s
  | some p => if p.state = .done then refuse .badState s else accept (raiseFlag .cancelled p.ref s)

/-- CANCEL (R21). -/
def execCancel (tag : Byte) (payload : List Byte) (s : State) : Host.Outcome State Fault Refusal :=
  .next (request 0x11 tag payload 2 false (cancelAct (idAt payload)) s)

/-- QUERY's own check and its data (R22). -/
def queryAct (id : PanelId) (s : State) : Answer :=
  match s.byId? id with
  | none => refuse .unknownId s
  | some p => ⟨.ok, s, fun _ => panelRecord p⟩

/-- QUERY (R22). -/
def execQuery (tag : Byte) (payload : List Byte) (s : State) : Host.Outcome State Fault Refusal :=
  .next (request 0x12 tag payload 2 false (queryAct (idAt payload)) s)

/-! ### FETCH-DONE -/

/-- The DONE panels, oldest first, up to a count (R24). -/
def State.fetched (s : State) (n : Nat) : List Panel := (s.panels.filter (fun p => decide (p.state = .done))).take n

/-- A list without its first `n` DONE panels (R24). -/
def withoutDone : Nat → List Panel → List Panel
  | 0, ps => ps
  | _, [] => []
  | n + 1, p :: ps => if p.state = .done then withoutDone n ps else p :: withoutDone (n + 1) ps

/-- The slots of the fetched panels are freed, and an M2 cursor that awaits a freed panel becomes IDLE (R24, R86). -/
def freeFetched (n : Nat) (s : State) : State := freedAwait2 { s with panels := withoutDone n s.panels }

/-- FETCH-DONE's own check and effect (R24). -/
def fetchDoneAct (n : Nat) (s : State) : Answer :=
  if n = 0 ∨ 8 < n then refuse .badValue s
  else ⟨.ok, freeFetched n s, fun _ => byteField (s.fetched n).length ++ (s.fetched n).flatMap completionRecord⟩

/-- FETCH-DONE (R24), taken before SYNC as well. -/
def execFetchDone (tag : Byte) (payload : List Byte) (s : State) : Host.Outcome State Fault Refusal :=
  .next (request 0x05 tag payload 1 true (fetchDoneAct (natAt 0 1 payload)) s)

end Sys2Proof.Machine
end

