-- ==== Sys2Proof/Machine/SamplerEvents.lean ====
section
/-!
DEFINITION. The Sampler's conversions (R33 to R36) and what their consumers make of them: the Loop (R37 to R41, with the outfeed's answer to a zone change,
R140, R141), the Laminator (R154 to R157) and the teaches (R63).
-/
namespace Sys2Proof.Machine

/-! ### Rounds (R33, R34) -/

/-- The turns of a round that starts now: the active channels in order with their grants (R33, R34). -/
def State.newRound (s : State) : List (Channel × Nat) :=
  [(.dancer, s.workNat .grantDancer)]
    ++ (if s.straps.laminator then [(.temp, s.workNat .grantTemp)] else [])
    ++ (if s.sensor1.teach.isSome then [(.level1, s.workNat .grantLevel)] else [])
    ++ (if s.sensor2.teach.isSome then [(.level2, s.workNat .grantLevel)] else [])

/-- The round after one conversion: the turn goes on, the next turn begins, or the next round (R33). -/
def nextRound (fresh : List (Channel × Nat)) : List (Channel × Nat) → List (Channel × Nat)
  | (c, n + 2) :: rest => (c, n + 1) :: rest
  | _ :: [] => fresh
  | _ :: rest => rest
  | [] => fresh

/-- The Sampler goes on to the next conversion. -/
def advanceRound (s : State) : State :=
  { s with sampler := { s.sampler with round := nextRound s.newRound s.sampler.round } }

/-! ### The Loop (R37 to R41, R140, R141) -/

/-- The loop length of a result (R37). -/
def State.loopLength (s : State) (r : Nat) : Int :=
  s.work .loopAt0 + roundDiv ((r : Int) * (s.work .loopAt1023 - s.work .loopAt0)) 1023

/-- The zone of a loop length (R38). -/
def State.zoneOf (s : State) (l : Int) : Zone :=
  if l < s.work .loopEmptyBelow then .empty
  else if l < s.work .loopNormalFrom then .low
  else if l < s.work .loopHighFrom then .normal
  else if l < s.work .loopFullFrom then .high
  else .full

/-- A dancer result is out of range (R40). -/
def outOfRange (r : Nat) : Bool := decide (r < 8 ∨ 1015 < r)

/-- The three zones with the catch-up speed (R140), in which a hold is released (R141). -/
def Zone.catchUp (z : Zone) : Bool := decide (z = .normal ∨ z = .high ∨ z = .full)

/-- The outfeed's answer to a change of zone (R140, R141); none while DRAINING (R148). -/
def zoneChange (old : Zone) (s : State) : State :=
  if s.draining ∨ s.loop.zone = old then s
  else if s.loop.zone = .empty ∨ s.loop.zone = .unknown then loopHold s
  else if s.outfeedHeld then
    if s.loop.zone.catchUp then thenArrive (releaseHold s) else s
  else if old.catchUp ≠ s.loop.zone.catchUp then reissue s
  else s

/-- A DANCER result (R37 to R41). DESIGN CHOICE (log entry 56): the outfeed answers the new zone before the fault is raised; R141 and R178 give no order. -/
def dancerResult (r : Nat) (s : State) : State :=
  let was := s.loop.faulted
  let l := s.loopLength r
  let old := s.loop.zone
  let s := zoneChange old { s with loop := { s.loop with length := some l, zone := s.zoneOf l, faulted := outOfRange r } }
  if s.loop.watching ∧ outOfRange r ∧ ¬ was then raiseFault .dancer s else s

/-! ### Temperature (R154 to R157) -/

/-- A usable temperature: overtemperature, heater and settle tests, in order (R155 to R157). -/
def temperature (t : Nat) (s : State) : State :=
  let lock := s.lockoutAfter t
  let was := s.lam.lockout
  let s := updLam (fun l => { l with
    temperature := some t, sensorFaulted := false, lockout := lock, armed := s.armedAfter t, heater := s.heaterAfter t lock }) s
  settleTest t (if lock ∧ ¬ was then raiseFault .overtemp s else s)

/-- A TEMP result (R154). -/
def tempResult (r : Nat) (s : State) : State :=
  if r = 0 ∨ r = 1023 then
    let was := s.lam.sensorFaulted
    let s := updLam (fun l => { l with temperature := none, sensorFaulted := true, heater := false }) s
    loseTemperature (if was then s else raiseFault .tempSensor s)
  else temperature (2 * r) s

/-! ### Levels (R63) -/

/-- A teach sees a LEVEL result. -/
def Teach.see (r : Nat) (t : Teach) : Teach :=
  { t with
    min := some (match t.min with | some m => Nat.min m r | none => r)
    max := some (match t.max with | some m => Nat.max m r | none => r) }

/-- A LEVEL result goes to the teach in progress, if there is one (R35, R63). -/
def levelResult (sn : Sensor) (r : Nat) (s : State) : State :=
  setSensor sn { s.sensor sn with teach := (s.sensor sn).teach.map (Teach.see r) } s

/-! ### The conversion (R35) -/

/-- A result becomes its channel's latest (R35). -/
def Sampler.latest (c : Channel) (r : Nat) (m : Sampler) : Sampler :=
  match c with
  | .dancer => { m with dancer := some r }
  | .temp => { m with temp := some r }
  | .level1 => { m with level1 := some r }
  | .level2 => { m with level2 := some r }

/-- A result goes to its channel's consumer (R35). -/
def handResult (c : Channel) (r : Nat) (s : State) : State :=
  match c with
  | .dancer => dancerResult r s
  | .temp => tempResult r s
  | .level1 => levelResult .m1 r s
  | .level2 => levelResult .m2 r s

/-- The channel that is being converted. -/
def Sampler.channel (m : Sampler) : Channel := (m.round.head?.map (·.1)).getD .dancer

/-- A conversion completes (R35). -/
def convert (r : Nat) (s : State) : State :=
  let c := s.sampler.channel
  advanceRound (handResult c r { s with sampler := s.sampler.latest c r })

/-- CONVERSION_COMPLETE: the conversion in progress yields a result (R35). -/
def execConversionComplete (r : BitVec 10) (s : State) : Host.Outcome State Fault Refusal := .next (event (convert r.toNat) s)

end Sys2Proof.Machine
end

