-- ==== Sys2Proof/Machine/SettingRequests.lean ====
section
/-!
DEFINITION. The setting requests: TEACH (R62), SET-SPEED (R134, R135), SET-HEAT (R153), SET-REGISTER (R84), CAL-READ (R205) and CAL-WRITE (R206).
-/
namespace Sys2Proof.Machine

/-! ### TEACH -/

/-- A sensor's own position: P1 for sensor 1, P2 for sensor 2. -/
def State.ownPos (s : State) : Sensor → Int
  | .m1 => s.p1
  | .m2 => s.p2

/-- A teach begins (R62). -/
def startTeach (sn : Sensor) (s : State) : State :=
  let pos := s.ownPos sn
  let t : Teach := { start := pos, timer := s.startTimer 60000 }
  setTeachWatch sn (some (watchReaches pos (pos + s.work .teachSpan))) (setSensor sn { s.sensor sn with teach := some t } s)

/-- TEACH's own checks and effect (R62). -/
def teachAct (n : Nat) (s : State) : Answer :=
  match sensorOf n with
  | none => refuse .badValue s
  | some sn => if (s.sensor sn).teach.isSome then refuse .busy s else accept (startTeach sn s)

/-- TEACH (R62). -/
def execTeach (tag : Byte) (payload : List Byte) (s : State) : Host.Outcome State Fault Refusal :=
  .next (request 0x26 tag payload 1 false (teachAct (natAt 0 1 payload)) s)

/-! ### SET-SPEED -/

/-- The setpoint that a requested value becomes (R134). -/
def speedOf (v : Nat) : Nat := max 5 (min 400 v)

/-- A speed step: four times the difference exceeds the old setpoint (R135). -/
def speedStep (old new : Nat) : Bool := decide ((old : Int) < 4 * ((new : Int) - old).natAbs)

/-- The setpoint is set; a speed step adds its point, and a move whose speed it changes is reissued (R134, R135, R140). -/
def setSpeed (v : Nat) (s : State) : State :=
  let old := s.drives.setpoint
  let s' : State := { s with drives := { s.drives with setpoint := v } }
  reissue (if speedStep old v then addPoint .speedStep (s.p1 - s.work .dNip) s' else s')

/-- SET-SPEED's effect and status (R134). -/
def setSpeedAct (v : Nat) (s : State) : Answer :=
  ⟨if speedOf v = v then .ok else .okClamped, setSpeed (speedOf v) s, fun t => wordField t.drives.setpoint⟩

/-- SET-SPEED (R134, R135). -/
def execSetSpeed (tag : Byte) (payload : List Byte) (s : State) : Host.Outcome State Fault Refusal :=
  .next (request 0x30 tag payload 2 false (setSpeedAct (natAt 0 2 payload)) s)

/-! ### SET-HEAT -/

/-- The setpoint that a requested value becomes (R153). -/
def heatOf (v : Nat) : Nat := if v = 0 then 0 else max 400 (min 1400 v)

/-- SET-HEAT's own check, effect and status (R151, R153). -/
def setHeatAct (v : Nat) (s : State) : Answer :=
  if ¬ s.straps.laminator then
    if v = 0 then ⟨.ok, s, fun t => wordField t.lam.setpoint⟩ else refuse .unfitted s
  else ⟨if heatOf v = v then .ok else .okClamped, acceptHeat (heatOf v) s, fun t => wordField t.lam.setpoint⟩

/-- SET-HEAT (R153). -/
def execSetHeat (tag : Byte) (payload : List Byte) (s : State) : Host.Outcome State Fault Refusal :=
  .next (request 0x31 tag payload 2 false (setHeatAct (natAt 0 2 payload)) s)

/-! ### SET-REGISTER -/

/-- The manual choice that a code names (R198; log entry 16). -/
def choiceOf (n : Nat) : Option Choice :=
  match n with
  | 2 => some .capture
  | 3 => some .follow
  | _ => none

/-- The data of a SET-REGISTER reply (R192). -/
def registerData (s : State) : List Byte := s.reg.lock.code ++ s.reg.mode.code ++ s.reg.register.code

/-- SET-REGISTER's own checks and effect (R84). AUTO does not read the choice. -/
def setRegisterAct (lock choice : Nat) (s : State) : Answer :=
  match lock, choiceOf choice with
  | 1, _ => ⟨.ok, setRegister .auto s.reg.choice s, registerData⟩
  | 2, some c => ⟨.ok, setRegister .manual c s, registerData⟩
  | _, _ => refuse .badValue s

/-- SET-REGISTER (R84). -/
def execSetRegister (tag : Byte) (payload : List Byte) (s : State) : Host.Outcome State Fault Refusal :=
  .next (request 0x32 tag payload 2 false (setRegisterAct (natAt 0 1 payload) (natAt 1 1 payload)) s)

/-! ### The calibration store (R205, R206) -/

/-- CAL-READ's own check and data (R205). -/
def calReadAct (i : Nat) (s : State) : Answer :=
  match CalEntry.ofIndex i with
  | none => refuse .badValue s
  | some e => ⟨.ok, s, fun _ => byteField i ++ lenField (s.work e) ++ lenField (s.cal.reported.getD i 0)⟩

/-- CAL-READ (R205). -/
def execCalRead (tag : Byte) (payload : List Byte) (s : State) : Host.Outcome State Fault Refusal :=
  .next (request 0x40 tag payload 1 false (calReadAct (natAt 0 1 payload)) s)

/-- A working copy keeps both loop orders (R203). -/
def loopOrders (w : List Int) : Bool :=
  let v (e : CalEntry) : Int := w.getD e.index 0
  decide (v .loopAt0 < v .loopAt1023) && decide (v .loopEmptyBelow < v .loopNormalFrom)
    && decide (v .loopNormalFrom < v .loopHighFrom) && decide (v .loopHighFrom < v .loopFullFrom)

/-- A loop entry (R203). -/
def isLoopEntry (e : CalEntry) : Bool := decide (6 ≤ e.index ∧ e.index ≤ 11)

/-- A working value is set. -/
def setWork (e : CalEntry) (v : Int) (s : State) : State :=
  { s with cal := { s.cal with working := s.cal.working.set e.index v } }

/-- The threshold in use follows the working value, at once while the sensor has no bar in progress (R45). -/
def followThreshold (sn : Sensor) (s : State) : State :=
  match (s.sensor sn).bar with
  | .counting _ _ => s
  | _ => setSensor sn { s.sensor sn with threshold := s.work (thresholdEntry sn) } s

/-- The blocks whose rules act on a changed working value (R206). -/
def actOnWork (e : CalEntry) (s : State) : State :=
  match e with
  | .sMax => clampStretch s
  | .threshM1 => followThreshold .m1 s
  | .threshM2 => followThreshold .m2 s
  | _ => s

/-- An accepted CAL-WRITE (R206, R207). -/
def beginWrite (e : CalEntry) (v : Int) (s : State) : State :=
  let s := setWork e v s
  tryCommits (actOnWork e { s with cal := { s.cal with write := some (e.index, v) } })

/-- CAL-WRITE's own checks and effect, in order (R206). -/
def calWriteAct (i : Nat) (v : Int) (s : State) : Answer :=
  match CalEntry.ofIndex i with
  | none => refuse .badValue s
  | some e =>
    if s.continuing then refuse .badState s
    else if s.cal.write.isSome then refuse .busy s
    else if ¬ e.inRange v then refuse .badValue s
    else if isLoopEntry e ∧ ¬ loopOrders (s.cal.working.set e.index v) then refuse .badValue s
    else accept (beginWrite e v s)

/-- CAL-WRITE (R206). -/
def execCalWrite (tag : Byte) (payload : List Byte) (s : State) : Host.Outcome State Fault Refusal :=
  .next (request 0x41 tag payload 5 false (calWriteAct (natAt 0 1 payload) (intAt 1 4 payload)) s)

/-- CAL_WRITE_COMPLETE: the stored entry holds the value, and CAL_WRITTEN is queued (R207). -/
def completeWrite (s : State) : State :=
  match s.cal.write with
  | some (i, v) =>
    queueEvent (.calWritten i v) { s with cal := { s.cal with
      store := s.cal.store.set i ⟨v, true⟩, reported := s.cal.reported.set i v, write := none } }
  | none => s

/-- CAL_WRITE_COMPLETE (R207). -/
def execCalWriteComplete (s : State) : Host.Outcome State Fault Refusal := .next (event completeWrite s)

end Sys2Proof.Machine
end

