-- ==== Sys2Proof/Machine/StationEvents.lean ====
section
/-!
DEFINITION. The events of the Knife Station: device confirms and their timers (R123), the end of a stroke (R126, R127), the knife's timer (R128, R132), the end
of a homing (R132), and the home switches (R130).
-/
namespace Sys2Proof.Machine

/-! ### Devices (R123) -/

/-- The level of an input at the gate and the slitter is set; a blade that is not fitted has inputs all the same. -/
def setStationInput (d : StationInput) (v : Bool) (i : Inputs) : Inputs :=
  match d with
  | .gateDelivery => { i with gateDelivery := v }
  | .gateScrap => { i with gateScrap := v }
  | .bladeDown k => { i with bladeDown := if v then i.bladeDown ||| BitVec.twoPow 6 k else i.bladeDown &&& ~~~(BitVec.twoPow 6 k) }
  | .bladeUp k => { i with bladeUp := if v then i.bladeUp ||| BitVec.twoPow 6 k else i.bladeUp &&& ~~~(BitVec.twoPow 6 k) }
  | .inspectReject => { i with inspectReject := v }

/-- A MOVING gate commanded to a position confirms (R123). -/
def confirmGate (pos : GatePos) (s : State) : State :=
  let g := s.station.gate
  if g.commanded = pos ∧ ¬ g.confirmed then
    { s with station := { s.station with gate := { g with confirmed := true, timer := none } } }
  else s

/-- A MOVING blade commanded to a position confirms (R123). -/
def Blade.confirm (down : Bool) (b : Blade) : Blade :=
  if b.down = down ∧ ¬ b.confirmed then { b with confirmed := true, timer := none } else b

/-- A blade's confirm becomes active. -/
def confirmBlade (k : Nat) (down : Bool) (s : State) : State :=
  { s with station := { s.station with blades := s.station.blades.modify k (Blade.confirm down) } }

/-- What an input at the gate and the slitter that becomes active confirms. -/
def confirmDevice (d : StationInput) (s : State) : State :=
  match d with
  | .gateDelivery => confirmGate .delivery s
  | .gateScrap => confirmGate .scrap s
  | .bladeDown k => confirmBlade k true s
  | .bladeUp k => confirmBlade k false s
  | .inspectReject => s

/-- DEVICE_CONFIRM: an input at the gate or the slitter takes a level; an active one confirms its MOVING device (R123). Going inactive is not
watched. The row carries the inspect-reject input too, which the table gives no row (log entry 9). -/
def execDeviceConfirm (d : StationInput) (active : Bool) (s : State) : Host.Outcome State Fault Refusal :=
  .next (inputEvent (setStationInput d active) (if active then confirmDevice d else id) s)

/-- The gate's timer has run out with the gate MOVING (R123). -/
def gateTimedOut (s : State) : State :=
  raiseFault .gateTimeout { s with station := { s.station with gate := { s.station.gate with timer := none } } }

/-- GATE_TIMEOUT (R123). -/
def execGateTimeout (s : State) : Host.Outcome State Fault Refusal := .next (timerEvent s.station.gate.timer gateTimedOut s)

/-- A blade's timer has run out with the blade MOVING (R123). -/
def bladeTimedOut (k : Nat) (s : State) : State :=
  raiseFault .bladeTimeout { s with station :=
    { s.station with blades := s.station.blades.modify k (fun b => { b with timer := none }) } }

/-- BLADE_TIMEOUT (R123). A blade that is not fitted has no timer. -/
def execBladeTimeout (k : Fin 6) (s : State) : Host.Outcome State Fault Refusal :=
  .next (timerEvent (s.station.blades[k.val]?.bind (·.timer)) (bladeTimedOut k) s)

/-! ### Knife (R126 to R132) -/

/-- The level of a home switch. -/
def Inputs.home (i : Inputs) : Home → Bool
  | .left => i.homeL
  | .right => i.homeR

/-- The level of a home switch is set. -/
def setHome (h : Home) (v : Bool) (i : Inputs) : Inputs :=
  match h with
  | .left => { i with homeL := v }
  | .right => { i with homeR := v }

/-- STROKE_COMPLETE: the far home switch becomes active during a traverse (R126, R127). -/
def execStrokeComplete (s : State) : Host.Outcome State Fault Refusal :=
  .next (if s.station.knife.traversing then inputEvent (setHome s.station.knife.far true) completeStroke s else s)

/-- The knife's timer has run out (R126, R128, R132): the knife stops UNHOMED and KNIFE_TIMEOUT is raised. -/
def knifeTimedOut (s : State) : State :=
  raiseFault .knifeTimeout (stopHoming (if s.station.knife.traversing then interruptTraverse s else s))

/-- KNIFE_TIMEOUT (R128, R132). -/
def execKnifeTimeout (s : State) : Host.Outcome State Fault Refusal :=
  .next (timerEvent s.station.knifeTimer knifeTimedOut s)

/-- A homing ends at the left home (R132). -/
def completeHoming (s : State) : State := queueEvent (.knifeHomed .left) (knifeAt .left s)

/-- HOMING_COMPLETE: the left home switch becomes active during a homing (R132). -/
def execHomingComplete (s : State) : Host.Outcome State Fault Refusal :=
  .next (if s.station.knife = .homing then inputEvent (setHome .left true) completeHoming s else s)

/-- The knife state follows the switches outside a traverse and a homing (R130). -/
def knifeFollows (i : Inputs) (k : KnifeState) : KnifeState :=
  match k with
  | .homeL => if i.homeL then .homeL else .unhomed
  | .homeR => if i.homeR then .homeR else .unhomed
  | .unhomed => if i.homeL && !i.homeR then .homeL else if i.homeR && !i.homeL then .homeR else .unhomed
  | k => k

/-- A home switch has changed (R126, R130, R132). -/
def homeChanged (h : Home) (active : Bool) (s : State) : State :=
  if s.station.knife.traversing then
    if active ∧ h = s.station.knife.far then completeStroke s else s
  else if s.station.knife = .homing then
    if active ∧ h = .left then completeHoming s else s
  else { s with station := { s.station with knife := knifeFollows s.inputs s.station.knife } }

/-- HOME_SWITCH_CHANGE: a home switch changes (R130). -/
def execHomeSwitchChange (h : Home) (active : Bool) (s : State) : Host.Outcome State Fault Refusal :=
  .next (inputEvent (setHome h active) (if s.inputs.home h = active then id else homeChanged h active) s)

end Sys2Proof.Machine
end

