-- ==== Sys2Proof/Machine/ResetEvents.lean ====
section
/-!
DEFINITION. Resets and start-up (R209, R210): the four ways a reset is taken, the load of the calibration store (R204), the straps (R208), the values of
every block after a reset, and the order in which the part starts.
-/
namespace Sys2Proof.Machine

/-! ### The blocks after a reset -/

/-- The knife state by the switches alone (R130). -/
def knifeByHomes (i : Inputs) : KnifeState := knifeFollows i .unhomed

/-- The Knife Station after a reset: gate commanded SCRAP, every fitted blade UP, no timers (R112). -/
def freshStation (i : Inputs) (blades : Nat) : Station where
  gate := { commanded := .scrap, confirmed := i.gateScrap }
  blades := (List.range blades).map (fun k => { down := false, confirmed := i.bladeAt k false })
  knife := knifeByHomes i

/-- The nip after a reset: commanded open, OPEN if NIP_OPEN is active; reported CLOSED without the strap (R151, R159). DESIGN CHOICE (log entry 43): the standing
command is open without the strap too, where the part drives no nip output. -/
def freshLaminator (i : Inputs) (fitted : Bool) : Laminator :=
  { nip := if fitted then (if i.nipOpen then .opened else .opening) else .closed }

/-- A sensor after a reset (R45, R49, R62). -/
def freshSensor (dark : Bool) (threshold : Int) : SensorBlock := { threshold, bar := abandonedBar dark }

/-- The Registration Unit after a reset, from the working copy (R66, R76). -/
def State.freshReg (s : State) : RegBlock :=
  let manual := decide (s.work .defaultLockMode = 2)
  { s := s.initialStretch
    lock := if manual then .manual else .auto
    register := if manual then .none else .outOfRegister }

/-- Every block takes the values its chapter gives for after a reset, reading the working copy and the input levels as they stand (R210). The
queue of commands, the clock, the inputs, the straps, the calibration store and the reset causes are not blocks that lose their values. -/
def freshBlocks (s : State) : State :=
  { s with
    panels := []
    lastPlan := none
    roll1 := s.freshRoll .e1Scale
    roll2 := s.freshRoll .e2Scale
    watches := {}
    sampler := { round := [(.dancer, s.workNat .grantDancer)]
      ++ (if s.straps.laminator then [(.temp, s.workNat .grantTemp)] else []) }
    loop := {}
    sensor1 := freshSensor s.inputs.dark1 (s.work .threshM1)
    sensor2 := freshSensor s.inputs.dark2 (s.work .threshM2)
    webEnd := false
    cursor1 := {}
    reg := s.freshReg
    cursor2 := {}
    planner := {}
    station := freshStation s.inputs s.straps.blades
    drives := {}
    lam := freshLaminator s.inputs s.straps.laminator
    line := {}
    link := {} }

/-! ### Taking a reset (R207, R209) -/

/-- A write in flight is cut short: that entry's check value will fail (R207). -/
def cutWrite (s : State) : State :=
  match s.cal.write with
  | some (i, _) =>
    { s with cal := { s.cal with store := s.cal.store.modify i (fun e => { e with checkOk := false }), write := none } }
  | none => s

/-- A reset kind joins those that hold the part in reset. -/
def addKind (k : ResetKind) (ks : List ResetKind) : List ResetKind := if k ∈ ks then ks else ks ++ [k]

/-- A reset of a kind is taken, or extends one that is held (R209): drive enables off, reset output driven, ATTN deasserted, every block's state lost. DESIGN CHOICE
(log entry 49): the break detector is disarmed as the reset is taken, and nothing arms it while the reset is held, so that no LINK_BREAK extends a held reset. -/
def beginReset (k : ResetKind) (s : State) : State :=
  let s := freshBlocks (cutWrite s)
  { s with heldBy := addKind k s.heldBy, driveEnable := false, resetOut := true }

/-- A reset cause is added to the set (R209). -/
def addCause (k : ResetKind) (s : State) : State := { s with causes := addKind k s.causes }

/-- The straps as a power-on reads them: a reading of 7 blades is taken as 6 (R208). -/
def readStraps (blades : BitVec 3) (laminator baud : Bool) : Straps :=
  { blades := min 6 blades.toNat, laminator, baud }

/-- POWER_ON: the set becomes {POWER_ON} and the straps are read (R208, R209). -/
def execPowerOn (blades : BitVec 3) (laminator baud : Bool) (s : State) : Host.Outcome State Fault Refusal :=
  .next (beginReset .powerOn { s with causes := [.powerOn], straps := readStraps blades laminator baud })

/-- RESET_PIN (R209). -/
def execResetPin (s : State) : Host.Outcome State Fault Refusal := .next (beginReset .resetPin (addCause .resetPin s))

/-- LINK_BREAK: a break of 50 ms with the detector armed (R189, R209), which it never is while another reset is held (log entry 49). -/
def execLinkBreak (s : State) : Host.Outcome State Fault Refusal :=
  .next (if s.link.breakArmed then beginReset .linkBreak (addCause .linkBreak s) else s)

/-- SUPPLY_LOW: a supply that is low during the power-on ramp, while POWER_ON still holds the part, adds nothing (R209). -/
def execSupplyLow (s : State) : Host.Outcome State Fault Refusal :=
  .next (if .powerOn ∈ s.heldBy then s else beginReset .supplyLow (addCause .supplyLow s))

/-! ### The load (R204) -/

/-- A stored entry is good: its check passes and its value lies in its entry's range. -/
def goodEntry (e : CalEntry) (x : StoredEntry) : Bool := x.checkOk && e.inRange x.value

/-- The entries with their stored values, in order. -/
def withStore (store : List StoredEntry) : List (CalEntry × StoredEntry) := calEntries.zip store

/-- The value an entry loads, before the loop orders are tested. -/
def loadValue (x : CalEntry × StoredEntry) : Int := if goodEntry x.1 x.2 then x.2.value else x.1.row.default

/-- The loop entries take their defaults (R204). -/
def defaultLoops (w : List Int) : List Int :=
  w.zipIdx.map (fun v => if 6 ≤ v.2 ∧ v.2 ≤ 11 then calDefaults.getD v.2 0 else v.1)

/-- The set of entries, by number, that satisfy a test, as a 64-bit number with entry i in bit i (R193, R204). -/
def bitsOf (bs : List Bool) : BitVec 64 :=
  bs.zipIdx.foldl (fun acc b => if b.1 then acc ||| BitVec.twoPow 64 b.2 else acc) 0

/-- The store's block after a load (R204). -/
def loadCal (c : CalBlock) : CalBlock :=
  let entries := withStore c.store
  let loaded := entries.map loadValue
  let broken := !loopOrders loaded
  { c with
    working := if broken then defaultLoops loaded else loaded
    reported := loaded
    defaulted := bitsOf (entries.map (fun x => !goodEntry x.1 x.2 || (broken && isLoopEntry x.1)))
    write := none }

/-! ### The end of a reset (R210) -/

/-- The E-stop input active as a reset ends is taken as becoming active then (R167). -/
def startLine (s : State) : State := if s.inputs.eStop then enterEStop s else s

/-- The part starts (R210): working copy loaded, every block fresh, enables asserted and reset output released; the line UNTHREADED or E_STOPPED. -/
def startUp (s : State) : State :=
  let s := freshBlocks { s with cal := loadCal s.cal, heldBy := [], driveEnable := true, resetOut := false }
  finish s (startLine s)

/-- The kind that goes next. DESIGN CHOICE (log entry 27): the power-on reset, whose ramp ends, before any other; of the others the one longest held. -/
def State.nextToGo (s : State) : Option ResetKind := if .powerOn ∈ s.heldBy then some .powerOn else s.heldBy.head?

/-- A reset kind goes (R209): the part starts when no kind holds it any longer, and otherwise stays in reset. -/
def endHold (s : State) : State :=
  match s.nextToGo with
  | some k =>
    let left := s.heldBy.filter (fun j => decide (j ≠ k))
    if left = [] then startUp s else { s with heldBy := left }
  | none => s

/-- RESET_END: one reset kind that holds the part goes, and with the last one the reset ends (R209, R210). The table's row speaks of the last kind alone;
that the command also takes one of several kinds away is the model's choice (log entry 27). -/
def execResetEnd (s : State) : Host.Outcome State Fault Refusal := .next (endHold s)

end Sys2Proof.Machine
end

