-- ==== Sys2Proof/Machine/RollEvents.lean ====
section
/-!
DEFINITION. The measuring rolls: a step of an encoder (R25 to R28), the high-water mark and the armed indication (R30), and the watches (R31).
-/
namespace Sys2Proof.Machine

/-- The place of a pair of levels in the sequence of R25, counted from 0. -/
def quadrature (a b : Bool) : Nat :=
  match a, b with
  | false, false => 0
  | true, false => 1
  | true, true => 2
  | false, true => 3

/-- The greatest count (R25). -/
def countLimit : Int := 549755813887

/-- The position of a count at a scale (R28). -/
def positionOf (count scale : Int) : Int := roundDiv (count * scale) 1000

/-- A roll whose count moves by `d`, with its position, high-water mark and armed indication (R25, R28, R30). -/
def moveRoll (d : Int) (r : RollBlock) : RollBlock :=
  let c := r.count + d
  let p := positionOf c r.scale
  { r with
    count := c
    pos := p
    high := max r.high p
    armed := if r.high < p then true else if p < r.pos then false else r.armed }

/-- The roll of an encoder. -/
def State.roll (s : State) : Roll → RollBlock
  | .e1 => s.roll1
  | .e2 => s.roll2

/-- The roll of an encoder is set. -/
def setRoll (r : Roll) (b : RollBlock) (s : State) : State :=
  match r with
  | .e1 => { s with roll1 := b }
  | .e2 => { s with roll2 := b }

/-- The fault of an encoder (R26). -/
def encoderCause : Roll → FaultCause
  | .e1 => .encoder1
  | .e2 => .encoder2

/-- The watches on a roll's position see a step (R31). -/
def stepWatches (r : Roll) (old new : Int) (s : State) : State :=
  match r with
  | .e1 => { s with watches := s.watches.stepP1 old new }
  | .e2 => { s with watches := s.watches.stepP2 old new }

/-- An encoder fault: outside UNTHREADED the flag is set and the fault raised (R26, R27). -/
def encoderFault (r : Roll) (s : State) : State :=
  if s.line.state = .unthreaded then s
  else raiseFault (encoderCause r) (setRoll r { s.roll r with fault := true } s)

/-- A legal transition by `d` (R25, R27). -/
def countStep (r : Roll) (d : Int) (s : State) : State :=
  let b := s.roll r
  if (b.count + d).natAbs ≤ countLimit then
    let b' := moveRoll d b
    stepWatches r b.pos b'.pos (setRoll r b' s)
  else encoderFault r s

/-- The levels that stand on an encoder's channels. -/
def Inputs.channels (i : Inputs) : Roll → Bool × Bool
  | .e1 => (i.e1A, i.e1B)
  | .e2 => (i.e2A, i.e2B)

/-- The levels of an encoder's channels are set. -/
def setChannels (r : Roll) (a b : Bool) (i : Inputs) : Inputs :=
  match r with
  | .e1 => { i with e1A := a, e1B := b }
  | .e2 => { i with e2A := a, e2B := b }

/-- A change of levels from `old` to `new` as the roll takes it (R25, R26). -/
def transition (r : Roll) (old new : Bool × Bool) (s : State) : State :=
  let d := (quadrature new.1 new.2 + 4 - quadrature old.1 old.2) % 4
  if d = 0 then s
  else if d = 1 then countStep r 1 s
  else if d = 3 then countStep r (-1) s
  else encoderFault r s

/-- ENCODER_STEP: the levels of one encoder's channels after a change (R25 to R28, R30, R31). -/
def execEncoderStep (r : Roll) (a b : Bool) (s : State) : Host.Outcome State Fault Refusal :=
  .next (inputEvent (setChannels r a b) (transition r (s.inputs.channels r) (a, b)) s)

end Sys2Proof.Machine
end

