-- ==== Sys2Proof/Machine/SensorEvents.lean ====
section
/-!
DEFINITION. The events of mark sensing: bars (R46 to R48), the windows' watches (R54, R72), print splices (R58 to R60), WEB1 (R61) and the ends of a
teach (R63, R64).
-/
namespace Sys2Proof.Machine

/-! ### Bars (R46 to R48) -/

/-- The comparator's level of a sensor. -/
def Inputs.dark (i : Inputs) : Sensor → Bool
  | .m1 => i.dark1
  | .m2 => i.dark2

/-- The comparator's level of a sensor is set. -/
def setDark (sn : Sensor) (v : Bool) (i : Inputs) : Inputs :=
  match sn with
  | .m1 => { i with dark1 := v }
  | .m2 => { i with dark2 := v }

/-- A sensor's bar watch is set or removed. -/
def setBarWatch (sn : Sensor) (w : Option Watch) (s : State) : State :=
  match sn with
  | .m1 => { s with watches := { s.watches with bar1 := w } }
  | .m2 => { s with watches := { s.watches with bar2 := w } }

/-- A sensor's bar watch. -/
def State.barWatch (s : State) : Sensor → Option Watch
  | .m1 => s.watches.bar1
  | .m2 => s.watches.bar2

/-- The roll that a sensor reads its position from is armed. -/
def State.armedAt (s : State) : Sensor → Bool
  | .m1 => s.roll1.armed
  | .m2 => s.roll2.armed

/-- A sensor's bar state is set. -/
def setBar (sn : Sensor) (b : Bar) (s : State) : State := setSensor sn { s.sensor sn with bar := b } s

/-- The light turns to dark (R46, R48). -/
def leadingEdge (sn : Sensor) (s : State) : State :=
  match (s.sensor sn).bar with
  | .none =>
    let p := s.ownPos sn
    if s.armedAt sn then setBarWatch sn (some (watchPasses p (p + s.work .markMax))) (setBar sn (.counting p false) s)
    else setBar sn .ignoring s
  | _ => s

/-- BAR_LEADING_EDGE (R46). -/
def execBarLeadingEdge (sn : Sensor) (s : State) : Host.Outcome State Fault Refusal :=
  .next (inputEvent (setDark sn true) (if s.inputs.dark sn then id else leadingEdge sn) s)

/-- A valid bar goes to its sensor's consumer (R47). -/
def reportBar (sn : Sensor) (leading : Int) (stale : Bool) (s : State) : State :=
  match sn with
  | .m1 => reportM1 leading stale s
  | .m2 => reportM2 leading stale s

/-- A bar in progress has gone without a report (R54, R72). -/
def lostBar (sn : Sensor) (s : State) : State :=
  match sn with
  | .m1 => lostBarM1 s
  | .m2 => lostBarM2 s

/-- The bar state becomes NONE, the watch goes, and a threshold held back takes effect (R45, R47, R48). -/
def endBar (sn : Sensor) (s : State) : State :=
  setBarWatch sn none (setSensor sn { s.sensor sn with bar := .none, threshold := s.work (thresholdEntry sn) } s)

/-- A bar's length is valid (R47). -/
def State.validBar (s : State) (len : Int) : Bool := decide (s.work .markMin ≤ len ∧ len ≤ s.work .markMax)

/-- The dark turns to light (R47). -/
def trailingEdge (sn : Sensor) (s : State) : State :=
  match (s.sensor sn).bar with
  | .counting l stale =>
    let s' := endBar sn s
    if s.validBar (s.ownPos sn - l) then reportBar sn l stale s' else lostBar sn s'
  | .ignoring => endBar sn s
  | .none => s

/-- BAR_TRAILING_EDGE (R47). -/
def execBarTrailingEdge (sn : Sensor) (s : State) : Host.Outcome State Fault Refusal :=
  .next (inputEvent (setDark sn false) (if s.inputs.dark sn then trailingEdge sn else id) s)

/-- The bar watch fires: the bar can no longer be valid (R48). -/
def exceedBar (sn : Sensor) (s : State) : State := lostBar sn (setBarWatch sn none (setBar sn .ignoring s))

/-- BAR_MAX_EXCEEDED: acts once the bar's watch has fired (R48; log entry 8). -/
def execBarMaxExceeded (sn : Sensor) (s : State) : Host.Outcome State Fault Refusal :=
  .next (if watchDue (s.barWatch sn) then event (exceedBar sn) s else s)

/-! ### The windows' watches (R54, R59, R72) -/

/-- M1_WINDOW_EXPIRY: acts once the watch has fired (R54; log entry 8). -/
def execM1WindowExpiry (s : State) : Host.Outcome State Fault Refusal :=
  .next (if watchDue s.watches.m1Window then event expireM1 s else s)

/-- M2_WINDOW_EXPIRY: acts once the watch has fired (R72; log entry 8). -/
def execM2WindowExpiry (s : State) : Host.Outcome State Fault Refusal :=
  .next (if watchDue s.watches.m2Window then event expireM2 s else s)

/-- SPLICE_HOLD_RELEASE: acts once the hold watch has fired (R59; log entry 8). -/
def execSpliceHoldRelease (s : State) : Host.Outcome State Fault Refusal :=
  .next (if watchDue s.watches.hold then event releaseHold1 s else s)

/-! ### Print splices (R58 to R60) -/

/-- A print splice is taken (R58 to R60). DESIGN CHOICE (log entry 51): the PRINT_SPLICE point is added after the cursor has coasted its tail, and so after an
M2 resolution that this coast brings about in the same event, which does not consume the point. DESIGN CHOICE (log entry 53): SPLICE is given before the coast,
so that a gate fixed in the same event, after an arrival that the coast's refresh brings, reads it. -/
def takeSplice (s : State) : State :=
  let a := s.p1
  let z := s.work .spliceZone
  let s := spliceCursor1 (a + z) (raiseWhere .splice (Panel.touches (a - z) (a + z)) s)
  queueEvent (.splice false a) (addPoint .printSplice a s)

/-- PRINT_SPLICE: the splice input becomes active (R58). -/
def execPrintSplice (s : State) : Host.Outcome State Fault Refusal :=
  .next (inputEvent (fun i => { i with splice := true })
    (if s.inputs.splice ∨ s.cursor1.state = .halted then id else takeSplice) s)

/-- SPLICE_INPUT_CLEAR: the splice input goes inactive (R58). -/
def execSpliceInputClear (s : State) : Host.Outcome State Fault Refusal :=
  .next (inputEvent (fun i => { i with splice := false }) id s)

/-! ### WEB1 (R61) -/

/-- WEB_END_REPORT: WEB1 becomes absent. Web end is reported if the line feeds and the web-end record is clear (R61). -/
def execWebEndReport (s : State) : Host.Outcome State Fault Refusal :=
  .next (inputEvent (fun i => { i with web1 := false })
    (if s.inputs.web1 ∧ s.feeding ∧ ¬ s.webEnd then reportWebEnd else id) s)

/-- WEB_PRESENT: WEB1 returns to present (R61). -/
def execWebPresent (s : State) : Host.Outcome State Fault Refusal :=
  .next (inputEvent (fun i => { i with web1 := true }) id s)

/-! ### The ends of a teach (R63, R64) -/

/-- The threshold a teach finds, if its contrast is enough (R63). -/
def taughtValue (contrastMin : Int) (t : Teach) : Option Int :=
  match t.min, t.max with
  | some lo, some hi => if contrastMin ≤ (hi : Int) - lo then some ((lo + hi) / 2 : Nat) else none
  | _, _ => none

/-- The span watch of a teach fires: TAUGHT or LOW_CONTRAST (R63). -/
def completeTeach (sn : Sensor) (s : State) : State :=
  match (s.sensor sn).teach with
  | some t =>
    match taughtValue (s.work .contrastMin) t with
    | some v => endTeach sn .taught (followThreshold sn (setWork (thresholdEntry sn) v s))
    | none => endTeach sn .lowContrast s
  | none => s

/-- A sensor's span watch. -/
def State.teachWatch (s : State) : Sensor → Option Watch
  | .m1 => s.watches.teach1
  | .m2 => s.watches.teach2

/-- TEACH_SPAN_REACHED: acts once the span watch has fired (R63; log entry 8). -/
def execTeachSpanReached (sn : Sensor) (s : State) : Host.Outcome State Fault Refusal :=
  .next (if watchDue (s.teachWatch sn) then event (completeTeach sn) s else s)

/-- TEACH_TIMEOUT: the teach timer runs out (R64). -/
def execTeachTimeout (sn : Sensor) (s : State) : Host.Outcome State Fault Refusal :=
  .next (match (s.sensor sn).teach with
    | some t => event (fun s => endTeach sn .timeout (reachTime t.timer.start t.timer.limit s)) s
    | none => s)

end Sys2Proof.Machine
end

