-- ==== Sys2Proof/Machine/Dispatch.lean ====
section
/-!
DEFINITION. The dispatch: one arm for each command, in the order of spec/opcode_table.json, each one direct call of the command's meaning.
-/
namespace Sys2Proof.Machine

def exec (i : Instr) (s : State) : Host.Outcome State Fault Refusal :=
  match i with
  | .sync tag payload => Sys2Proof.Machine.execSync tag payload s
  | .status tag payload => Sys2Proof.Machine.execStatus tag payload s
  | .setAttention tag payload => Sys2Proof.Machine.execSetAttention tag payload s
  | .fetchEvents tag payload => Sys2Proof.Machine.execFetchEvents tag payload s
  | .fetchDone tag payload => Sys2Proof.Machine.execFetchDone tag payload s
  | .plan tag payload => Sys2Proof.Machine.execPlan tag payload s
  | .cancel tag payload => Sys2Proof.Machine.execCancel tag payload s
  | .query tag payload => Sys2Proof.Machine.execQuery tag payload s
  | .thread tag payload => Sys2Proof.Machine.execThread tag payload s
  | .run tag payload => Sys2Proof.Machine.execRun tag payload s
  | .hold tag payload => Sys2Proof.Machine.execHold tag payload s
  | .clear tag payload => Sys2Proof.Machine.execClear tag payload s
  | .resume tag payload => Sys2Proof.Machine.execResume tag payload s
  | .homeKnife tag payload => Sys2Proof.Machine.execHomeKnife tag payload s
  | .teach tag payload => Sys2Proof.Machine.execTeach tag payload s
  | .setSpeed tag payload => Sys2Proof.Machine.execSetSpeed tag payload s
  | .setHeat tag payload => Sys2Proof.Machine.execSetHeat tag payload s
  | .setRegister tag payload => Sys2Proof.Machine.execSetRegister tag payload s
  | .calRead tag payload => Sys2Proof.Machine.execCalRead tag payload s
  | .calWrite tag payload => Sys2Proof.Machine.execCalWrite tag payload s
  | .unknownRequestKind kind tag payload => Sys2Proof.Machine.execUnknownRequestKind kind tag payload s
  | .frameReceived bytes => Sys2Proof.Machine.execFrameReceived bytes s
  | .frameGap => Sys2Proof.Machine.execFrameGap s
  | .replySent => Sys2Proof.Machine.execReplySent s
  | .powerOn blades laminator baud => Sys2Proof.Machine.execPowerOn blades laminator baud s
  | .resetPin => Sys2Proof.Machine.execResetPin s
  | .linkBreak => Sys2Proof.Machine.execLinkBreak s
  | .supplyLow => Sys2Proof.Machine.execSupplyLow s
  | .resetEnd => Sys2Proof.Machine.execResetEnd s
  | .encoderStep roll a b => Sys2Proof.Machine.execEncoderStep roll a b s
  | .barLeadingEdge sensor => Sys2Proof.Machine.execBarLeadingEdge sensor s
  | .barTrailingEdge sensor => Sys2Proof.Machine.execBarTrailingEdge sensor s
  | .barMaxExceeded sensor => Sys2Proof.Machine.execBarMaxExceeded sensor s
  | .m1WindowExpiry => Sys2Proof.Machine.execM1WindowExpiry s
  | .spliceHoldRelease => Sys2Proof.Machine.execSpliceHoldRelease s
  | .printSplice => Sys2Proof.Machine.execPrintSplice s
  | .webEndReport => Sys2Proof.Machine.execWebEndReport s
  | .teachSpanReached sensor => Sys2Proof.Machine.execTeachSpanReached sensor s
  | .teachTimeout sensor => Sys2Proof.Machine.execTeachTimeout sensor s
  | .m2WindowExpiry => Sys2Proof.Machine.execM2WindowExpiry s
  | .conversionComplete result => Sys2Proof.Machine.execConversionComplete result s
  | .settleTimer => Sys2Proof.Machine.execSettleTimer s
  | .idleTimer => Sys2Proof.Machine.execIdleTimer s
  | .dwellMark => Sys2Proof.Machine.execDwellMark s
  | .dwellMax => Sys2Proof.Machine.execDwellMax s
  | .nipTimeout => Sys2Proof.Machine.execNipTimeout s
  | .nipConfirm input => Sys2Proof.Machine.execNipConfirm input s
  | .nipConfirmLost input => Sys2Proof.Machine.execNipConfirmLost input s
  | .filmSplice => Sys2Proof.Machine.execFilmSplice s
  | .filmOut => Sys2Proof.Machine.execFilmOut s
  | .stackFull => Sys2Proof.Machine.execStackFull s
  | .eStop => Sys2Proof.Machine.execEStop s
  | .inDrive => Sys2Proof.Machine.execInDrive s
  | .outDrive => Sys2Proof.Machine.execOutDrive s
  | .moveEnded => Sys2Proof.Machine.execMoveEnded s
  | .moveTimeout => Sys2Proof.Machine.execMoveTimeout s
  | .tailOut => Sys2Proof.Machine.execTailOut s
  | .planStarved => Sys2Proof.Machine.execPlanStarved s
  | .deviceConfirm input active => Sys2Proof.Machine.execDeviceConfirm input active s
  | .gateTimeout => Sys2Proof.Machine.execGateTimeout s
  | .bladeTimeout blade => Sys2Proof.Machine.execBladeTimeout blade s
  | .strokeComplete => Sys2Proof.Machine.execStrokeComplete s
  | .knifeTimeout => Sys2Proof.Machine.execKnifeTimeout s
  | .homingComplete => Sys2Proof.Machine.execHomingComplete s
  | .homeSwitchChange home active => Sys2Proof.Machine.execHomeSwitchChange home active s
  | .calWriteComplete => Sys2Proof.Machine.execCalWriteComplete s
  | .eStopRelease => Sys2Proof.Machine.execEStopRelease s
  | .inDriveClear => Sys2Proof.Machine.execInDriveClear s
  | .outDriveClear => Sys2Proof.Machine.execOutDriveClear s
  | .filmOutClear => Sys2Proof.Machine.execFilmOutClear s
  | .stackFullClear => Sys2Proof.Machine.execStackFullClear s
  | .webPresent => Sys2Proof.Machine.execWebPresent s
  | .spliceInputClear => Sys2Proof.Machine.execSpliceInputClear s
  | .filmSpliceClear => Sys2Proof.Machine.execFilmSpliceClear s
  | .receiveLineMark => Sys2Proof.Machine.execReceiveLineMark s

end Sys2Proof.Machine
end

