-- ==== Sys2Proof/Machine/Step.lean ====
section
/-!
DEFINITION. The step of the machine: the command at the front of the queue is taken. With an empty queue a millisecond passes (log entry 6).
-/
namespace Sys2Proof.Machine

/-- One millisecond passes: all that happens of itself while no command waits (log entry 6). -/
def tick (s : State) : State := { s with now := s.now + 1 }

/-- The step: the command at the front of the queue acts on the state with the queue's rest; with an empty queue time passes. -/
def step (s : State) : Host.Outcome State Fault Refusal :=
  match s.pending with
  | [] => .next (tick s)
  | c :: cs => exec c { s with pending := cs }

/-- The command that a word spells, put at the front of the queue. The table gives no row bits, so no word spells one. -/
def State.withFetchWord (s : State) (nbits w : Nat) : State :=
  match Sys2Proof.decodeTableWord nbits w with
  | some c => { s with pending := c :: s.pending }
  | none => s

end Sys2Proof.Machine
end

