-- ==== Sys2Proof/Safety.lean ====
section
/-!
DEFINITION. What a sound state of the FC32 is: the bounds, the orders and the levels that the rules promise of every moment. Each is stated of one state; that
every step keeps it is a statement for the provers.
-/
namespace Sys2Proof.Machine

/-! ### Levels that follow the state -/

/-- The infeed reference is the least of the four allowances as they stand (R136). -/
def InfeedFollows (s : State) : Prop := s.drives.infeedRef = s.infeedReference

/-- ATTN stands at the level its terms and the mask give it (R196). -/
def AttnFollows (s : State) : Prop := s.link.attn = s.attnLevel

/-- The drive enables are off, and the reset output driven, exactly while a reset is held (R209, R210). -/
def EnablesFollow (s : State) : Prop := s.driveEnable = !s.inReset ∧ s.resetOut = s.inReset

/-! ### Capacities -/

/-- The link's places: 64 events (R195), 2 frames (R188), and a frame in the buffer for a reply being sent (R188, R190). -/
def LinkFits (s : State) : Prop :=
  s.link.events.length ≤ 64 ∧ s.link.buffer.length ≤ 2 ∧ (s.link.reply.isSome → s.link.buffer ≠ [])

/-- The 48 slots (R2). -/
def SlotsFit (s : State) : Prop := s.panels.length ≤ 48

/-! ### Panels (R12, R13, R23) -/

/-- The fields a plan gives a panel, which nothing changes afterwards (R3, R4). -/
def Panel.plan (p : Panel) : Nat × PanelId × PanelKind × Bool × Int × Int × Byte × List Int :=
  (p.serial, p.id, p.kind, p.proof, p.lNom, p.gNom, p.lanes, p.cuts)

/-- A panel has a completion code exactly when it is DONE; it has had no more cuts than its plan lists, and all of them only when DONE; the
pieces it counts are no more than its cuts. -/
def Panel.Sound (p : Panel) : Prop :=
  (p.state = .done ↔ p.completion.isSome) ∧ p.cutsDone ≤ p.cuts.length ∧ (p.state ≠ .done → p.cutsDone < p.cuts.length)
    ∧ p.delivered + p.scrapped ≤ p.cutsDone

/-- The place of a state in the order of R14. -/
def PanelState.rank : PanelState → Nat
  | .queued => 0
  | .infeed => 1
  | .atOutfeed => 2
  | .committed => 3
  | .cutting => 4
  | .done => 5

/-- The cuts of an entry that a stroke at it serves: its own and its partner's (R95). -/
def strokeCuts (e : Entry) : List CutRef := e.cut.toList ++ e.partner.toList

/-- The indices of a panel's cuts that the Cut Queue holds. -/
def queuedCuts (serial : Nat) (q : List Entry) : List Nat :=
  q.flatMap (fun e => (strokeCuts e).filterMap (fun c => if c.panel.serial = serial then some c.index else none))

/-- The product pieces of every panel are counted at most once (R7, R8): those delivered or scrapped, with those that the cuts still queued for an unfinished panel
will sever, are at most its n - 1, and its strokes with those queued at most n. Nothing of a panel before COMMITTED is queued or counted, a panel has at most one
trigger for each cut, and the queue names no panel still to come. -/
def PiecesCounted (s : State) : Prop :=
  (∀ p ∈ s.panels, let cuts := queuedCuts p.serial s.planner.queue
    p.delivered + p.scrapped ≤ p.cuts.length - 1
    ∧ (∀ ts, p.triggers = some ts → ts.length ≤ p.cuts.length)
    ∧ (p.state ≠ .done → p.cutsDone + cuts.length ≤ p.cuts.length
        ∧ p.delivered + p.scrapped + (cuts.filter (fun i => decide (2 ≤ i))).length ≤ p.cuts.length - 1)
    ∧ (p.state.rank < 3 → cuts = [] ∧ p.cutsDone = 0 ∧ p.delivered = 0 ∧ p.scrapped = 0))
  ∧ (∀ e ∈ s.planner.queue, ∀ c ∈ strokeCuts e, c.panel.serial < s.nextSerial)

/-- R14: along the Panel List no panel is QUEUED, INFEED or AT_OUTFEED while one planned after it is in a later state. With it, what the two cursors do to keep it:
a head that M1 expects is that of the first QUEUED panel, and one that M2 expects that of the first INFEED panel, unless that panel is past it (R9, R10). -/
def InPlanOrder (s : State) : Prop :=
  s.panels.Pairwise (fun p q => p.state.rank < 3 → q.state.rank ≤ p.state.rank)
  ∧ (∀ e, s.cursor1.expect = some e → e.mark = .head → e.panel.serial < s.nextSerial ∧ ∀ p ∈ s.panels,
      p.serial = e.panel.serial → p.state = .queued → s.panels.find? (fun q => decide (q.state = .queued)) = some p)
  ∧ (∀ e, s.cursor2.expect = some e → e.mark = .head → e.panel.serial < s.nextSerial ∧ ∀ p ∈ s.panels,
      p.serial = e.panel.serial → p.state = .infeed → s.panels.find? (fun q => decide (q.state = .infeed)) = some p)

/-- Every panel is sound, and no two have one serial number; serial numbers still to come are unused. -/
def PanelsSound (s : State) : Prop :=
  (∀ p ∈ s.panels, p.Sound ∧ p.serial < s.nextSerial) ∧ (s.panels.map (·.serial)).Nodup

/-! ### Registration -/

/-- The stretch in use lies within the working value of S_MAX on either side (R76). -/
def StretchHeld (s : State) : Prop := -(s.work .sMax) ≤ s.reg.s ∧ s.reg.s ≤ s.work .sMax

/-- The Disturbance List holds at most 16 points in strictly ascending order (R82). -/
def PointsOrdered (s : State) : Prop :=
  s.reg.points.length ≤ 16 ∧ s.reg.points.Pairwise (fun p q => p.pos < q.pos)

/-! ### The Cut Queue -/

/-- The entries of the Cut Queue stand in ascending order of their triggers (R95, R97). -/
def QueueAscending (s : State) : Prop := s.planner.queue.Pairwise (fun d e => d.trigger ≤ e.trigger)

/-- R97: the Cut Queue holds at most 32 entries in strictly ascending order of their triggers. -/
def QueueStrict (s : State) : Prop :=
  s.planner.queue.Pairwise (fun d e => d.trigger < e.trigger) ∧ s.planner.queue.length ≤ 32

/-! ### Calibration (R203) -/

/-- A minimum or maximum that a teach has seen is a result of the converter (R33, R63). -/
def Teach.Sound (t : Teach) : Prop := (∀ v, t.min = some v → v ≤ 1023) ∧ (∀ v, t.max = some v → v ≤ 1023)

/-- The working copy has its 58 values, each in its entry's range, and keeps both loop orders; the store has its 58 entries. The teaches in progress
hold results of the converter, so that what they find is in range. -/
def CalSound (s : State) : Prop :=
  s.cal.working.length = 58 ∧ s.cal.store.length = 58 ∧ (∀ e : CalEntry, e.inRange (s.work e) = true)
    ∧ loopOrders s.cal.working = true
    ∧ (∀ t, s.sensor1.teach = some t → t.Sound) ∧ (∀ t, s.sensor2.teach = some t → t.Sound)

/-! ### Where nothing is under way -/

/-- The receiver takes bytes, no request is being answered and no frame waits: a request that comes is taken at once (R186, R190). -/
def LinkFree (s : State) : Prop := s.heldBy = [] ∧ s.link.breakArmed = true ∧ s.link.reply = none ∧ s.link.buffer = []

/-- A stop in progress has come to its end (R170, R171). -/
def State.stopEnds (s : State) : Bool :=
  decide (s.line.state = .stopping)
    && (if s.feeding then decide (s.station.cycle = .idle) && s.planner.target.isNone else s.station.cycle.restful)

/-- The part runs, and nothing is left for an event to bring to its end: the station can do nothing of itself (R114, R124), no stop ends (R170, R171), and
every level stands as the state gives it: the close demand (R160), the infeed reference (R136), the dwell and idle timers (R158, R162), the starvation
watch (R145) and ATTN (R196). -/
structure Settled (s : State) : Prop where
  running : s.heldBy = []
  station : pumpStep s = none
  stop : s.stopEnds = false
  close : s.closeDemand = false
  infeed : InfeedFollows s
  dwell : s.lam.dwell.isSome = s.dwellRuns
  idle : s.lam.idle.isSome = s.idleRuns
  starve : s.watches.starve.map (·.limit) = s.starveLimit
  attn : AttnFollows s

/-! ### Requests answered -/

/-- `t` with the request `f` answered in it: the frame holds its place, and the reply carries the frame's tag, the status, the credits and the attention summary
of `t`, and the data (R190, R191, R199). -/
def answered (f : Frame) (st : Status) (data : List Byte) (t : State) : State :=
  { t with link := { t.link with
    buffer := [f]
    reply := some
      { kind := replyKind f.kind, tag := f.tag, status := st, credits := t.credits, attention := t.summary, data := data } } }

/-- A row of the catalogue with a payload of fixed length: its command, kind and length, and whether it is taken before SYNC (R192). -/
structure CatalogueRow where
  command : Byte → List Byte → Instr
  kind : Byte
  length : Nat
  unsynced : Bool

/-- The catalogue but for PLAN, whose payload has no fixed length (R192). -/
def fixedRows : List CatalogueRow :=
  [⟨.sync, 0x01, 0, true⟩, ⟨.status, 0x02, 1, true⟩, ⟨.setAttention, 0x03, 1, false⟩, ⟨.fetchEvents, 0x04, 1, true⟩,
    ⟨.fetchDone, 0x05, 1, true⟩, ⟨.cancel, 0x11, 2, false⟩, ⟨.query, 0x12, 2, false⟩] ++
  [⟨.thread, 0x20, 0, false⟩, ⟨.run, 0x21, 0, false⟩, ⟨.hold, 0x22, 0, false⟩, ⟨.clear, 0x23, 0, false⟩,
    ⟨.resume, 0x24, 0, false⟩, ⟨.homeKnife, 0x25, 0, false⟩, ⟨.teach, 0x26, 1, false⟩] ++
  [⟨.setSpeed, 0x30, 2, false⟩, ⟨.setHeat, 0x31, 2, false⟩, ⟨.setRegister, 0x32, 2, false⟩, ⟨.calRead, 0x40, 1, false⟩,
    ⟨.calWrite, 0x41, 5, false⟩]

/-- A row of the table that is a request: one of the catalogue, PLAN among them, or one of a kind outside it (R191, R192). -/
def RequestRow (r : CatalogueRow) : Prop :=
  r ∈ fixedRows ∨ (r.command = .plan ∧ r.kind = 0x10) ∨ (r.kind ∉ catalogue ∧ r.command = .unknownRequestKind r.kind)

/-! ### Layouts (R194, R198, R200, R201) -/

/-- A field that may be absent: its presence byte, and its width in zeros where it is absent (R194, R198). -/
def optional (width : Nat) (field : Option (List Byte)) : List Byte :=
  match field with
  | some bytes => 1 :: bytes
  | none => List.replicate (width + 1) 0

/-- A mark coordinate: presence 1 seen, 2 coasted, 0 absent (R198, R200). -/
def markField (c : Option Coord) : List Byte :=
  match c with
  | some c => [if c.coasted then 2 else 1] ++ posField c.pos
  | none => [0, 0, 0, 0, 0, 0, 0]

/-- L2: its basis byte and its length, zeros while absent (R200, R201). -/
def lengthField (l : Option Length2) : List Byte :=
  match l with
  | some l => l.basis.code ++ lenField l.len
  | none => [0, 0, 0, 0, 0]

/-- The flags of R16 with their bits in the flag set (R201). -/
def flagBit : Flag → Nat
  | .leader => 0
  | .cancelled => 1
  | .unlocked => 2
  | .coastedM1 => 3
  | .coastedM2 => 4
  | .scaleFault => 5
  | .splice => 6
  | .filmSplice => 7
  | .dwell => 8
  | .cutOffPos => 9
  | .cutFault => 10
  | .merged => 11
  | .laneLate => 12
  | .recut => 13
  | .inspect => 14
  | .stretchLimit => 15
  | .short => 16

/-- Bit `i` of the flag set of a panel (R201): the flag of that bit is held; bit 17 says that SCALE_FAULT is held and rejecting. -/
def flagSetBit (p : Panel) (i : Nat) : Bool :=
  p.flags.any (fun f => flagBit f == i) || (i == 17 && p.flags.any (fun f => flagBit f == 5) && p.scaleRejecting)

/-- The flag set in its 3 bytes, low byte first (R201). -/
def flagSet (p : Panel) : List Byte :=
  (List.range 3).map (fun k => BitVec.ofNat 8 (((List.range 8).map (fun j => if flagSetBit p (8 * k + j) then 2 ^ j else 0)).sum))

/-- The panel record that QUERY returns (R200): the plan fields in the PLAN layout, the state, the four marks, L2, the triggers, the counters, the flag set, and the
completion code, 0 while absent. -/
def queryLayout (p : Panel) : List Byte :=
  (idField p.id ++ p.kind.code ++ flagField p.proof ++ lenField p.lNom ++ lenField p.gNom ++ [p.lanes] ++ byteField p.cuts.length
    ++ (p.cuts.map lenField).flatten)
  ++ p.state.code ++ markField p.aHead ++ markField p.aTail ++ markField p.bHead ++ markField p.bTail ++ lengthField p.l2
  ++ byteField (p.triggers.getD []).length ++ ((p.triggers.getD []).map posField).flatten
  ++ byteField p.cutsDone ++ byteField p.delivered ++ byteField p.scrapped ++ flagSet p ++ ((p.completion.map Completion.code).getD [0])

/-- A completion record (R201). -/
def completionLayout (p : Panel) : List Byte :=
  idField p.id ++ p.kind.code ++ flagField p.proof ++ ((p.completion.map Completion.code).getD [0]) ++ byteField p.cuts.length
  ++ byteField p.cutsDone ++ byteField p.delivered ++ byteField p.scrapped ++ flagSet p ++ markField p.bHead ++ lengthField p.l2

/-- A teach in section 2: TEACHING 2 or IDLE 1, then start position, minimum and maximum. -/
def teachLayout (t : Option Teach) : List Byte :=
  match t with
  | some t => [2, 1] ++ posField t.start ++ optional 2 (t.min.map wordField) ++ optional 2 (t.max.map wordField)
  | none => [1] ++ List.replicate 13 0

/-- Kind, trigger, cut, partner, lane change and state of the first entry of the queue in section 4 (R111). -/
def entryLayout (e : Option Entry) : List Byte :=
  let cut (c : Option CutRef) : List Byte := optional 3 (c.map (fun c => idField c.panel.id ++ byteField c.index))
  match e with
  | some e =>
    [1, if e.cut = none then 2 else if e.lane = none then 1 else 3] ++ (1 :: posField e.trigger) ++ cut e.cut ++ cut e.partner
      ++ optional 3 (e.lane.map (fun l => l.lanes :: idField l.owner.id)) ++ (1 :: e.state.code)
  | none => List.replicate 23 0

/-- The outfeed in section 5 (R150): MOVING 1, HELD 2 or STOPPED 3; kind, owner, end point and speed of the move; kind and end point of the held request. -/
def outfeedLayout (o : Outfeed) : List Byte :=
  match o with
  | .moving m => [1] ++ (1 :: m.kind.code) ++ (1 :: m.owner.code) ++ optional 6 (m.endPoint.map posField) ++ (1 :: wordField m.speed)
      ++ List.replicate 9 0
  | .held (.station _ e) => [2] ++ List.replicate 14 0 ++ (1 :: Owner.station.code) ++ (1 :: posField e)
  | .held .free => [2] ++ List.replicate 14 0 ++ (1 :: Owner.free.code) ++ List.replicate 7 0
  | .held .nothing => [2] ++ List.replicate 23 0
  | .stopped => [3] ++ List.replicate 23 0

/-- The sections 0 to 7 of STATUS (R194), each with its fields in the order of the rule it names (R32, R35, R38, R66, R67, R111, R133, R150, R166, R184). -/
def statusLayout (n : Nat) (s : State) : List Byte :=
  let time (start : Option Nat) : List Byte := optional 4 (start.map (fun t => timeField (s.now - t)))
  let word (v : Option Nat) : List Byte := optional 2 (v.map wordField)
  let pos (v : Option Int) : List Byte := optional 6 (v.map posField)
  let len (v : Option Int) : List Byte := optional 4 (v.map lenField)
  match n with
  | 0 => s.line.state.code
      ++ (match s.line.stop with | some r => (1 :: r.cls.code) ++ (1 :: r.cause.code) | none => [0, 0, 0, 0])
      ++ (match s.line.firstFault with
          | some f => (1 :: f.cause.code) ++ (1 :: posField f.p1) ++ (1 :: posField f.p2) | none => List.replicate 16 0)
      ++ (match s.line.resume with | some l => 1 :: l.code | none => [0, 0])
      ++ flagField s.inputs.eStop ++ flagField s.inputs.stackFull
      ++ ([FaultCause.encoder1, .encoder2, .dancer, .tempSensor, .overtemp, .knifeTimeout, .gateTimeout, .bladeTimeout, .nipTimeout,
            .inDrive, .outDrive, .moveTimeout, .estop].map (fun c => if s.present c = true then 1 else 0))
  | 1 => posField s.roll1.pos ++ posField s.roll2.pos ++ posField s.roll1.high ++ posField s.roll2.high ++ flagField s.roll1.fault
      ++ flagField s.roll2.fault ++ word s.sampler.dancer ++ word s.sampler.temp ++ len s.loop.length ++ s.loop.zone.code
      ++ flagField s.loop.faulted ++ [if s.loop.watching then 1 else 2] ++ len s.loop.atThread ++ len s.loop.k
  | 2 => wordOf s.sensor1.threshold ++ wordOf s.sensor2.threshold ++ s.sensor1.bar.code ++ s.sensor2.bar.code ++ s.cursor1.state.code
      ++ (match s.cursor1.expect with
          | some e => (1 :: idField e.panel.id) ++ (1 :: e.mark.code) ++ (match e.window with
              | some w => (1 :: posField w.expected) ++ (1 :: posField w.lower) ++ (1 :: posField w.upper)
              | none => List.replicate 21 0)
          | none => List.replicate 26 0)
      ++ pos s.cursor1.lastTail ++ flagField s.cursor1.seekPending ++ pos s.cursor1.holdLimit ++ flagField s.inputs.web1
      ++ teachLayout s.sensor1.teach ++ teachLayout s.sensor2.teach
  | 3 => (match s.reg.anchor with | some (a, b) => 1 :: (posField a ++ posField b) | none => List.replicate 13 0)
      ++ lenField s.reg.s ++ s.reg.mode.code ++ s.reg.lock.code ++ s.reg.choice.code ++ s.reg.register.code
      ++ byteField s.reg.lockCount ++ byteField s.reg.coastCount ++ len s.loop.k ++ byteField s.reg.points.length
      ++ (match s.reg.points with | p :: _ => 1 :: posField p.pos | [] => List.replicate 7 0) ++ s.cursor2.state.code
      ++ (match s.cursor2.expect with
          | some e => (1 :: idField e.panel.id) ++ (1 :: e.mark.code) ++ (match e.window with
              | some w => (1 :: posField w.predicted) ++ (1 :: posField w.lower) ++ (1 :: posField w.upper)
              | none => List.replicate 21 0)
          | none => List.replicate 26 0)
  | 4 => byteField s.planner.queue.length ++ pos s.planner.target ++ pos s.planner.limit ++ entryLayout s.planner.queue.head?
      ++ s.station.cycle.code
      ++ (match s.planner.queue with
          | e :: _ => if e.state = .pending then [0, 0, 0, 0] else optional 3 (e.cut.map (fun c => idField c.panel.id ++ byteField c.index))
          | [] => [0, 0, 0, 0])
      ++ byteField s.station.corrections ++ len s.station.lastErr ++ flagField s.station.recut ++ s.station.knife.code
      ++ s.station.gate.commanded.code ++ [if s.station.gate.confirmed then 2 else 1]
      ++ (s.station.blades.map (fun b => [(if b.down then 2 else 1 : Byte), if b.confirmed then 2 else 1])).flatten ++ [s.station.laneSet]
  | 5 => wordField s.drives.setpoint ++ wordField s.drives.infeedRef ++ wordField s.drives.setpoint ++ wordField s.loopAllowance
      ++ wordField s.lamAllowance ++ wordField s.lineAllowance ++ outfeedLayout s.drives.outfeed ++ pos s.drives.starveBase
      ++ flagField s.watches.starve.isSome ++ s.drives.webSeq.code ++ pos s.drives.aEnd ++ pos s.drives.tailOutPos ++ pos s.planner.limit
  | 6 => flagField s.straps.laminator ++ wordField s.lam.setpoint ++ s.lam.heat.code ++ optional 2 (s.lam.target.map wordOf)
      ++ word s.lam.temperature ++ flagField s.lam.sensorFaulted ++ [if s.lam.heater then 1 else 2] ++ flagField s.lam.armed
      ++ flagField s.lam.lockout ++ time (s.lam.settle.map (·.start)) ++ time (s.lam.idle.map (·.start)) ++ time (s.lam.dwell.map (·.start))
      ++ s.lam.nip.code ++ [if s.lam.commandClose then 1 else 2] ++ flagField s.lam.reclose ++ flagField s.inputs.nipOpen
      ++ flagField s.inputs.nipClosed ++ flagField s.inputs.filmOut
  | _ => flagField s.link.synced ++ flagField s.link.crcSeen ++ flagField s.link.framingSeen ++ flagField s.link.overrunSeen
      ++ flagField s.link.eventsLost ++ byteField s.link.events.length
      ++ [(if s.link.mask.done then 1 else 0) + (if s.link.mask.event then 2 else 0) + (if s.link.mask.fault then 4 else 0)]
      ++ flagField s.straps.baud

/-! ### Stops of the outfeed -/

/-- A STOP-NOW without deadline in place of a move, for an owner (R139, R143). -/
def stopNow (m : Move) (o : Owner) (reports : Bool) : Move :=
  { kind := .stopNow, purpose := m.purpose, owner := o, distance := 0, speed := 0, endPoint := none, deadline := none, reports }

/-- The outfeed after the line has left the feeding states (R116, R141, R142): a move of the approach and a free run are given STOP-NOW, their held requests
go, and a correction is left alone. -/
def outfeedAfterLeaving (s : State) : Outfeed :=
  match decide (s.station.cycle = .approach), s.drives.outfeed with
  | true, .moving m => .moving (stopNow m m.owner true)
  | true, .held _ => .held .nothing
  | false, .moving m => if m.owner = .free then .moving (stopNow m .free true) else .moving m
  | false, .held .free => .stopped
  | _, o => o

/-- The first entry of the queue with its state set, where a condition holds. -/
def firstSet (c : Bool) (st : EntryState) (q : List Entry) : List Entry :=
  match c, q with
  | true, e :: es => { e with state := st } :: es
  | _, q => q

/-- A command to open moves the nip (R159): it is CLOSED or CLOSING, and the part has a laminator (R151). -/
def nipOpens (s : State) : Bool := s.straps.laminator && decide (s.lam.nip = .closed ∨ s.lam.nip = .closing)

/-- The nip after a command to open (R159, R161). -/
def nipAfterOpen (s : State) : Nip := if nipOpens s then (if s.inputs.nipOpen then .opened else .opening) else s.lam.nip

/-! ### A fault taken (R178, R179) -/

/-- What `t` keeps of `s` when a fault is taken. -/
structure FaultFrame (s t : State) : Prop where
  panels : t.panels = s.panels ∧ t.nextSerial = s.nextSerial
  lastPlan : t.lastPlan = s.lastPlan
  reg : t.reg = s.reg
  cursor1 : t.cursor1 = s.cursor1
  cursor2 : t.cursor2 = s.cursor2
  sensors : t.sensor1 = s.sensor1 ∧ t.sensor2 = s.sensor2 ∧ t.webEnd = s.webEnd
  rolls : t.roll1 = s.roll1 ∧ t.roll2 = s.roll2
  sampler : t.sampler = s.sampler
  loop : t.loop = s.loop
  cal : t.cal = s.cal
  outside : t.pending = s.pending ∧ t.now = s.now ∧ t.inputs = s.inputs ∧ t.straps = s.straps
  resets : t.causes = s.causes ∧ t.heldBy = s.heldBy ∧ t.driveEnable = s.driveEnable ∧ t.resetOut = s.resetOut
  target : t.planner.target = s.planner.target
  limit : t.planner.limit = s.planner.limit
  watches : { t.watches with starve := s.watches.starve } = s.watches
  lam : { t.lam with
    nip := s.lam.nip, nipTimer := s.lam.nipTimer, reclose := s.lam.reclose, commandClose := s.lam.commandClose
    dwell := s.lam.dwell, idle := s.lam.idle } = s.lam
  drives : { t.drives with outfeed := s.drives.outfeed, infeedRef := s.drives.infeedRef } = s.drives
  link : { t.link with events := s.link.events, eventsLost := s.link.eventsLost, attn := s.link.attn } = s.link

/-- The line has entered FAULTED by the fault `c` out of `s` (R178, R179): the records latched, the drives stopped, the station's sequence ended or paused, the
nip commanded open under its timer, the dwell and idle timers stopped (R158, R162), the FAULT and LINE_STATE events queued; all else as it was. `s` is the state with what the fault's own rule changes already changed in it.
That a dwell under way ends in the fault's event is the model's choice (log entry 46). -/
structure FaultTaken (c : FaultCause) (s t : State) : Prop where
  line : t.line =
    { state := .faulted, stop := none, firstFault := some ⟨c, s.p1, s.p2⟩
      resume := some (if s.line.state = .running ∨ s.line.state = .stopping then .holding else s.line.state) }
  infeed : t.drives.infeedRef = 0
  outfeed : t.drives.outfeed = match s.drives.outfeed with
    | .moving m => .moving (stopNow m m.owner false)
    | _ => .stopped
  cycle : t.station.cycle = match s.station.cycle with
    | .approach => .idle
    | .correct => .paused
    | .preparing => .paused
    | c => c
  queue : t.planner.queue =
    if s.station.cycle = .approach then firstSet true .pending s.planner.queue
    else if s.station.cycle = .correct ∨ s.station.cycle = .preparing then firstSet true .settling s.planner.queue
    else s.planner.queue
  station : { t.station with cycle := s.station.cycle } = s.station
  starve : t.watches.starve = none
  nip : t.lam.nip = nipAfterOpen s
  nipTimer : t.lam.nipTimer =
    if nipOpens s then (if s.inputs.nipOpen then none else some ⟨s.now, s.workNat .nipTimeout⟩) else s.lam.nipTimer
  commandClose : t.lam.commandClose = (if nipOpens s then false else s.lam.commandClose)
  reclose : t.lam.reclose = (s.straps.laminator || s.lam.reclose)
  timers : t.lam.dwell = none ∧ t.lam.idle = none
  events : s.link.events.length ≤ 62 → t.link.events = s.link.events ++ [.fault c true s.p1 s.p2, t.line.event]
  kept : FaultFrame s t

/-- The fault `c` has been raised on a line that was FAULTED or E_STOPPED already (R179): a FAULT event is queued, not latched, and nothing else. -/
def FaultNoted (c : FaultCause) (s t : State) : Prop := t = attnUpdate (queueEvent (.fault c false s.p1 s.p2) s)

/-- The fault `c` has been raised out of `s` (R178, R179). -/
def FaultRaised (c : FaultCause) (s t : State) : Prop :=
  if s.line.state = .faulted ∨ s.line.state = .eStopped then FaultNoted c s t else FaultTaken c s t

/-! ### Plans, resets and loads -/

/-- A plan's fields pass the checks of R18 on a part with `blades` blades. -/
abbrev PlanInRange (blades : Nat) (f : PlanFields) : Prop :=
  (f.kind = 1 ∨ f.kind = 2) ∧ f.proof ≤ 1 ∧ 300000 ≤ f.lNom ∧ f.lNom ≤ 50000000 ∧ 30000 ≤ f.gNom ∧ f.gNom ≤ 5000000
    ∧ 2 ≤ f.cuts.length ∧ f.cuts.length ≤ 9 ∧ (∀ x ∈ f.cuts.zip f.cuts.tail, x.1 + 10000 ≤ x.2)
    ∧ (∀ x ∈ f.cuts.head?, -200000 ≤ x) ∧ (∀ x ∈ f.cuts.getLast?, x ≤ f.lNom + 200000) ∧ f.lanes.toNat < 2 ^ blades

/-- The plan's first cut lies at or behind the last cut of the plan before it (R19). -/
abbrev PlanFollows (last : Option LastPlan) (f : PlanFields) : Prop :=
  ∀ l ∈ last, ∀ x ∈ f.cuts.head?, l.lastCut ≤ l.lNom + f.gNom + x

/-- Where a knife that no command drives stands, by its home switches (R130). -/
def knifeStands (i : Inputs) : KnifeState :=
  if i.homeL = true ∧ i.homeR = false then .homeL else if i.homeR = true ∧ i.homeL = false then .homeR else .unhomed

/-- What every reset leaves while it is held (R3, R29, R36, R66, R109, R112, R134, R152, R167, R186, R195, R196, R209), a traverse or homing stopped among it; the check of an entry whose write it cuts short failing (R207); the calibration's working copy, the clock, the inputs and the queue of commands being as they were. -/
structure ResetHeld (s t : State) : Prop where
  outputs : t.driveEnable = false ∧ t.resetOut = true
  list : t.panels = [] ∧ t.lastPlan = none
  rolls : t.roll1 = { scale := s.work .e1Scale } ∧ t.roll2 = { scale := s.work .e2Scale }
  watches : t.watches = {}
  converter : t.sampler.dancer = none ∧ t.sampler.temp = none ∧ t.sampler.level1 = none ∧ t.sampler.level2 = none
  loop : t.loop = {}
  teach : t.sensor1.teach = none ∧ t.sensor2.teach = none
  cursors : t.cursor1 = {} ∧ t.cursor2 = {} ∧ t.webEnd = false
  reg : t.reg.anchor = none ∧ t.reg.mode = .seek ∧ t.reg.points = [] ∧ t.reg.lockCount = 0 ∧ t.reg.coastCount = 0
  planner : t.planner = {}
  station : t.station.cycle = .idle ∧ t.station.gate.commanded = .scrap ∧ t.station.laneSet = 0 ∧ t.station.recut = false
  knife : t.station.knifeTimer = none ∧ t.station.knife = knifeStands s.inputs
  drives : t.drives = {}
  lam : t.lam.heat = .off ∧ t.lam.setpoint = 0 ∧ t.lam.heater = false ∧ t.lam.lockout = false
  line : t.line = {}
  link : t.link = {}
  kept : t.pending = s.pending ∧ t.now = s.now ∧ t.inputs = s.inputs ∧ t.cal.working = s.cal.working ∧ t.cal.write = none
  store : t.cal.store = match s.cal.write with
    | some (i, _) => s.cal.store.modify i (fun e => { e with checkOk := false })
    | none => s.cal.store

/-- R204: an entry loads its stored value where that is good, and its default otherwise. -/
abbrev loadedValue (e : CalEntry) (x : StoredEntry) : Int :=
  if x.checkOk = true ∧ e.row.lo ≤ x.value ∧ x.value ≤ e.row.hi then x.value else e.row.default

/-- The 58 entries as they load, before the loop orders are tested (R204). -/
abbrev loadedAll (s : State) : List Int := (calEntries.zip s.cal.store).map (fun x => loadedValue x.1 x.2)

/-! ### Measuring and marks -/

/-- A watch after its position has stepped from `old` to `new` (R31): it fires at a forward step that takes the position past its limit, or, for one that reaches, to it; one
set with its limit behind fires at the next forward step. A watch that has fired stays due (log entry 8). -/
def watchAfter (passes : Bool) (old new : Int) (w : Watch) : Watch :=
  { w with due := w.due || (decide (old < new)
      && (w.beyond || (if passes then decide (old ≤ w.limit ∧ w.limit < new) else decide (old < w.limit ∧ w.limit ≤ new)))) }

/-- A bar in progress has begun before an expectation taken up now, and will not resolve it (R53, R71). -/
def outlived (b : Bar) : Bar :=
  match b with
  | .counting l _ => .counting l true
  | b => b

/-- The levels of an encoder's channels that follow some levels in the forward order 00, 10, 11, 01 (R25). -/
def nextPair (p : Bool × Bool) : Bool × Bool := (!p.2, p.1)

/-- A bar is in progress: the bar state is COUNTING (R47). -/
def Bar.inProgress : Bar → Bool
  | .counting _ _ => true
  | _ => false

/-- A roll after a legal transition by `d` counts (R25, R28, R30). -/
def rollAfter (d : Int) (r : RollBlock) : RollBlock :=
  let p := roundDiv ((r.count + d) * r.scale) 1000
  { r with
    count := r.count + d, pos := p, high := max r.high p
    armed := if r.high < p then true else if p < r.pos then false else r.armed }

/-- The dwell, idle and starvation records as an event leaves them in `t`, the rest of the laminator as in `s`. -/
def LamKept (s t : State) : Prop := { t.lam with dwell := s.lam.dwell, idle := s.lam.idle } = s.lam

/-- The blocks of cutting and of the web as in `s`. -/
structure WebKept (s t : State) : Prop where
  panels : t.panels = s.panels
  reg : t.reg = s.reg
  cursor1 : t.cursor1 = s.cursor1
  cursor2 : t.cursor2 = s.cursor2
  planner : t.planner = s.planner
  station : t.station = s.station
  cal : t.cal = s.cal
  rolls : t.roll1 = s.roll1 ∧ t.roll2 = s.roll2
  pending : t.pending = s.pending

/-- A commanded device (R123): one already confirmed where it is commanded stands; any other is CONFIRMED at once if its input is active, and MOVING under its
timer if not. -/
def gateAfter (s : State) (pos : GatePos) : Gate :=
  let now := match pos with
    | .delivery => s.inputs.gateDelivery
    | .scrap => s.inputs.gateScrap
  if s.station.gate.commanded = pos ∧ s.station.gate.confirmed = true then s.station.gate
  else { commanded := pos, confirmed := now, timer := if now = true then none else some ⟨s.now, s.workNat .gateTimeout⟩ }

/-- The blades commanded to a lane set (R122, R123); blade 0 here is blade 1 of the manual. -/
def bladesAfter (s : State) (lanes : Byte) : List Blade :=
  s.station.blades.zipIdx.map (fun x =>
    let down := lanes.getLsbD x.2
    let now := if down then s.inputs.bladeDown.getLsbD x.2 else s.inputs.bladeUp.getLsbD x.2
    if x.1.down = down ∧ x.1.confirmed = true then x.1
    else { down, confirmed := now, timer := if now = true then none else some ⟨s.now, s.workNat .bladeTimeout⟩ })

/-- A panel after a stroke of its cut `i` (R7, R8, R12, R23): one cut more, its piece counted by the gate from the second cut on, and DONE with its completion
code at its last. -/
def strokeOn (delivered : Bool) (i : Nat) (q : Panel) : Panel :=
  if q.state = .done then q
  else
    let d := q.delivered + (if 2 ≤ i ∧ delivered = true then 1 else 0)
    let c := q.scrapped + (if 2 ≤ i ∧ delivered = false then 1 else 0)
    if q.cuts.length ≤ q.cutsDone + 1 then
      { q with
        cutsDone := q.cutsDone + 1, delivered := d, scrapped := c, state := .done
        completion := some (if d + 1 = q.cuts.length then .delivered else if d = 0 then .scrapped else .partly) }
    else { q with cutsDone := q.cutsDone + 1, delivered := d, scrapped := c, state := .cutting }

/-- The free-run move of D_MK that is issued from rest in a line that is not DRAINING, or what is held of it for the loop (R140 to R143). -/
def freeRunFrom (s : State) : Outfeed :=
  if s.loop.zone = .empty ∨ s.loop.zone = .unknown then .held .free
  else
    let v := if s.loop.zone = .low then s.drives.setpoint
      else min 600 (roundDiv (s.drives.setpoint * s.work .outRatio) 100).toNat
    let d := (s.work .dMk).toNat
    .moving
      { kind := .forward, purpose := .freeRun, owner := .free, distance := d, speed := v
        endPoint := some (s.p2 + s.work .dMk)
        deadline := some (s.now + (3 * d + 5 * v - 1) / (5 * v) + s.workNat .moveTimeout) }

/-- A FORWARD or REVERSE move from P2 to an end point, in a loop zone and at a setpoint (R140, R143, R148): a creep at 10, any other at the setpoint in LOW and while DRAINING, and
at the catch-up speed otherwise. -/
def movedTo (s : State) (zone : Zone) (setpoint : Nat) (p : Purpose) (o : Owner) (e : Int) : Outfeed :=
  let v := if p = .creep then 10
    else if zone = .low ∨ s.drives.webSeq = .draining then setpoint
    else min 600 (roundDiv (setpoint * s.work .outRatio) 100).toNat
  let d := (e - s.p2).natAbs
  .moving
    { kind := if e < s.p2 then .reverse else .forward, purpose := p, owner := o, distance := d, speed := v, endPoint := some e
      deadline := some (s.now + (3 * d + 5 * v - 1) / (5 * v) + s.workNat .moveTimeout) }

/-- What a change of zone or setpoint makes of a MOVING move (R140): an approach or a free run is reissued to its end point, or given STOP-NOW under a deadline where
no distance remains; a creep and a STOP-NOW go on. -/
def reissued (s : State) (zone : Zone) (setpoint : Nat) (m : Move) : Outfeed :=
  match m.endPoint with
  | none => .moving m
  | some e =>
    if m.purpose = .creep then .moving m
    else if e ≤ s.p2 then .moving { stopNow m m.owner true with deadline := some (s.now + s.workNat .moveTimeout) }
    else movedTo s zone setpoint m.purpose m.owner e

/-- A flag raised, where a condition holds, against every panel of a list of serial numbers (R15). -/
def flagged (f : Flag) (on : Bool) (serials : List Nat) (ps : List Panel) : List Panel :=
  ps.map (fun p => if on = true ∧ p.serial ∈ serials ∧ p.state ≠ .done ∧ f ∉ p.flags then { p with flags := p.flags ++ [f] } else p)

/-- A cut made `d` away from where its panels wanted it, judged (R93, R98, R119): CUT_OFF_POS beyond CUT_TOL, CUT_FAULT beyond REJECT_TOL.
That a distance beyond REJECT_TOL and within a CUT_TOL above it is CUT_FAULT is the model's choice (log entry 50). -/
def judgedCut (s : State) (serials : List Nat) (d : Int) (ps : List Panel) : List Panel :=
  flagged .cutFault (decide (s.work .rejectTol < d.natAbs)) serials
    (flagged .cutOffPos (decide (s.work .cutTol < d.natAbs ∧ d.natAbs ≤ s.work .rejectTol)) serials ps)

/-- The panels whose product piece a stroke at an entry severs (R8): those it serves with a cut after the first. -/
def severedBy (e : Entry) : List Nat := (strokeCuts e).filterMap (fun c => if 2 ≤ c.index then some c.panel.serial else none)

/-- A piece of a panel may be delivered (R8, R16): the panel is a PRODUCT and holds no rejecting flag. -/
def deliverable (ps : List Panel) (serial : Nat) : Prop :=
  ∃ p, ps.find? (fun p => p.serial == serial) = some p ∧ p.kind = .product
    ∧ ∀ f ∈ p.flags, f ≠ .leader ∧ f ≠ .cancelled ∧ f ≠ .unlocked ∧ f ≠ .splice ∧ f ≠ .filmSplice ∧ f ≠ .dwell ∧ f ≠ .cutFault
        ∧ f ≠ .laneLate ∧ f ≠ .short ∧ (f = .scaleFault → p.scaleRejecting = false)

/-! ### The Disturbance List (R82, R83) -/

/-- The unit after a point has come to its list (R82): absorbed by a point held at its position, put at its place in the order, or lost as a seventeenth, which in AUTO
takes FOLLOW to CAPTURE and with it the verdict (R81). -/
def pointAdded (k : PointKind) (pos : Int) (x : RegBlock) : RegBlock :=
  if ∃ p ∈ x.points, p.pos = pos then x
  else if x.points.length < 16 then
    { x with points := x.points.filter (fun p => decide (p.pos < pos)) ++ ⟨k, pos⟩ :: x.points.filter (fun p => decide (pos < p.pos)) }
  else if x.lock = .auto ∧ x.mode = .follow then { x with mode := .capture, register := .outOfRegister, lockCount := 0 }
  else x

/-- The events that queues, in `es` (R87): none but for a point lost in AUTO in FOLLOW, which gives MODE with cause OVERFLOW, and REGISTER with cause MODE_LEFT where the
verdict had been IN_REGISTER. Their order is not said (log entry 37). -/
def pointTold (pos : Int) (x : RegBlock) (es : List Event) : Prop :=
  (∀ p ∈ x.points, p.pos ≠ pos) → 16 ≤ x.points.length → x.lock = .auto → x.mode = .follow →
    .mode .capture .overflow .auto ∈ es ∧ (x.register = .inRegister → .register .outOfRegister .modeLeft ∈ es)

/-- The unit after a resolution of a mark at `a` has gone over its list (R83): the points at or below the mark are gone; with one gone, in AUTO, the verdict and its count
are too, and FOLLOW is CAPTURE. -/
def consumed (a : Int) (x : RegBlock) : RegBlock :=
  let left := x.points.filter (fun p => decide (a < p.pos))
  if (∃ p ∈ x.points, p.pos ≤ a) ∧ x.lock = .auto then
    { x with points := left, register := .outOfRegister, lockCount := 0, mode := if x.mode = .follow then .capture else x.mode }
  else { x with points := left }

/-! ### Feeding and sampling -/

/-- What the line would feed but for the laminator: the least of the setpoint, loop and line allowances (R136). -/
def feedBesideNip (s : State) : Nat :=
  if s.feeding = true ∧ (s.drives.webSeq = .none ∨ s.drives.webSeq = .feedingOut) then
    match s.loop.zone with
    | .high => s.drives.setpoint / 2
    | .full => 0
    | .unknown => 0
    | _ => s.drives.setpoint
  else 0

/-- The nip of a roller READY or OFF is commanded close (R160). -/
def nipCloses (s : State) : Bool :=
  decide (s.straps.laminator = true ∧ (s.lam.nip = .opened ∨ s.lam.nip = .opening) ∧ 0 < feedBesideNip s)

/-- The nip of a roller READY or OFF after an event that leaves the line feeding as it does (R159, R160). -/
def nipAfterClose (s : State) : Nip := if nipCloses s = true then (if s.inputs.nipClosed = true then .closed else .closing) else s.lam.nip

/-- The turns left of a round after one conversion: the turn goes on, or gives way to the next, or to a new round of the active channels with their grants
(R33, R34). -/
def turnsAfter (s : State) : List (Channel × Nat) :=
  match s.sampler.round with
  | (c, n + 2) :: rest => (c, n + 1) :: rest
  | _ :: t :: rest => t :: rest
  | _ => [(.dancer, s.workNat .grantDancer)] ++ (if s.straps.laminator = true then [(.temp, s.workNat .grantTemp)] else [])
      ++ (if s.sensor1.teach.isSome = true then [(.level1, s.workNat .grantLevel)] else [])
      ++ (if s.sensor2.teach.isSome = true then [(.level2, s.workNat .grantLevel)] else [])

/-- The zone of a loop length by the limits of the working copy (R38). -/
def zoneFrom (s : State) (l : Int) : Zone :=
  if l < s.work .loopEmptyBelow then .empty
  else if l < s.work .loopNormalFrom then .low
  else if l < s.work .loopHighFrom then .normal
  else if l < s.work .loopFullFrom then .high
  else .full

/-- The line after a CONTROLLED stop with a cause has begun and, where the station has no sequence past its arrival, has ended (R169, R170). -/
def controlledLine (c : StopCause) (s : State) : LineBlock :=
  { s.line with
    state := if s.station.cycle = .idle ∨ s.station.cycle = .approach ∨ s.station.cycle = .paused then .holding else .stopping
    stop := some ⟨.controlled, c⟩ }

/-- A CONTROLLED stop has begun out of `s` (R116, R142, R170): the infeed stands, the outfeed's approach or free run is given STOP-NOW, an approach is left, and
nothing else of cutting, marks and lamination changes. -/
structure Stopped (s t : State) : Prop where
  infeed : t.drives.infeedRef = 0
  outfeed : t.drives.outfeed = outfeedAfterLeaving s
  setpoint : t.drives.setpoint = s.drives.setpoint
  station : t.station = { s.station with cycle := if s.station.cycle = .approach then .idle else s.station.cycle }
  planner : t.planner =
    { s.planner with queue := firstSet (decide (s.station.cycle = .approach)) .pending s.planner.queue }
  starve : t.watches.starve = none
  lam : LamKept s t
  web : t.panels = s.panels ∧ t.reg = s.reg ∧ t.cursor2 = s.cursor2 ∧ t.cursor1.state = s.cursor1.state
    ∧ t.cursor1.expect = s.cursor1.expect
  rest : t.loop = s.loop ∧ t.roll1 = s.roll1 ∧ t.roll2 = s.roll2 ∧ t.sampler = s.sampler ∧ t.cal = s.cal

end Sys2Proof.Machine
end

