-- ==== Sys2Proof/Certificates/Slice0/Obligations.lean ====
section
/-!
DEFINITION. The statements for the provers, from the rules of spec/, chapter by chapter.
-/
open Sys2Proof Sys2Proof.Machine

/-! ### The step -/

/-- A step takes the command at the front of the queue, on the state with the queue's rest. The model's choice (log entry 6): with no command waiting, a step lets one
millisecond pass and changes nothing else. -/
def Obligations.StepTakesFront : Prop :=
  (∀ (c : Instr) (cs : List Instr) (s : State), s.pending = c :: cs → step s = exec c { s with pending := cs })
  ∧ (∀ s : State, s.pending = [] → step s = .next { s with now := s.now + 1 })

/-! ### Requests: the link -/

/-- R191, checks 1 and 2, for every kind of the catalogue: a payload of another length is refused BAD_REQUEST; with the length right, a request that is not
taken before SYNC is refused NOT_SYNCED. The reply carries its header alone, and nothing else changes.
The model's choice (log entry 7): a request's row is the taking of its frame. -/
def Obligations.RequestsCheckLengthThenSync : Prop :=
  ∀ (s : State) (tag : Byte) (p : List Byte), LinkFree s →
    (∀ r ∈ fixedRows, p.length ≠ r.length →
      exec (r.command tag p) s = .next (answered ⟨r.kind, tag, p⟩ .badRequest [] s))
    ∧ (∀ r ∈ fixedRows, p.length = r.length → r.unsynced = false → s.link.synced = false →
      exec (r.command tag p) s = .next (answered ⟨r.kind, tag, p⟩ .notSynced [] s))
    ∧ (¬ (14 ≤ p.length ∧ p.length = 14 + 4 * natAt 13 1 p) →
      exec (.plan tag p) s = .next (answered ⟨0x10, tag, p⟩ .badRequest [] s))
    ∧ (14 ≤ p.length ∧ p.length = 14 + 4 * natAt 13 1 p → s.link.synced = false →
      exec (.plan tag p) s = .next (answered ⟨0x10, tag, p⟩ .notSynced [] s))

/-- R188, R190, R186: what becomes of a request that cannot be taken at once, of any kind. While a reply is being sent, it only takes a place of the buffer, or is dropped with OVERRUN_SEEN where both
are held. With no reply being sent, the oldest frame of the buffer is taken, and answered with its own tag and reply kind, its place held; any other frame waits behind it. No frame is received in a reset, or
before the receive line has been at mark.
That a row is the taking of its frame where that is the oldest, and one more frame that arrives where it is not, is the model's choice (log entry 7). -/
def Obligations.RequestsWaitTheirTurn : Prop :=
  ∀ (s : State) (r : CatalogueRow) (tag : Byte) (p : List Byte), RequestRow r →
    (∀ a, s.heldBy = [] → s.link.breakArmed = true → s.link.reply = some a → s.link.buffer.length < 2 →
      exec (r.command tag p) s = .next { s with link := { s.link with buffer := s.link.buffer ++ [⟨r.kind, tag, p⟩] } })
    ∧ (∀ a, s.heldBy = [] → s.link.breakArmed = true → s.link.reply = some a → 2 ≤ s.link.buffer.length →
      exec (r.command tag p) s = .next { s with link := { s.link with overrunSeen := true } })
    ∧ (s.heldBy ≠ [] → exec (r.command tag p) s = .next s)
    ∧ (∀ a, s.link.breakArmed = false → s.link.reply = some a → exec (r.command tag p) s = .next s)
    ∧ (s.link.breakArmed = false → s.link.reply = none → s.link.buffer = [] → exec (r.command tag p) s = .next s)
    ∧ (∀ g : Frame, s.heldBy = [] → s.link.breakArmed = true → s.link.reply = none → s.link.buffer = [g] → g ≠ ⟨r.kind, tag, p⟩ →
      exec (r.command tag p) s = .next { s with link := { s.link with buffer := [g, ⟨r.kind, tag, p⟩] } })
    ∧ (∀ gs : List Frame, s.heldBy = [] → s.link.reply = none → s.link.buffer = ⟨r.kind, tag, p⟩ :: gs →
      ∃ t, exec (r.command tag p) s = .next t ∧ t.link.buffer = ⟨r.kind, tag, p⟩ :: gs
        ∧ t.link.reply.map (fun a => (a.kind, a.tag)) = some (if r.kind.toNat < 128 then r.kind + 128 else 255, tag))

/-- R190, R191: a request of a kind outside the catalogue is refused BAD_REQUEST, whatever the link's state; its reply's kind is the request's plus 0x80, and 0xFF for a
kind of 0x80 or above.
That this row is the taking of such a frame is the model's choice (log entry 7). -/
def Obligations.UnknownKindRefused : Prop :=
  ∀ (s : State) (kind tag : Byte) (p : List Byte), LinkFree s → kind ∉ catalogue →
    exec (.unknownRequestKind kind tag p) s = .next (answered ⟨kind, tag, p⟩ .badRequest [] s)
    ∧ (answered ⟨kind, tag, p⟩ .badRequest [] s).link.reply.map (·.kind)
      = some (if kind.toNat < 128 then BitVec.ofNat 8 (kind.toNat + 128) else 255)

/-- R193: SYNC sets the synced flag, reports identity, straps, reset causes, the calibration-defaulted set and the line state, and clears the reset-cause
set.
The design revision is a free value (log entry 3). -/
def Obligations.SyncOpensSession : Prop :=
  ∀ (s : State) (tag : Byte), LinkFree s → Settled s →
    exec (.sync tag []) s = .next (answered ⟨0x01, tag, []⟩ .ok
      ([0x32, 0x0C, Config.designRevision] ++ byteField s.straps.blades ++ flagField s.straps.laminator
        ++ flagField s.straps.baud ++ [causesByte s.causes] ++ leBytes 8 s.cal.defaulted.toNat ++ s.line.state.code)
      { s with link := { s.link with synced := true }, causes := [] })

/-- R194: STATUS returns its section, each of its fields in the order of its rule, one that may be absent behind its presence byte, and changes nothing, but that section 7 clears the receiver flags it reports; a section above 7 is refused BAD_VALUE. QUERY
(R22, R200) returns the panel's record and CAL-READ (R205) index, working value and stored value, and they change nothing; an id not in use is refused UNKNOWN_ID, an index above 57 BAD_VALUE.
The codes of named values that R198 does not list, and the speed of a STOP-NOW, are the model's (log entries 11 and 41). -/
def Obligations.ReportsChangeNothing : Prop :=
  ∀ (s : State) (tag : Byte), LinkFree s → Settled s →
    (∀ n : Byte, n.toNat < 7 → exec (.status tag [n]) s = .next (answered ⟨0x02, tag, [n]⟩ .ok (statusLayout n.toNat s) s))
    ∧ (∀ n : Byte, 8 ≤ n.toNat → exec (.status tag [n]) s = .next (answered ⟨0x02, tag, [n]⟩ .badValue [] s))
    ∧ exec (.status tag [7]) s = .next (answered ⟨0x02, tag, [7]⟩ .ok (statusLayout 7 s)
        { s with link := { s.link with crcSeen := false, framingSeen := false, overrunSeen := false } })
    ∧ (s.link.synced = true →
      (∀ (a b : Byte) (p : Panel), s.byId? (idAt [a, b]) = some p →
        exec (.query tag [a, b]) s = .next (answered ⟨0x12, tag, [a, b]⟩ .ok (queryLayout p) s))
      ∧ (∀ a b : Byte, s.byId? (idAt [a, b]) = none →
        exec (.query tag [a, b]) s = .next (answered ⟨0x12, tag, [a, b]⟩ .unknownId [] s))
      ∧ (∀ (i : Byte) (e : CalEntry), i.toNat = e.index →
        exec (.calRead tag [i]) s = .next (answered ⟨0x40, tag, [i]⟩ .ok
          ([i] ++ lenField (s.work e) ++ lenField (s.cal.reported.getD e.index 0)) s))
      ∧ (∀ i : Byte, 58 ≤ i.toNat → exec (.calRead tag [i]) s = .next (answered ⟨0x40, tag, [i]⟩ .badValue [] s)))

/-- R196: SET-ATTENTION sets the mask in force from bits 0 to 2 and ATTN with it, and replies the mask; a byte with another bit set is refused BAD_VALUE. -/
def Obligations.SetAttentionSetsMask : Prop :=
  ∀ (s : State) (tag m : Byte), LinkFree s → Settled s → s.link.synced = true →
    (m.toNat < 8 →
      let t : State := { s with link := { s.link with
        mask := ⟨m.getLsbD 0, m.getLsbD 1, m.getLsbD 2⟩
        attn := (s.donePending && m.getLsbD 0) || (!s.link.events.isEmpty && m.getLsbD 1) || (s.faultPresent && m.getLsbD 2) } }
      exec (.setAttention tag [m]) s = .next (answered ⟨0x03, tag, [m]⟩ .ok [m] t))
    ∧ (8 ≤ m.toNat → exec (.setAttention tag [m]) s = .next (answered ⟨0x03, tag, [m]⟩ .badValue [] s))

/-- R197: FETCH-EVENTS returns the lost marker and the oldest events up to its count, removes them and clears EVENTS_LOST, and ATTN follows; a count outside 1 to 16 is refused
BAD_VALUE and removes nothing. -/
def Obligations.FetchEventsTakesOldest : Prop :=
  ∀ (s : State) (tag n : Byte), LinkFree s → Settled s →
    (1 ≤ n.toNat → n.toNat ≤ 16 →
      let es := s.link.events.take n.toNat
      let rest := s.link.events.drop n.toNat
      let t : State := { s with link := { s.link with
        events := rest, eventsLost := false
        attn := (s.donePending && s.link.mask.done) || (!rest.isEmpty && s.link.mask.event) || (s.faultPresent && s.link.mask.fault) } }
      exec (.fetchEvents tag [n]) s = .next (answered ⟨0x04, tag, [n]⟩ .ok
        (flagField s.link.eventsLost ++ byteField es.length ++ es.flatMap eventRecord) t))
    ∧ (n.toNat = 0 ∨ 16 < n.toNat →
      exec (.fetchEvents tag [n]) s = .next (answered ⟨0x04, tag, [n]⟩ .badValue [] s))

/-! ### Requests: the Panel List -/

/-- R17 to R20, R51: a plan that passes every check, with the M1 cursor not IDLE, is appended as a QUEUED panel with its plan fields as given and everything else absent or 0;
LEADER if its kind says so; the last-plan record takes its L_nom and last cut; the reply is OK with one credit fewer. Nothing else changes. R51, R52, R59, R145: accepted while the cursor is IDLE, with no panel QUEUED
before it and no tail to come, it becomes the cursor's expectation in the same request: held in SPLICE_HOLD while a hold limit stands, in WINDOW around the last tail plus G_nom where that is present and seek pending clear (here with P1 not beyond the
window), and in SEEK otherwise; a bar in progress at M1 will not resolve it, and the starvation watch goes. -/
def Obligations.PlanAppendsPanel : Prop :=
  ∀ (s : State) (tag : Byte) (p : List Byte), LinkFree s → Settled s → s.link.synced = true → planFits p = true →
    s.panels.length < 48 → idAt p ≠ 0 → (∀ q ∈ s.panels, q.id ≠ idAt p) → PlanInRange s.straps.blades (planFields p) →
    PlanFollows s.lastPlan (planFields p) →
    (s.cursor1.state ≠ .idle →
      let f := planFields p
      let q : Panel :=
        { serial := s.nextSerial, id := f.id, kind := if f.kind = 2 then .leader else .product, proof := decide (f.proof = 1)
          lNom := f.lNom, gNom := f.gNom, lanes := f.lanes, cuts := f.cuts, flags := if f.kind = 2 then [.leader] else [] }
      exec (.plan tag p) s = .next (answered ⟨0x10, tag, p⟩ .ok []
        { s with nextSerial := s.nextSerial + 1, panels := s.panels ++ [q], lastPlan := some ⟨f.lNom, f.cuts.getLast?.getD 0⟩ }))
    ∧ ((∀ q ∈ s.panels, q.state ≠ .queued) → s.cursor1.state = .idle →
      (∀ r ∈ s.cursor1.lastHead, ∀ q, s.panel? r = some q → q.aTail.isSome = true ∨ q.completion = some .aborted) →
      let f := planFields p
      let q : Panel :=
        { serial := s.nextSerial, id := f.id, kind := if f.kind = 2 then .leader else .product, proof := decide (f.proof = 1)
          lNom := f.lNom, gNom := f.gNom, lanes := f.lanes, cuts := f.cuts, flags := if f.kind = 2 then [.leader] else [] }
      let became (st : M1State) (w : Option Window1) (watch : Option Watch) : Prop :=
        exec (.plan tag p) s = .next (answered ⟨0x10, tag, p⟩ .ok []
          { s with
            nextSerial := s.nextSerial + 1, panels := s.panels ++ [q], lastPlan := some ⟨f.lNom, f.cuts.getLast?.getD 0⟩
            cursor1 := { s.cursor1 with
              state := st, expect := some { panel := ⟨s.nextSerial, f.id⟩, mark := .head, takeUp := s.p1, window := w }, deciding := false }
            sensor1 := { s.sensor1 with bar := outlived s.sensor1.bar }
            watches := { s.watches with m1Window := watch, starve := none } })
      (s.cursor1.holdLimit.isSome = true → became .spliceHold none none)
      ∧ (s.cursor1.holdLimit = none → s.cursor1.seekPending = true ∨ s.cursor1.lastTail = none → became .seek none none)
      ∧ (∀ l, s.cursor1.holdLimit = none → s.cursor1.seekPending = false → s.cursor1.lastTail = some l →
        s.p1 ≤ l + f.gNom + s.work .w1 →
        let up := l + f.gNom + s.work .w1
        became .window (some { expected := l + f.gNom, lower := max (l + f.gNom - s.work .w1) s.p1, upper := up })
          (some { limit := up, beyond := decide (up < s.p1) })))

/-- R17 to R19: the checks of PLAN in their order, the first that fails giving the status and, for BAD_PLAN, the detail; a refused plan changes nothing. -/
def Obligations.PlanRefusedInOrder : Prop :=
  ∀ (s : State) (tag : Byte) (p : List Byte), LinkFree s → s.link.synced = true → planFits p = true →
    let f := planFields p
    let refused (st : Status) (d : List Byte) : Prop := exec (.plan tag p) s = .next (answered ⟨0x10, tag, p⟩ st d s)
    if 48 ≤ s.panels.length then refused .noCredit []
    else if f.id = 0 ∨ (∃ q ∈ s.panels, q.id = f.id) then refused .duplicateId []
    else if (f.kind ≠ 1 ∧ f.kind ≠ 2) ∨ 1 < f.proof then refused .badPlan [1]
    else if f.lNom < 300000 ∨ 50000000 < f.lNom then refused .badPlan [2]
    else if f.gNom < 30000 ∨ 5000000 < f.gNom then refused .badPlan [3]
    else if f.cuts.length < 2 ∨ 9 < f.cuts.length ∨ (∃ x ∈ f.cuts.zip f.cuts.tail, x.2 < x.1 + 10000)
        ∨ (∃ x ∈ f.cuts.head?, x < -200000) ∨ (∃ x ∈ f.cuts.getLast?, f.lNom + 200000 < x) then refused .badPlan [4]
    else if 2 ^ s.straps.blades ≤ f.lanes.toNat then refused .badPlan [5]
    else if ∃ l ∈ s.lastPlan, ∃ x ∈ f.cuts.head?, l.lNom + f.gNom + x < l.lastCut then refused .badPlan [6]
    else True

/-- R21: CANCEL gives an unfinished panel CANCELLED (nothing more if it holds it), and changes nothing else; a DONE panel is refused BAD_STATE, an id not in use
UNKNOWN_ID. -/
def Obligations.CancelFlagsPanel : Prop :=
  ∀ (s : State) (tag a b : Byte), LinkFree s → Settled s → s.link.synced = true →
    (∀ p, s.byId? (idAt [a, b]) = some p → p.state ≠ .done →
      let add (q : Panel) : Panel :=
        if q.serial = p.serial ∧ q.state ≠ .done ∧ .cancelled ∉ q.flags then { q with flags := q.flags ++ [.cancelled] } else q
      exec (.cancel tag [a, b]) s = .next (answered ⟨0x11, tag, [a, b]⟩ .ok [] { s with panels := s.panels.map add }))
    ∧ (∀ p, s.byId? (idAt [a, b]) = some p → p.state = .done →
      exec (.cancel tag [a, b]) s = .next (answered ⟨0x11, tag, [a, b]⟩ .badState [] s))
    ∧ (s.byId? (idAt [a, b]) = none →
      exec (.cancel tag [a, b]) s = .next (answered ⟨0x11, tag, [a, b]⟩ .unknownId [] s))

/-- R24, R201: FETCH-DONE returns a count and the completion records, 24 bytes each, of the oldest DONE panels up to its count and frees exactly those, the others keeping their order; the reply counts the freed slots. A count outside 1
to 8 is refused BAD_VALUE and frees nothing. -/
def Obligations.FetchDoneFreesOldest : Prop :=
  ∀ (s : State) (tag n : Byte), LinkFree s → Settled s →
    (1 ≤ n.toNat → n.toNat ≤ 8 →
      let isDone (p : Panel) : Bool := decide (p.state = .done)
      let got := (s.panels.filter isDone).take n.toNat
      ∃ t, exec (.fetchDone tag [n]) s = .next t
        ∧ t.link.reply.map (fun r => (r.status, r.credits, r.data))
            = some (.ok, 48 - (s.panels.length - got.length), byteField got.length ++ (got.map completionLayout).flatten)
        ∧ (∀ p ∈ got, (completionLayout p).length = 24)
        ∧ t.panels.Sublist s.panels
        ∧ t.panels.filter isDone = (s.panels.filter isDone).drop n.toNat
        ∧ t.panels.filter (fun p => !isDone p) = s.panels.filter (fun p => !isDone p)
        ∧ t.credits = 48 - (s.panels.length - got.length)
        ∧ t.planner = s.planner ∧ t.station = s.station ∧ t.drives = s.drives ∧ t.reg = s.reg ∧ t.cursor1 = s.cursor1
        ∧ t.line = s.line ∧ t.lam = s.lam ∧ t.lastPlan = s.lastPlan ∧ t.link.events = s.link.events)
    ∧ (n.toNat = 0 ∨ 8 < n.toNat →
      exec (.fetchDone tag [n]) s = .next (answered ⟨0x05, tag, [n]⟩ .badValue [] s))

/-! ### Requests: the line -/

/-- The table of R168: a line request in a state that does not allow it is refused BAD_STATE and changes nothing. RESUME is refused while the first-fault record's cause, or in E_STOPPED the E-stop's, is still present, cause by cause as the table of R179 has it
(a nip without the laminator strap being CLOSED, R151). -/
def Obligations.LineRequestsRefused : Prop :=
  ∀ (s : State) (tag : Byte), LinkFree s → s.link.synced = true →
    let lost := s.station.knife = .unhomed ∨ s.station.knife = .homing
    let present (c : FaultCause) : Bool := match c with
      | .encoder1 => s.roll1.fault
      | .encoder2 => s.roll2.fault
      | .dancer => s.loop.faulted
      | .tempSensor => s.lam.sensorFaulted
      | .overtemp => s.lam.lockout
      | .knifeTimeout => decide lost
      | .gateTimeout => !s.station.gate.confirmed
      | .bladeTimeout => s.station.blades.any (fun b => !b.confirmed)
      | .nipTimeout => s.straps.laminator && decide (s.lam.nip = .closing ∨ s.lam.nip = .opening)
      | .inDrive => s.inputs.inDrive
      | .outDrive => s.inputs.outDrive
      | .moveTimeout => s.drives.timeoutFlag
      | .estop => s.inputs.eStop || decide lost
    (¬ (s.line.state = .unthreaded ∨ s.line.state = .threaded ∨ s.line.state = .endOfWeb) ∨ (∃ p ∈ s.panels, p.state ≠ .done)
        ∨ ¬ (s.station.knife = .homeL ∨ s.station.knife = .homeR) ∨ s.sampler.dancer = none ∨ s.loop.faulted = true →
      exec (.thread tag []) s = .next (answered ⟨0x20, tag, []⟩ .badState [] s))
    ∧ (¬ (s.line.state = .threaded ∨ s.line.state = .holding) →
      exec (.run tag []) s = .next (answered ⟨0x21, tag, []⟩ .badState [] s))
    ∧ (s.line.state ≠ .running → exec (.hold tag []) s = .next (answered ⟨0x22, tag, []⟩ .badState [] s))
    ∧ (¬ (s.line.state = .threaded ∨ s.line.state = .holding ∨ s.line.state = .faulted ∨ s.line.state = .endOfWeb) →
      exec (.clear tag []) s = .next (answered ⟨0x23, tag, []⟩ .badState [] s))
    ∧ (¬ (s.line.state = .faulted ∨ s.line.state = .eStopped)
        ∨ (s.line.state = .faulted ∧ (∃ f ∈ s.line.firstFault, present f.cause = true))
        ∨ (s.line.state = .eStopped ∧ present .estop = true) →
      exec (.resume tag []) s = .next (answered ⟨0x24, tag, []⟩ .badState [] s))

/-- R174 with the rules its table names (R29, R31, R42, R49, R56, R61, R64, R76, R85, R109, R149, R161, R19): THREAD begins a new web. -/
def Obligations.ThreadBeginsWeb : Prop :=
  ∀ (s : State) (tag : Byte), LinkFree s → Settled s → s.link.synced = true →
    (s.line.state = .unthreaded ∨ s.line.state = .threaded ∨ s.line.state = .endOfWeb) → (∀ p ∈ s.panels, p.state = .done) →
    (s.station.knife = .homeL ∨ s.station.knife = .homeR) → s.sampler.dancer.isSome = true → s.loop.faulted = false →
    ∃ t, exec (.thread tag []) s = .next t
      ∧ t.line = { s.line with state := .threaded, stop := none }
      ∧ t.roll1 = { count := 0, scale := s.work .e1Scale, pos := 0, high := 0, armed := true, fault := false }
      ∧ t.roll2 = { count := 0, scale := s.work .e2Scale, pos := 0, high := 0, armed := true, fault := false }
      ∧ t.watches = {}
      ∧ t.loop = { s.loop with
          atThread := s.loop.length, k := s.loop.length.map (fun l => s.work .dFixed + l), watching := true }
      ∧ t.sensor1.bar = (if s.inputs.dark1 then .ignoring else .none) ∧ t.sensor1.teach = none
      ∧ t.sensor2.bar = (if s.inputs.dark2 then .ignoring else .none) ∧ t.sensor2.teach = none
      ∧ t.webEnd = false ∧ t.lastPlan = none
      ∧ t.cursor1 = { state := .idle, expect := none, seekPending := true, lastTail := none, holdLimit := none, lastHead := none }
      ∧ t.reg = { s.reg with
          anchor := none, s := clampInt (-(s.work .sMax)) (s.work .sMax) (s.work .sInit), mode := .seek
          register := if s.reg.lock = .auto then .outOfRegister else s.reg.register
          lockCount := 0, coastCount := 0, points := [] }
      ∧ t.cursor2 = { state := .idle, expect := none, lastHead := none }
      ∧ t.planner = { s.planner with limit := none }
      ∧ t.drives = { s.drives with webSeq := .none, aEnd := none, tailOutPos := none, starveBase := some 0 }
      ∧ { t.lam with idle := s.lam.idle, reclose := s.lam.reclose } = s.lam ∧ t.lam.reclose = false
      ∧ t.panels = s.panels ∧ t.station = s.station ∧ t.cal = s.cal ∧ t.sampler = s.sampler ∧ t.inputs = s.inputs
      ∧ t.link.reply.map (fun r => (r.status, r.data)) = some (.ok, LineState.threaded.code)

/-- R175, R142, R158, R160: RUN out of rest. The line is RUNNING, the free run is issued (or held for the loop), a roller in STANDBY is WARMING again, and where the close demand of R160 then stands (the roller READY or OFF, the nip OPEN or OPENING,
and setpoint, loop and line allowance all above 0) the nip is commanded close: CLOSING under its timer, or CLOSED at once with NIP_CLOSED active.
That the free run is issued within the request, before the reply, is the model's reading (log entries 10 and 21). -/
def Obligations.RunStartsLine : Prop :=
  ∀ (s : State) (tag : Byte), LinkFree s → Settled s → s.link.synced = true →
    (s.line.state = .threaded ∨ s.line.state = .holding) → s.station.cycle = .idle → s.planner.target = none →
    s.drives.webSeq = .none → s.drives.outfeed = .stopped → (s.inputs.web1 = true ∨ s.webEnd = true) →
    (s.straps.laminator = true → s.inputs.filmOut = false) → s.inputs.stackFull = false → 0 < s.work .dMk →
    let closes : Bool := decide (s.straps.laminator = true ∧ (s.lam.heat = .ready ∨ s.lam.heat = .off)
      ∧ (s.lam.nip = .opened ∨ s.lam.nip = .opening) ∧ 0 < s.drives.setpoint
      ∧ (s.loop.zone = .empty ∨ s.loop.zone = .low ∨ s.loop.zone = .normal ∨ (s.loop.zone = .high ∧ 2 ≤ s.drives.setpoint)))
    ∃ t, exec (.run tag []) s = .next t
      ∧ t.lam.nip = (if closes then (if s.inputs.nipClosed then .closed else .closing) else s.lam.nip)
      ∧ t.lam.nipTimer = (if closes then (if s.inputs.nipClosed then none else some ⟨s.now, s.workNat .nipTimeout⟩) else s.lam.nipTimer)
      ∧ t.lam.commandClose = (closes || s.lam.commandClose)
      ∧ t.line = { s.line with state := .running, stop := none }
      ∧ t.drives.outfeed = freeRunFrom s
      ∧ t.lam.heat = (if s.straps.laminator = true ∧ s.lam.heat = .standby then .warming else s.lam.heat)
      ∧ t.drives.infeedRef = t.infeedReference
      ∧ (s.straps.laminator = false → t.drives.infeedRef = min s.drives.setpoint s.loopAllowance)
      ∧ t.panels = s.panels ∧ t.planner = s.planner ∧ t.station = s.station ∧ t.cal = s.cal ∧ t.cursor1 = s.cursor1
      ∧ t.cursor2 = s.cursor2 ∧ t.loop = s.loop ∧ t.roll1 = s.roll1 ∧ t.roll2 = s.roll2
      ∧ t.link.reply.map (fun r => (r.status, r.data)) = some (.ok, LineState.running.code)

/-- R176, R169, R170, R116, R142: HOLD begins a CONTROLLED stop, which ends at once in HOLDING unless the station is past an arrival. The approach and the free run are given STOP-NOW, the infeed stands, and panels,
queue order, nip and heat are not touched.
That the stop ends before the reply is the model's reading (log entry 10). -/
def Obligations.HoldStopsLine : Prop :=
  ∀ (s : State) (tag : Byte), LinkFree s → Settled s → s.link.synced = true → s.line.state = .running →
    ∃ t, exec (.hold tag []) s = .next t
      ∧ t.line = controlledLine .hold s ∧ Stopped s t ∧ t.cursor1 = s.cursor1 ∧ t.lastPlan = s.lastPlan
      ∧ t.link.reply.map (fun r => (r.status, r.data)) = some (.ok, t.line.state.code)

/-- R177 with the rules its table names (R13, R19, R56, R86, R109, R120, R161): CLEAR writes off everything in flight. -/
def Obligations.ClearWritesOff : Prop :=
  ∀ (s : State) (tag : Byte), LinkFree s → Settled s → s.link.synced = true →
    (s.line.state = .threaded ∨ s.line.state = .holding ∨ s.line.state = .faulted ∨ s.line.state = .endOfWeb) →
    ∃ t, exec (.clear tag []) s = .next t
      ∧ t.panels = s.panels.map (fun p => if p.state = .done then p else { p with state := .done, completion := some .aborted })
      ∧ t.lastPlan = none
      ∧ t.planner = { s.planner with queue := [], target := none }
      ∧ t.station = { s.station with
          cycle := if s.station.cycle = .stroke then .stroke else .idle, corrections := 0, lastErr := none, recut := false }
      ∧ t.reg = { s.reg with
          anchor := none, mode := .seek, register := if s.reg.lock = .auto then .outOfRegister else s.reg.register
          lockCount := 0, coastCount := 0, points := [] }
      ∧ t.cursor2.state = (if s.cursor2.state = .halted then .halted else .idle)
      ∧ t.cursor1.state = (if s.cursor1.state = .halted then .halted else .idle)
      ∧ t.cursor1.seekPending = true ∧ t.cursor1.lastTail = none ∧ t.cursor1.holdLimit = s.cursor1.holdLimit
      ∧ t.roll1 = { s.roll1 with fault := false } ∧ t.roll2 = { s.roll2 with fault := false }
      ∧ t.lam.nip = nipAfterOpen s ∧ (s.straps.laminator = true → t.lam.reclose = true)
      ∧ t.lam.heat = s.lam.heat ∧ t.lam.setpoint = s.lam.setpoint
      ∧ t.line = (if s.line.state = .holding then { s.line with state := .threaded, stop := none }
          else if s.line.state = .faulted ∧ s.line.resume = some .holding then { s.line with resume := some .threaded }
          else s.line)
      ∧ t.loop = s.loop ∧ t.drives.setpoint = s.drives.setpoint ∧ t.drives.webSeq = s.drives.webSeq
      ∧ t.drives.outfeed = s.drives.outfeed ∧ t.cal = s.cal ∧ t.sampler = s.sampler
      ∧ t.sensor1.threshold = s.sensor1.threshold ∧ t.sensor2.threshold = s.sensor2.threshold
      ∧ t.link.reply.map (fun r => (r.status, r.data)) = some (.ok, t.line.state.code)

/-- R182: RESUME with the cause gone. A line FAULTED, or E_STOPPED by ESTOP, enters THREADED or HOLDING where that is its resume state, its first-fault record emptied, and UNTHREADED likewise, with both cursors HALTED (R56, R86); a line E_STOPPED over a fault goes back to
FAULTED with its records kept. Nothing runs. R173, R13, R86: where the resume state is END_OF_WEB, the WEB_END stop that arrived meanwhile completes: every unfinished panel is aborted, and the nip is commanded open.
That the stop record stays absent, and the queue empties, at that entry of END_OF_WEB is the model's reading (log entry 14). -/
def Obligations.ResumeReturns : Prop :=
  ∀ (s : State) (tag : Byte) (r : LineState) (f : FirstFault), LinkFree s → Settled s → s.link.synced = true →
    s.line.resume = some r → s.line.firstFault = some f →
    (r = .threaded ∨ r = .holding →
      (s.line.state = .faulted ∧ s.present f.cause = false)
      ∨ (s.line.state = .eStopped ∧ s.present .estop = false ∧ f.cause = .estop) →
      ∃ t, exec (.resume tag []) s = .next t
        ∧ t.line = { s.line with state := r, firstFault := none, resume := none }
        ∧ t.panels = s.panels ∧ t.planner = s.planner ∧ t.station = s.station ∧ t.reg = s.reg ∧ t.drives = s.drives
        ∧ t.cursor1 = s.cursor1 ∧ t.cursor2 = s.cursor2 ∧ { t.lam with idle := s.lam.idle } = s.lam
        ∧ t.link.reply.map (fun x => (x.status, x.data)) = some (.ok, r.code))
    ∧ (r = .threaded ∨ r = .holding → s.line.state = .eStopped → s.present .estop = false → f.cause ≠ .estop →
      ∃ t, exec (.resume tag []) s = .next t
        ∧ t.line = { s.line with state := .faulted }
        ∧ t.panels = s.panels ∧ t.planner = s.planner ∧ t.station = s.station ∧ t.reg = s.reg ∧ t.drives = s.drives
        ∧ t.lam = s.lam)
    ∧ (r = .unthreaded →
      (s.line.state = .faulted ∧ s.present f.cause = false)
      ∨ (s.line.state = .eStopped ∧ s.present .estop = false ∧ f.cause = .estop) →
      ∃ t, exec (.resume tag []) s = .next t
        ∧ t.line = { s.line with state := .unthreaded, firstFault := none, resume := none }
        ∧ t.cursor1 = { s.cursor1 with state := .halted, expect := none, deciding := false }
        ∧ t.cursor2 = { s.cursor2 with state := .halted, expect := none, deciding := false }
        ∧ t.watches.m1Window = none ∧ t.watches.m2Window = none
        ∧ t.panels = s.panels ∧ t.planner = s.planner ∧ t.station = s.station ∧ t.reg = s.reg ∧ t.drives = s.drives
        ∧ { t.lam with idle := s.lam.idle } = s.lam
        ∧ t.link.reply.map (fun x => (x.status, x.data)) = some (.ok, r.code))
    ∧ (r = .unthreaded ∨ r = .endOfWeb → s.line.state = .eStopped → s.present .estop = false → f.cause ≠ .estop →
      ∃ t, exec (.resume tag []) s = .next t
        ∧ t.line = { s.line with state := .faulted }
        ∧ t.panels = s.panels ∧ t.planner = s.planner ∧ t.station = s.station ∧ t.reg = s.reg ∧ t.drives = s.drives
        ∧ t.lam = s.lam)
    ∧ (r = .endOfWeb →
      (s.line.state = .faulted ∧ s.present f.cause = false)
      ∨ (s.line.state = .eStopped ∧ s.present .estop = false ∧ f.cause = .estop) →
      ∃ t, exec (.resume tag []) s = .next t
        ∧ t.line = { s.line with state := .endOfWeb, firstFault := none, resume := none }
        ∧ t.panels = s.panels.map (fun p => if p.state = .done then p else { p with state := .done, completion := some .aborted })
        ∧ t.planner.queue = [] ∧ t.planner.target = none ∧ t.lam.nip = nipAfterOpen s ∧ t.drives.infeedRef = 0
        ∧ t.drives.webSeq = s.drives.webSeq ∧ t.cal = s.cal)

/-- R131: HOME-KNIFE, taken while the line neither runs nor stops, the E-stop input is inactive and the outfeed does not move, drives an UNHOMED knife towards the left home under its timer, and for a knife at a home
queues KNIFE_HOMED; refused BAD_STATE otherwise, and BUSY while the knife homes or traverses. -/
def Obligations.HomeKnifeHomes : Prop :=
  ∀ (s : State) (tag : Byte), LinkFree s → Settled s → s.link.synced = true →
    let free := s.line.state ≠ .running ∧ s.line.state ≠ .stopping ∧ s.inputs.eStop = false ∧ s.moving = false
    (¬ free → exec (.homeKnife tag []) s = .next (answered ⟨0x25, tag, []⟩ .badState [] s))
    ∧ (free → (s.station.knife = .homing ∨ s.station.knife = .traversingLR ∨ s.station.knife = .traversingRL) →
      exec (.homeKnife tag []) s = .next (answered ⟨0x25, tag, []⟩ .busy [] s))
    ∧ (free → s.station.knife = .unhomed →
      exec (.homeKnife tag []) s = .next (answered ⟨0x25, tag, []⟩ .ok KnifeState.homing.code
        { s with station := { s.station with knife := .homing, knifeTimer := some ⟨s.now, s.workNat .knifeTimeout⟩ } }))
    ∧ (free → ∀ h, (h = .left ∧ s.station.knife = .homeL) ∨ (h = .right ∧ s.station.knife = .homeR) →
      exec (.homeKnife tag []) s = .next (answered ⟨0x25, tag, []⟩ .ok s.station.knife.code
        (attnUpdate (queueEvent (.knifeHomed h) s))))

/-! ### Requests: settings -/

/-- R62: TEACH starts a teach of the named sensor from its own roll's position, with the span watch and a timer of 60 s; refused BUSY while that sensor teaches, BAD_VALUE for a sensor other than 1 or 2. -/
def Obligations.TeachBegins : Prop :=
  ∀ (s : State) (tag : Byte), LinkFree s → Settled s → s.link.synced = true →
    let teach (p : Int) : Option Teach := some { start := p, timer := ⟨s.now, 60000⟩ }
    let watch (p : Int) : Option Watch :=
      some { limit := p + s.work .teachSpan, beyond := decide (p + s.work .teachSpan ≤ p) }
    let t1 : State := { s with
      sensor1 := { s.sensor1 with teach := teach s.p1 }, watches := { s.watches with teach1 := watch s.p1 } }
    let t2 : State := { s with
      sensor2 := { s.sensor2 with teach := teach s.p2 }, watches := { s.watches with teach2 := watch s.p2 } }
    (s.sensor1.teach = none → exec (.teach tag [1]) s = .next (answered ⟨0x26, tag, [1]⟩ .ok [] t1))
    ∧ (s.sensor2.teach = none → exec (.teach tag [2]) s = .next (answered ⟨0x26, tag, [2]⟩ .ok [] t2))
    ∧ (s.sensor1.teach.isSome = true → exec (.teach tag [1]) s = .next (answered ⟨0x26, tag, [1]⟩ .busy [] s))
    ∧ (s.sensor2.teach.isSome = true → exec (.teach tag [2]) s = .next (answered ⟨0x26, tag, [2]⟩ .busy [] s))
    ∧ (∀ n : Byte, n ≠ 1 → n ≠ 2 → exec (.teach tag [n]) s = .next (answered ⟨0x26, tag, [n]⟩ .badValue [] s))

/-- R134, R135, R136: SET-SPEED sets the setpoint, clamped to 5 to 400 units of 0.1 m/min; the infeed reference follows in the same request; a change of more than a quarter of the old setpoint adds a SPEED_STEP point at P1 less D_NIP
to the Disturbance List, as R82 has it (R81, R87: one lost as a seventeenth costs, in AUTO, FOLLOW and the verdict, each with its event). R140, R143: an approach or free run that is MOVING, FORWARD or REVERSE, is reissued to its end point at the new speed under a new deadline, its owner kept, or given STOP-NOW where no distance remains; a creep, a STOP-NOW and an outfeed HELD or
at rest are left as they are. That this is done also where the setpoint stays the same is the model's reading (log entry 22). -/
def Obligations.SetSpeedSetsSetpoint : Prop :=
  ∀ (s : State) (tag a b : Byte), LinkFree s → Settled s → s.link.synced = true → 5 ≤ s.drives.setpoint →
    PointsOrdered s →
    let v := a.toNat + 256 * b.toNat
    let v' := if v < 5 then 5 else if 400 < v then 400 else v
    let step := s.drives.setpoint < 4 * ((v' : Int) - s.drives.setpoint).natAbs
    ∃ t, exec (.setSpeed tag [a, b]) s = .next t
      ∧ t.drives = { s.drives with
          setpoint := v', infeedRef := t.infeedReference
          outfeed := match s.drives.outfeed with
            | .moving m => reissued s s.loop.zone v' m
            | o => o }
      ∧ t.reg = (if step then pointAdded .speedStep (s.p1 - s.work .dNip) s.reg else s.reg)
      ∧ (step → s.link.events.length ≤ 62 → pointTold (s.p1 - s.work .dNip) s.reg t.link.events)
      ∧ t.panels = s.panels ∧ t.planner = s.planner ∧ t.station = s.station ∧ t.line = s.line ∧ t.loop = s.loop ∧ t.cal = s.cal
      ∧ t.lam.nip = s.lam.nip ∧ t.lam.heat = s.lam.heat ∧ t.cursor1 = s.cursor1 ∧ t.cursor2 = s.cursor2
      ∧ t.link.reply.map (fun r => (r.status, r.data))
          = some (if v' = v then .ok else .okClamped, leBytes 2 v')

/-- R151, R153: SET-HEAT takes 0 as OFF and clamps any other value to 40 to 140 °C. OFF switches the heater off and ends the timers; a new value takes OFF, WARMING and READY to WARMING, and leaves STANDBY; the same
value changes nothing. R155, R158, R136, R160: a falling target disarms the relative overtemperature test; on a line HOLDING or THREADED the idle timer starts from OFF and is kept otherwise; a roller not READY stops the infeed, and one now OFF lets the line close its nip and feed. R151: without the laminator any value but 0 is refused UNFITTED, and 0 is
answered OK and changes nothing. -/
def Obligations.SetHeatSetsTarget : Prop :=
  ∀ (s : State) (tag a b : Byte), LinkFree s → Settled s → s.link.synced = true →
    let v := a.toNat + 256 * b.toNat
    let v' := if v = 0 then 0 else if v < 400 then 400 else if 1400 < v then 1400 else v
    (s.straps.laminator = false → v ≠ 0 →
      exec (.setHeat tag [a, b]) s = .next (answered ⟨0x31, tag, [a, b]⟩ .unfitted [] s))
    ∧ (s.straps.laminator = false → v = 0 →
      exec (.setHeat tag [a, b]) s = .next (answered ⟨0x31, tag, [a, b]⟩ .ok (leBytes 2 s.lam.setpoint) s))
    ∧ (s.straps.laminator = true → v' = s.lam.setpoint →
      exec (.setHeat tag [a, b]) s = .next (answered ⟨0x31, tag, [a, b]⟩ (if v' = v then .ok else .okClamped) (leBytes 2 v') s))
    ∧ (s.straps.laminator = true → v' ≠ s.lam.setpoint →
      ∃ t, exec (.setHeat tag [a, b]) s = .next t
        ∧ t.lam.setpoint = v'
        ∧ (v = 0 → t.lam.heat = .off ∧ t.lam.target = none ∧ t.lam.heater = false ∧ t.lam.settle = none ∧ t.lam.idle = none
            ∧ t.lam.armed = false ∧ t.lam.nip = nipAfterClose s
            ∧ t.drives.infeedRef = (if t.lam.nip = .closed then feedBesideNip s else 0))
        ∧ (v ≠ 0 → s.lam.heat ≠ .standby → t.lam.heat = .warming ∧ t.lam.target = some (v' : Int) ∧ t.lam.settle = none
            ∧ t.lam.idle = (if s.line.state = .holding ∨ s.line.state = .threaded then
                if s.lam.heat = .off then some ⟨s.now, 1000 * s.workNat .tIdle⟩ else s.lam.idle else none))
        ∧ (v ≠ 0 → s.lam.heat = .standby →
            t.lam.heat = .standby ∧ t.lam.target = some (max 0 ((v' : Int) - s.work .standbyDrop)) ∧ t.lam.idle = none)
        ∧ (v ≠ 0 → t.lam.armed = (s.lam.armed && decide (∀ g ∈ s.lam.target, ∀ g' ∈ t.lam.target, g ≤ g'))
            ∧ t.lam.nip = s.lam.nip ∧ t.drives.infeedRef = 0)
        ∧ t.panels = s.panels ∧ t.planner = s.planner ∧ t.station = s.station ∧ t.line = s.line ∧ t.cal = s.cal
        ∧ t.loop = s.loop ∧ t.cursor1 = s.cursor1 ∧ t.cursor2 = s.cursor2 ∧ t.drives.setpoint = s.drives.setpoint
        ∧ t.link.reply.map (fun r => (r.status, r.data))
            = some (if v' = v then .ok else .okClamped, leBytes 2 v'))

/-- R84, R79: SET-REGISTER. MANUAL takes the register state to NONE and the mode, out of SEEK, to the choice; in SEEK the choice is recorded only. AUTO from MANUAL takes the register state to OUT_OF_REGISTER and keeps the mode; AUTO in AUTO changes
nothing. Lock_count is 0 after each change. A lock mode other than 1 or 2 is refused BAD_VALUE.
The model's choice (log entry 16): the payload byte of the manual choice is 2 for CAPTURE and 3 for FOLLOW. -/
def Obligations.SetRegisterSetsLock : Prop :=
  ∀ (s : State) (tag b : Byte), LinkFree s → Settled s → s.link.synced = true →
    (∀ c : Choice, b = (match c with | .capture => 2 | .follow => 3) →
      ∃ t, exec (.setRegister tag [2, b]) s = .next t
        ∧ t.reg = { s.reg with
            lock := .manual, choice := c, register := .none, lockCount := 0
            mode := if s.reg.mode = .seek then .seek else (match c with | .capture => .capture | .follow => .follow) }
        ∧ t.panels = s.panels ∧ t.planner = s.planner ∧ t.drives = s.drives ∧ t.station = s.station ∧ t.line = s.line
        ∧ t.cursor2 = s.cursor2 ∧ t.lam = s.lam)
    ∧ (s.reg.lock = .manual →
      ∃ t, exec (.setRegister tag [1, b]) s = .next t
        ∧ t.reg = { s.reg with lock := .auto, register := .outOfRegister, lockCount := 0 }
        ∧ t.panels = s.panels ∧ t.planner = s.planner ∧ t.drives = s.drives ∧ t.station = s.station ∧ t.line = s.line
        ∧ t.cursor2 = s.cursor2 ∧ t.lam = s.lam)
    ∧ (s.reg.lock = .auto →
      exec (.setRegister tag [1, b]) s = .next (answered ⟨0x32, tag, [1, b]⟩ .ok
        (LockMode.auto.code ++ s.reg.mode.code ++ s.reg.register.code) s))
    ∧ (∀ a : Byte, a ≠ 1 → a ≠ 2 →
      exec (.setRegister tag [a, b]) s = .next (answered ⟨0x32, tag, [a, b]⟩ .badValue [] s))

/-- R206, R207: CAL-WRITE's checks in order, and its effect, on a working copy of 58 entries (R203, which CalibrationKept keeps): the working value at once, the write to the store in flight. R76: a new S_MAX clamps the stretch, which then queues STRETCH_LIMIT. R45: a new threshold becomes the threshold in use,
unless a bar is in progress at that sensor. R207: the end of the write
leaves the value in the store with its check good, and queues CAL_WRITTEN; with no write in flight nothing happens.
That CAL_WRITE_COMPLETE alone ends the write is the model's choice (log entry 32). -/
def Obligations.CalWriteChecksAndWrites : Prop :=
  (∀ (s : State) (tag i a b c d : Byte), LinkFree s → Settled s → s.link.synced = true → s.cal.working.length = 58 →
    let p : List Byte := [i, a, b, c, d]
    let v := leInt [a, b, c, d]
    let refused (st : Status) : Prop := exec (.calWrite tag p) s = .next (answered ⟨0x41, tag, p⟩ st [] s)
    (58 ≤ i.toNat → refused .badValue)
    ∧ (∀ e : CalEntry, e.index = i.toNat →
      if s.line.state = .running ∨ s.line.state = .stopping then refused .badState
      else if s.cal.write.isSome then refused .busy
      else if v < e.row.lo ∨ e.row.hi < v then refused .badValue
      else if (6 ≤ e.index ∧ e.index ≤ 11) ∧ loopOrders (s.cal.working.set e.index v) = false then refused .badValue
      else ∃ t, exec (.calWrite tag p) s = .next t
        ∧ t.cal = { s.cal with working := s.cal.working.set e.index v, write := some (e.index, v) }
        ∧ t.roll1 = s.roll1 ∧ t.roll2 = s.roll2 ∧ t.loop = s.loop ∧ t.sampler = s.sampler
        ∧ t.reg = { s.reg with s := if e = .sMax then clampInt (-v) v s.reg.s else s.reg.s }
        ∧ (e = .sMax → clampInt (-v) v s.reg.s ≠ s.reg.s → s.link.events.length < 64 →
            .stretchLimit none none s.reg.s (clampInt (-v) v s.reg.s) ∈ t.link.events)
        ∧ t.sensor1 = { s.sensor1 with
            threshold := if e = .threshM1 ∧ s.sensor1.bar.inProgress = false then v else s.sensor1.threshold }
        ∧ t.sensor2 = { s.sensor2 with
            threshold := if e = .threshM2 ∧ s.sensor2.bar.inProgress = false then v else s.sensor2.threshold }
        ∧ t.link.reply.map (fun r => (r.status, r.data)) = some (.ok, [])
        ∧ t.panels.map Panel.plan = s.panels.map Panel.plan))
  ∧ (∀ s : State, Settled s →
    (∀ (i : Nat) (v : Int), s.cal.write = some (i, v) →
      exec .calWriteComplete s = .next (attnUpdate (queueEvent (.calWritten i v) { s with cal := { s.cal with
        store := s.cal.store.set i ⟨v, true⟩, reported := s.cal.reported.set i v, write := none } })))
    ∧ (s.cal.write = none → exec .calWriteComplete s = .next s))

/-! ### The link's own events -/

/-- R186, R199, R188: the bytes of an intact frame, taken in HUNT by a receiver that takes bytes, put the request in the buffer, or drop it with OVERRUN_SEEN where two frames hold places. -/
def Obligations.IntactFrameReceived : Prop :=
  ∀ (s : State) (kind tag : Byte) (p : List Byte), s.heldBy = [] → s.link.breakArmed = true → s.link.rx = .hunt → p.length ≤ 248 →
    (s.link.buffer.length < 2 →
      exec (.frameReceived ((frameBytes kind tag p).map (fun b => ⟨b, true⟩))) s
        = .next { s with link := { s.link with buffer := s.link.buffer ++ [⟨kind, tag, p⟩] } })
    ∧ (2 ≤ s.link.buffer.length →
      exec (.frameReceived ((frameBytes kind tag p).map (fun b => ⟨b, true⟩))) s
        = .next { s with link := { s.link with overrunSeen := true } })

/-- R186, R187: what one byte does in each state of the receiver; and that none is taken in a reset, or after one before the line has been at mark. -/
def Obligations.ReceiverTakesByte : Prop :=
  ∀ (s : State) (b : Byte),
    let after (rx : Rx) : State := { s with link := { s.link with rx := rx } }
    let dropped : State := { s with link := { s.link with rx := .hunt, framingSeen := true } }
    (s.heldBy ≠ [] ∨ s.link.breakArmed = false → exec (.frameReceived [⟨b, true⟩]) s = .next s)
    ∧ (s.heldBy = [] → s.link.breakArmed = true →
      exec (.frameReceived [⟨b, false⟩]) s = .next dropped
      ∧ (s.link.rx = .hunt → exec (.frameReceived [⟨b, true⟩]) s = .next (if b = 0x5A then after .length else s))
      ∧ (s.link.rx = .length → exec (.frameReceived [⟨b, true⟩]) s
          = .next (if 2 ≤ b.toNat ∧ b.toNat ≤ 250 then after (.body b.toNat []) else dropped))
      ∧ (∀ n got, s.link.rx = .body n got → exec (.frameReceived [⟨b, true⟩]) s
          = .next (after (if got.length + 1 < n then .body n (got ++ [b]) else .check n (got ++ [b]) [])))
      ∧ (∀ n got, s.link.rx = .check n got [] → exec (.frameReceived [⟨b, true⟩]) s = .next (after (.check n got [b])))
      ∧ (∀ n got c, s.link.rx = .check n got [c] → (crc16 (BitVec.ofNat 8 n :: got)).toNat ≠ c.toNat + 256 * b.toNat →
          exec (.frameReceived [⟨b, true⟩]) s = .next { s with link := { s.link with rx := .hunt, crcSeen := true } }))

/-- R187, R188, R189: the gap within a frame discards it; a reply sent frees its frame's place; the line seen at mark arms the break detector.
That each comes by its own command is the model's choice (log entry 32). -/
def Obligations.LinkLineEvents : Prop :=
  ∀ s : State,
    (s.heldBy = [] → s.link.rx ≠ .hunt →
      exec .frameGap s = .next { s with link := { s.link with rx := .hunt, framingSeen := true } })
    ∧ (s.link.rx = .hunt → exec .frameGap s = .next s)
    ∧ (∀ r, s.link.reply = some r →
      exec .replySent s = .next { s with link := { s.link with reply := none, buffer := s.link.buffer.tail } })
    ∧ (s.heldBy = [] → exec .receiveLineMark s = .next { s with link := { s.link with breakArmed := true } })

/-! ### Resets -/

/-- R209, R189, R208, R207: the four ways a reset is taken. Each holds the part in reset with its blocks at their reset values and adds its kind to the reset-cause set; a write in flight is cut short, its entry's check failing from then on; a power-on alone reads the straps, and its set is {POWER_ON}; a link
break counts only with the detector armed, and a low supply adds nothing while a power-on reset is held.
That POWER_ON may come in another reset, and a supply low under a power-on reset holds nothing of its own, is the model's choice (log entry 27). -/
def Obligations.ResetsTakeHold : Prop :=
  ∀ s : State,
    (∀ (n : BitVec 3) (l b : Bool), ∃ t, exec (.powerOn n l b) s = .next t ∧ ResetHeld s t ∧ .powerOn ∈ t.heldBy
      ∧ t.causes = [.powerOn] ∧ t.straps = { blades := if n = 7 then 6 else n.toNat, laminator := l, baud := b })
    ∧ (∃ t, exec .resetPin s = .next t ∧ ResetHeld s t ∧ .resetPin ∈ t.heldBy ∧ t.straps = s.straps
      ∧ (∀ k, k ∈ t.causes ↔ k = .resetPin ∨ k ∈ s.causes))
    ∧ (s.link.breakArmed = true → ∃ t, exec .linkBreak s = .next t ∧ ResetHeld s t ∧ .linkBreak ∈ t.heldBy ∧ t.straps = s.straps
      ∧ (∀ k, k ∈ t.causes ↔ k = .linkBreak ∨ k ∈ s.causes))
    ∧ (s.link.breakArmed = false → exec .linkBreak s = .next s)
    ∧ (.powerOn ∉ s.heldBy → ∃ t, exec .supplyLow s = .next t ∧ ResetHeld s t ∧ .supplyLow ∈ t.heldBy ∧ t.straps = s.straps
      ∧ (∀ k, k ∈ t.causes ↔ k = .supplyLow ∨ k ∈ s.causes))
    ∧ (.powerOn ∈ s.heldBy → exec .supplyLow s = .next s)

/-- R209, R210, R204, R130, R167: a reset kind goes. While another kind holds the part, nothing else happens; with the last one the part starts. The working copy is loaded entry by entry, a good entry with its stored value and any other with its default, the six loop entries all with their defaults where the loaded ones
break an order; the calibration-defaulted set holds exactly the entries that took their default so, and the stored values reported are those loaded before the orders were tested. Enables and reset output follow; every block has the values its chapter gives for after a reset, read from the working copy as loaded (R28, R36, R66, R45, R49, R112, R159): s from S_INIT within S_MAX, the lock mode from DEFAULT_LOCK_MODE, the grants of the first round, the thresholds, each bar by its input, the nip commanded open, the gate
commanded SCRAP and every blade UP, each confirmed by its input; the knife stands where its switches say, UNHOMED with both active; the line is UNTHREADED, or E_STOPPED where the
E-stop input is active.
That of several kinds one goes, POWER_ON first and then the one longest held, and that the command does nothing where none holds, is the model's choice (log entry 27), and so is what the input levels are then (log entry 26). -/
def Obligations.ResetEndStarts : Prop :=
  ∀ (s : State) (k : ResetKind),
    (s.heldBy = [] → exec .resetEnd s = .next s)
    ∧ (k ∈ s.heldBy → k = .powerOn ∨ (.powerOn ∉ s.heldBy ∧ s.heldBy.head? = some k) → (∃ j ∈ s.heldBy, j ≠ k) →
      exec .resetEnd s = .next { s with heldBy := s.heldBy.filter (fun j => decide (j ≠ k)) })
    ∧ (k ∈ s.heldBy → (∀ j ∈ s.heldBy, j = k) → s.cal.store.length = 58 →
      let i := s.inputs
      let loop (e : CalEntry) : Bool := decide (6 ≤ e.index ∧ e.index ≤ 11)
      let broken : Bool := !loopOrders (loadedAll s)
      ∃ t, exec .resetEnd s = .next t
        ∧ t.heldBy = [] ∧ t.driveEnable = true ∧ t.resetOut = false ∧ t.causes = s.causes ∧ t.straps = s.straps
        ∧ t.cal.working.length = 58 ∧ t.cal.store = s.cal.store ∧ t.cal.write = none
        ∧ (∀ (e : CalEntry) (x : StoredEntry), s.cal.store[e.index]? = some x →
            t.work e = (if loop e && broken then e.row.default else loadedValue e x)
            ∧ t.cal.reported[e.index]? = some (loadedValue e x)
            ∧ t.cal.defaulted.getLsbD e.index
                = (decide (¬ (x.checkOk = true ∧ e.row.lo ≤ x.value ∧ x.value ≤ e.row.hi)) || (loop e && broken)))
        ∧ (∀ n, 58 ≤ n → t.cal.defaulted.getLsbD n = false)
        ∧ t.panels = [] ∧ t.drives.infeedRef = 0 ∧ t.drives.setpoint = 5 ∧ t.drives.outfeed = .stopped
        ∧ t.roll1 = { scale := t.work .e1Scale } ∧ t.roll2 = { scale := t.work .e2Scale }
        ∧ t.sampler = { round := [(.dancer, t.workNat .grantDancer)] ++ (if s.straps.laminator = true then [(.temp, t.workNat .grantTemp)] else []) }
        ∧ t.sensor1 = { threshold := t.work .threshM1, bar := if i.dark1 = true then .ignoring else .none }
        ∧ t.sensor2 = { threshold := t.work .threshM2, bar := if i.dark2 = true then .ignoring else .none }
        ∧ t.reg =
            { anchor := none, s := clampInt (-(t.work .sMax)) (t.work .sMax) (t.work .sInit), mode := .seek
              lock := if t.work .defaultLockMode = 2 then .manual else .auto, choice := .capture
              register := if t.work .defaultLockMode = 2 then .none else .outOfRegister, lockCount := 0, coastCount := 0, points := [] }
        ∧ t.cursor1.state = .halted ∧ t.cursor2.state = .halted ∧ t.loop.zone = .unknown ∧ t.loop.k = none
        ∧ t.lam.nip = (if s.straps.laminator = false then .closed else if i.nipOpen = true then .opened else .opening)
        ∧ t.lam.nipTimer = none ∧ t.lam.heat = .off ∧ t.lam.setpoint = 0 ∧ t.lam.heater = false
        ∧ t.station.gate = { commanded := .scrap, confirmed := i.gateScrap, timer := none }
        ∧ t.station.blades = (List.range s.straps.blades).map (fun k => { down := false, confirmed := i.bladeUp.getLsbD k, timer := none })
        ∧ t.station.cycle = .idle ∧ t.station.laneSet = 0 ∧ t.station.knife = knifeStands i
        ∧ t.line.state = (if i.eStop = true then .eStopped else .unthreaded)
        ∧ t.line.resume = (if i.eStop = true then some .unthreaded else none)
        ∧ t.link.events = (if i.eStop = true then [t.line.event] else [])
        ∧ t.link.attn = i.eStop)

/-! ### Encoders -/

/-- R25, R28, R30, R31: a legal transition moves the count by one, and position, high-water mark and armed indication with it. Every watch on that roll's position fires that a forward step takes past its limit (for a watch that reaches: to it), or whose limit lay behind
when it was set, at the next forward step.
The model's choice (log entry 8): a watch that fires only becomes due, and stays so for its owner's command; nothing else changes in the step that fires it. -/
def Obligations.EncoderStepMovesRoll : Prop :=
  ∀ (s : State) (a b : Bool) (d : Int), Settled s →
    (((a, b) = nextPair (s.inputs.e1A, s.inputs.e1B) ∧ d = 1 ∨ nextPair (a, b) = (s.inputs.e1A, s.inputs.e1B) ∧ d = -1) →
      (s.roll1.count + d).natAbs ≤ 549755813887 →
      let passes := watchAfter true s.roll1.pos (rollAfter d s.roll1).pos
      let reaches := watchAfter false s.roll1.pos (rollAfter d s.roll1).pos
      exec (.encoderStep .e1 a b) s = .next { s with
        inputs := { s.inputs with e1A := a, e1B := b }
        roll1 := rollAfter d s.roll1
        watches := { s.watches with
          m1Window := s.watches.m1Window.map passes, hold := s.watches.hold.map passes, starve := s.watches.starve.map passes
          bar1 := s.watches.bar1.map passes, tailOut := s.watches.tailOut.map reaches, teach1 := s.watches.teach1.map reaches } })
    ∧ (((a, b) = nextPair (s.inputs.e2A, s.inputs.e2B) ∧ d = 1 ∨ nextPair (a, b) = (s.inputs.e2A, s.inputs.e2B) ∧ d = -1) →
      (s.roll2.count + d).natAbs ≤ 549755813887 →
      let passes := watchAfter true s.roll2.pos (rollAfter d s.roll2).pos
      let reaches := watchAfter false s.roll2.pos (rollAfter d s.roll2).pos
      exec (.encoderStep .e2 a b) s = .next { s with
        inputs := { s.inputs with e2A := a, e2B := b }
        roll2 := rollAfter d s.roll2
        watches := { s.watches with
          m2Window := s.watches.m2Window.map passes, bar2 := s.watches.bar2.map passes, teach2 := s.watches.teach2.map reaches } })

/-- R26, R27, R178, R179: a legal transition of E1 that would carry its count beyond a limit leaves it there, and outside UNTHREADED sets the encoder fault flag and raises ENCODER_1, as an illegal transition, where both channels change, does; steps
back towards zero are counted again from the limit. The same for E2 and ENCODER_2.
That a fault ends a dwell under way is the model's choice (log entry 46). -/
def Obligations.CountStopsAtLimit : Prop :=
  ∀ (s : State) (a b : Bool), Settled s →
    ((((a, b) = nextPair (s.inputs.e1A, s.inputs.e1B) ∧ s.roll1.count = 549755813887)
        ∨ (nextPair (a, b) = (s.inputs.e1A, s.inputs.e1B) ∧ s.roll1.count = -549755813887)
        ∨ (a = !s.inputs.e1A ∧ b = !s.inputs.e1B)) →
      let i : Inputs := { s.inputs with e1A := a, e1B := b }
      ∃ t, exec (.encoderStep .e1 a b) s = .next t ∧ t.roll1.count = s.roll1.count ∧ t.roll1.pos = s.roll1.pos
        ∧ if s.line.state = .unthreaded then t = { s with inputs := i }
          else t.roll1.fault = true ∧ FaultRaised .encoder1 { s with inputs := i, roll1 := { s.roll1 with fault := true } } t)
    ∧ (nextPair (a, b) = (s.inputs.e1A, s.inputs.e1B) → s.roll1.count = 549755813887 →
      ∃ t, exec (.encoderStep .e1 a b) s = .next t ∧ t.roll1.count = 549755813886)
    ∧ ((a, b) = nextPair (s.inputs.e1A, s.inputs.e1B) → s.roll1.count = -549755813887 →
      ∃ t, exec (.encoderStep .e1 a b) s = .next t ∧ t.roll1.count = -549755813886)
    ∧ ((((a, b) = nextPair (s.inputs.e2A, s.inputs.e2B) ∧ s.roll2.count = 549755813887)
        ∨ (nextPair (a, b) = (s.inputs.e2A, s.inputs.e2B) ∧ s.roll2.count = -549755813887)
        ∨ (a = !s.inputs.e2A ∧ b = !s.inputs.e2B)) →
      let i : Inputs := { s.inputs with e2A := a, e2B := b }
      ∃ t, exec (.encoderStep .e2 a b) s = .next t ∧ t.roll2.count = s.roll2.count ∧ t.roll2.pos = s.roll2.pos
        ∧ if s.line.state = .unthreaded then t = { s with inputs := i }
          else t.roll2.fault = true ∧ FaultRaised .encoder2 { s with inputs := i, roll2 := { s.roll2 with fault := true } } t)
    ∧ (nextPair (a, b) = (s.inputs.e2A, s.inputs.e2B) → s.roll2.count = 549755813887 →
      ∃ t, exec (.encoderStep .e2 a b) s = .next t ∧ t.roll2.count = 549755813886)
    ∧ ((a, b) = nextPair (s.inputs.e2A, s.inputs.e2B) → s.roll2.count = -549755813887 →
      ∃ t, exec (.encoderStep .e2 a b) s = .next t ∧ t.roll2.count = -549755813886)

/-! ### Bars and marks -/

/-- R46, R47, R48, R45: a bar at M1 begins, ends and outlasts its length. A leading edge in NONE makes the bar COUNTING from P1 on an armed roll, with its watch, and IGNORING on a disarmed one. The end of a bar of no valid length, or of one ignored, leaves NONE with the
threshold brought up and reports nothing; a watch that fires makes it IGNORING. (No decision of the cursor waits for the bar.) Likewise at M2, on P2.
That a watch that has fired waits for this command is the model's choice (log entry 8), and so is a threshold that follows as a bar ends (log entry 28). -/
def Obligations.BarsBeginAndEnd : Prop :=
  ∀ s : State, Settled s →
    (s.inputs.dark1 = false → s.sensor1.bar = .none → exec (.barLeadingEdge .m1) s = .next (
      let i : Inputs := { s.inputs with dark1 := true }
      if s.roll1.armed = true then
        { s with inputs := i, sensor1 := { s.sensor1 with bar := .counting s.p1 false }
                 watches := { s.watches with bar1 := some (watchPasses s.p1 (s.p1 + s.work .markMax)) } }
      else { s with inputs := i, sensor1 := { s.sensor1 with bar := .ignoring } }))
    ∧ (s.inputs.dark2 = false → s.sensor2.bar = .none → exec (.barLeadingEdge .m2) s = .next (
      let i : Inputs := { s.inputs with dark2 := true }
      if s.roll2.armed = true then
        { s with inputs := i, sensor2 := { s.sensor2 with bar := .counting s.p2 false }
                 watches := { s.watches with bar2 := some (watchPasses s.p2 (s.p2 + s.work .markMax)) } }
      else { s with inputs := i, sensor2 := { s.sensor2 with bar := .ignoring } }))
    ∧ (s.inputs.dark1 = true → s.cursor1.deciding = false →
      (s.sensor1.bar = .ignoring ∨ (∃ l st, s.sensor1.bar = .counting l st
        ∧ ¬ (s.work .markMin ≤ s.p1 - l ∧ s.p1 - l ≤ s.work .markMax))) →
      exec (.barTrailingEdge .m1) s = .next { s with
        inputs := { s.inputs with dark1 := false }
        sensor1 := { s.sensor1 with bar := .none, threshold := s.work .threshM1 }
        watches := { s.watches with bar1 := none } })
    ∧ (s.inputs.dark2 = true → s.cursor2.deciding = false →
      (s.sensor2.bar = .ignoring ∨ (∃ l st, s.sensor2.bar = .counting l st
        ∧ ¬ (s.work .markMin ≤ s.p2 - l ∧ s.p2 - l ≤ s.work .markMax))) →
      exec (.barTrailingEdge .m2) s = .next { s with
        inputs := { s.inputs with dark2 := false }
        sensor2 := { s.sensor2 with bar := .none, threshold := s.work .threshM2 }
        watches := { s.watches with bar2 := none } })
    ∧ (watchDue s.watches.bar1 = true → s.cursor1.deciding = false → exec (.barMaxExceeded .m1) s = .next { s with
        sensor1 := { s.sensor1 with bar := .ignoring }, watches := { s.watches with bar1 := none } })
    ∧ (watchDue s.watches.bar2 = true → s.cursor2.deciding = false → exec (.barMaxExceeded .m2) s = .next { s with
        sensor2 := { s.sensor2 with bar := .ignoring }, watches := { s.watches with bar2 := none } })

/-- R47, R53, R55, R9, R52: a valid bar that began after the take-up resolves the head the M1 cursor seeks, or expects with the bar's leading position in its window (both edges included): a_head is written, seen; the panel is INFEED; seek pending is clear; and the cursor
expects the panel's tail at a_head + L_nom, in a window of W1 either side. A valid bar in the window of a tail (of a panel whose head has not reached M2) resolves that: a_tail is written, seen, and is the last tail; with no QUEUED panel the cursor is IDLE with the starvation base at that tail (R57, R145), and with one, seek pending clear and no
hold limit, it expects that panel's head at the tail + G_nom. (The M2 cursor expects an earlier mark, and P1 is not beyond the window that opens.)
That a bar which begins after the take-up resolves the mark, were it the second in the window of the mark before, is the model's choice (log entry 58). -/
def Obligations.BarResolvesHead : Prop :=
  ∀ (s : State) (l : Int) (e : Expect1) (p : Panel), Settled s → s.inputs.dark1 = true → s.sensor1.bar = .counting l false →
    s.work .markMin ≤ s.p1 - l → s.p1 - l ≤ s.work .markMax → s.cursor1.expect = some e → s.panel? e.panel = some p →
    s.cursor2.state = .window →
    let open1 (x : Int) : Window1 := { expected := x, lower := max (x - s.work .w1) s.p1, upper := x + s.work .w1 }
    (e.mark = .head →
      (s.cursor1.state = .seek
        ∨ (s.cursor1.state = .window ∧ ∃ w, e.window = some w ∧ w.lower ≤ l ∧ l ≤ w.upper)) →
      p.state = .queued → p.aTail = none → p.completion ≠ some .aborted → s.p1 ≤ l + p.lNom + s.work .w1 →
      let w := open1 (l + p.lNom)
      let write (q : Panel) : Panel :=
        if q.serial = p.serial then
          { q with aHead := some ⟨l, false⟩, state := if q.state = .queued then .infeed else q.state } else q
      exec (.barTrailingEdge .m1) s = .next { s with
        inputs := { s.inputs with dark1 := false }
        sensor1 := { s.sensor1 with bar := .none, threshold := s.work .threshM1 }
        panels := s.panels.map write
        cursor1 := { s.cursor1 with
          state := .window, seekPending := false, lastHead := some e.panel, deciding := false
          expect := some { panel := e.panel, mark := .tail, takeUp := s.p1, window := some w } }
        watches := { s.watches with bar1 := none, m1Window := some (watchPasses s.p1 w.upper) } })
    ∧ (∀ w, e.mark = .tail → s.cursor1.state = .window → e.window = some w → w.lower ≤ l → l ≤ w.upper → p.bHead = none →
      (∀ q ∈ s.panels, q.state ≠ .queued) →
      ∃ t, exec (.barTrailingEdge .m1) s = .next t
        ∧ t.panels = s.panels.map (fun q => if q.serial = e.panel.serial then { q with aTail := some ⟨l, false⟩ } else q)
        ∧ t.cursor1 = { s.cursor1 with
            state := .idle, expect := none, lastHead := none, lastTail := some l, deciding := false }
        ∧ t.drives = { s.drives with starveBase := some l }
        ∧ { t.watches with starve := none } = { s.watches with bar1 := none, m1Window := none, starve := none }
        ∧ t.watches.starve.map (·.limit) = (if s.feeding = true then some (l + s.work .unplannedMax) else none)
        ∧ t.inputs = { s.inputs with dark1 := false }
        ∧ t.sensor1 = { s.sensor1 with bar := .none, threshold := s.work .threshM1 }
        ∧ t.reg = s.reg ∧ t.cursor2 = s.cursor2 ∧ t.planner = s.planner ∧ t.station = s.station ∧ t.line = s.line ∧ t.lam = s.lam
        ∧ t.link = s.link)
    ∧ (∀ w h, e.mark = .tail → s.cursor1.state = .window → e.window = some w → w.lower ≤ l → l ≤ w.upper → p.bHead = none →
      s.panels.find? (fun q => decide (q.state = .queued)) = some h → s.cursor1.holdLimit = none → s.cursor1.seekPending = false →
      s.p1 ≤ l + h.gNom + s.work .w1 →
      let v := open1 (l + h.gNom)
      exec (.barTrailingEdge .m1) s = .next { s with
        inputs := { s.inputs with dark1 := false }
        sensor1 := { s.sensor1 with bar := .none, threshold := s.work .threshM1 }
        panels := s.panels.map (fun q => if q.serial = e.panel.serial then { q with aTail := some ⟨l, false⟩ } else q)
        cursor1 := { s.cursor1 with
          state := .window, lastHead := none, lastTail := some l, deciding := false
          expect := some { panel := ⟨h.serial, h.id⟩, mark := .head, takeUp := s.p1, window := some v } }
        watches := { s.watches with bar1 := none, m1Window := some (watchPasses s.p1 v.upper) } })

/-- R54, R72: the watch on a window's upper edge fires with no bar in progress. The tail the M1 cursor expects is coasted at its expected position: a_tail, COASTED_M1, the last tail, MARK_COAST; with no QUEUED panel the cursor is IDLE. The head it expects is coasted likewise (R9, R52, R55): a_head, INFEED, COASTED_M1,
MARK_COAST, and the cursor expects the panel's tail at a_head + L_nom (P1 not beyond the window that opens). The tail the M2 cursor expects is coasted
at its prediction: b_tail, COASTED_M2, MARK_COAST, the coast counted, anchor and stretch untouched, and the points of the Disturbance List at or before it consumed (R83). The head it expects is coasted likewise (R10, R73, R81, R88, R89): b_head, AT_OUTFEED, UNLOCKED if in AUTO the register state is then OUT_OF_REGISTER, COASTED_M2, and its outfeed length
and triggers (here of a panel for which the queue has no room); the cursor awaits the panel's tail, or with a_tail present opens its window (P2 not beyond it). A candidate in progress makes the decision wait.
That a window's watch that has fired waits for this command is the model's choice (log entry 8). -/
def Obligations.WindowsExpire : Prop :=
  ∀ s : State, Settled s →
    (∀ (e : Expect1) (w : Window1) (p : Panel), watchDue s.watches.m1Window = true → s.cursor1.state = .window →
      s.cursor1.expect = some e → e.mark = .tail → e.window = some w → s.sensor1.bar = .none → s.panel? e.panel = some p →
      p.bHead = none → (∀ q ∈ s.panels, q.state ≠ .queued) → s.cursor2.state = .window →
      let write (q : Panel) : Panel :=
        if q.serial = e.panel.serial then
          { q with aTail := some ⟨w.expected, true⟩
                   flags := if q.state ≠ .done ∧ .coastedM1 ∉ q.flags then q.flags ++ [.coastedM1] else q.flags } else q
      ∃ t, exec .m1WindowExpiry s = .next t
        ∧ t.panels = s.panels.map write
        ∧ t.cursor1 = { s.cursor1 with
            state := .idle, expect := none, lastHead := none, lastTail := some w.expected, deciding := false }
        ∧ t.drives.starveBase = some w.expected ∧ t.watches.m1Window = none
        ∧ (s.link.events.length < 64 → t.link.events = s.link.events ++ [.markCoast .m1 e.panel.id .tail])
        ∧ t.reg = s.reg ∧ t.planner = s.planner ∧ t.station = s.station ∧ t.line = s.line ∧ t.lam = s.lam)
    ∧ (∀ (e : Expect1) (w : Window1) (p : Panel), watchDue s.watches.m1Window = true → s.cursor1.state = .window →
      s.cursor1.expect = some e → e.mark = .head → e.window = some w → s.sensor1.bar = .none → s.panel? e.panel = some p →
      p.state = .queued → p.aTail = none → p.completion ≠ some .aborted → s.cursor2.state = .window →
      s.p1 ≤ w.expected + p.lNom + s.work .w1 →
      let x := w.expected + p.lNom
      let v : Window1 := { expected := x, lower := max (x - s.work .w1) s.p1, upper := x + s.work .w1 }
      let write (q : Panel) : Panel :=
        if q.serial = e.panel.serial then
          { q with aHead := some ⟨w.expected, true⟩
                   state := if q.state = .queued then .infeed else q.state
                   flags := if q.state ≠ .done ∧ .coastedM1 ∉ q.flags then q.flags ++ [.coastedM1] else q.flags } else q
      ∃ t, exec .m1WindowExpiry s = .next t
        ∧ t.panels = s.panels.map write
        ∧ t.cursor1 = { s.cursor1 with
            state := .window, seekPending := false, lastHead := some e.panel, deciding := false
            expect := some { panel := e.panel, mark := .tail, takeUp := s.p1, window := some v } }
        ∧ t.watches = { s.watches with m1Window := some (watchPasses s.p1 v.upper) }
        ∧ (s.link.events.length < 64 → t.link.events = s.link.events ++ [.markCoast .m1 e.panel.id .head])
        ∧ t.reg = s.reg ∧ t.cursor2 = s.cursor2 ∧ t.planner = s.planner ∧ t.station = s.station ∧ t.drives = s.drives
        ∧ t.line = s.line ∧ t.lam = s.lam)
    ∧ (∀ (r : PanelRef) (w : Window2) (p : Panel) (h : Coord), watchDue s.watches.m2Window = true → s.cursor2.state = .window →
      s.cursor2.expect = some ⟨r, .head, some w⟩ → s.sensor2.bar = .none → s.panel? r = some p →
      (∀ q ∈ s.panels, q.serial = r.serial → q = p) → p.aHead = some h → p.state = .infeed → p.bTail = none → p.completion = none →
      (∀ q ∈ s.panels, q.state = .atOutfeed ∨ q.serial = p.serial → 32 < q.cuts.length + s.planner.queue.length) →
      let reg := consumed w.a (regCoast s).reg
      let span := match p.aTail with
        | some t => t.pos - h.pos
        | none => p.lNom
      let len := span + roundDiv (span * s.reg.s) 1000000
      let raise (c : Bool) (f : Flag) (fs : List Flag) : List Flag := if c = true ∧ f ∉ fs then fs ++ [f] else fs
      let q : Panel := { p with
        bHead := some ⟨w.predicted, true⟩, state := .atOutfeed
        l2 := some ⟨len, if p.aTail.isSome = true then .m1 else .nominal⟩
        triggers := some (p.cuts.map (fun x => w.predicted + roundDiv (x * len) p.lNom.toNat + s.work .dMk))
        flags := raise true .coastedM2 (raise (decide (reg.lock = .auto ∧ reg.register = .outOfRegister)) .unlocked p.flags) }
      let coasted (c : Cursor2) (open2 : Option Watch) : Prop := ∃ t, exec .m2WindowExpiry s = .next t
        ∧ t.panels = s.panels.map (fun o => if o.serial = p.serial then q else o)
        ∧ t.cursor2 = c ∧ t.watches = { s.watches with m2Window := open2 } ∧ t.reg = reg
        ∧ t.reg.anchor = s.reg.anchor ∧ t.reg.s = s.reg.s ∧ t.reg.coastCount = min (s.reg.coastCount + 1) 15
        ∧ (s.link.events.length < 64 → ∃ rest, t.link.events = s.link.events ++ .markCoast .m2 r.id .head :: rest)
        ∧ t.planner = s.planner ∧ t.station = s.station ∧ t.line = s.line ∧ t.drives = s.drives ∧ t.cursor1 = s.cursor1 ∧ t.lam = s.lam
      (p.aTail = none → coasted { state := .await, expect := some ⟨r, .tail, none⟩, lastHead := some r } none)
      ∧ (∀ a ak bk, p.aTail = some a → s.reg.anchor = some (ak, bk) →
        let b := bk + (a.pos - ak) + roundDiv ((a.pos - ak) * s.reg.s) 1000000
        let half := match reg.mode with
          | .seek => s.work .wSeek
          | .capture => s.work .wAcq
          | .follow => s.work .wTrk
        s.p2 ≤ b + half →
        coasted
          { state := .window, lastHead := some r
            expect := some ⟨r, .tail, some
              { a := a.pos, takeUp := s.p2, predicted := b, half := half, lower := max (b - half) s.p2, upper := b + half }⟩ }
          (some (watchPasses s.p2 (b + half)))))
    ∧ (∀ (r : PanelRef) (w : Window2) (p : Panel), watchDue s.watches.m2Window = true → s.cursor2.state = .window →
      s.cursor2.expect = some ⟨r, .tail, some w⟩ → s.sensor2.bar = .none → s.panel? r = some p →
      (∀ q ∈ s.panels, q.state ≠ .infeed) →
      let write (q : Panel) : Panel :=
        if q.serial = r.serial then
          { q with bTail := some ⟨w.predicted, true⟩
                   flags := if q.state ≠ .done ∧ .coastedM2 ∉ q.flags then q.flags ++ [.coastedM2] else q.flags } else q
      ∃ t, exec .m2WindowExpiry s = .next t
        ∧ t.panels = s.panels.map write
        ∧ t.cursor2 = { state := .idle, expect := none, lastHead := none }
        ∧ t.reg.anchor = s.reg.anchor ∧ t.reg.s = s.reg.s ∧ t.reg.coastCount = min (s.reg.coastCount + 1) 15
        ∧ t.reg = consumed w.a (regCoast s).reg
        ∧ t.watches.m2Window = none
        ∧ (s.link.events.length < 64 → ∃ rest, t.link.events = s.link.events ++ .markCoast .m2 r.id .tail :: rest)
        ∧ t.planner = s.planner ∧ t.station = s.station ∧ t.line = s.line ∧ t.drives = s.drives ∧ t.cursor1 = s.cursor1)
    ∧ (∀ (e : Expect1) (w : Window1) (l : Int), watchDue s.watches.m1Window = true → s.cursor1.expect = some e →
      e.window = some w → s.sensor1.bar = .counting l false → w.lower ≤ l → l ≤ w.upper →
      exec .m1WindowExpiry s = .next { s with
        cursor1 := { s.cursor1 with deciding := true }, watches := { s.watches with m1Window := none } })
    ∧ (∀ (e : Expect2) (w : Window2) (l : Int), watchDue s.watches.m2Window = true → s.cursor2.expect = some e →
      e.window = some w → s.sensor2.bar = .counting l false → w.lower ≤ l → l ≤ w.upper →
      exec .m2WindowExpiry s = .next { s with
        cursor2 := { s.cursor2 with deciding := true }, watches := { s.watches with m2Window := none } })

/-- R58 to R60, R164: a splice of the print flags SPLICE every panel whose infeed span shares a position with the zone about P1, sets seek pending and the hold limit with its watch, adds a PRINT_SPLICE point and queues SPLICE; the cursor, with no tail expected, holds a QUEUED head or is IDLE. A splice of the film flags FILM_SPLICE
about P1 less D_NIP, adds its point and queues SPLICE. R82: a point at a position already held is absorbed, and one that would be a seventeenth lost. R59: the hold watch fires, and a held head is sought from P1.
That the hold watch that has fired waits for its command is the model's choice (log entry 8); an input acts where its level changes (log entry 18). -/
def Obligations.SplicesAndHold : Prop :=
  ∀ s : State, Settled s →
    let touched (f : Flag) (lo hi : Int) (q : Panel) : Panel :=
      if Panel.touches lo hi q = true ∧ q.state ≠ .done ∧ f ∉ q.flags then { q with flags := q.flags ++ [f] } else q
    let z := s.work .spliceZone
    let n := s.p1 - s.work .dNip
    (s.inputs.splice = false → s.cursor1.state = .seek ∨ s.cursor1.state = .spliceHold ∨ s.cursor1.state = .idle →
      s.cursor1.holdLimit = none → PointsOrdered s → s.link.events.length ≤ 61 →
      ∃ t, exec .printSplice s = .next t
        ∧ t.panels = s.panels.map (touched .splice (s.p1 - z) (s.p1 + z))
        ∧ t.cursor1.seekPending = true ∧ t.cursor1.holdLimit = some (s.p1 + z)
        ∧ t.cursor1.state = (if ∃ q ∈ s.panels, q.state = .queued then .spliceHold else .idle)
        ∧ t.watches.hold = some (watchPasses s.p1 (s.p1 + z))
        ∧ t.reg = pointAdded .printSplice s.p1 s.reg
        ∧ .splice false s.p1 ∈ t.link.events ∧ pointTold s.p1 s.reg t.link.events
        ∧ (s.reg.points.length < 16 → t.link.events = s.link.events ++ [.splice false s.p1])
        ∧ t.planner = s.planner ∧ t.station = s.station ∧ t.line = s.line ∧ t.cursor2 = s.cursor2 ∧ t.lam = s.lam)
    ∧ (s.straps.laminator = true → s.inputs.filmSplice = false → s.line.state ≠ .unthreaded → PointsOrdered s →
      s.link.events.length ≤ 61 →
      ∃ t, exec .filmSplice s = .next t
        ∧ t.panels = s.panels.map (touched .filmSplice (n - z) (n + z))
        ∧ t.reg = pointAdded .filmSplice n s.reg
        ∧ .splice true n ∈ t.link.events ∧ pointTold n s.reg t.link.events
        ∧ (s.reg.points.length < 16 → t.link.events = s.link.events ++ [.splice true n])
        ∧ t.cursor1 = s.cursor1 ∧ t.cursor2 = s.cursor2 ∧ t.planner = s.planner ∧ t.station = s.station ∧ t.line = s.line
        ∧ t.drives = s.drives ∧ t.lam = s.lam)
    ∧ (∀ p, watchDue s.watches.hold = true → s.cursor1.state = .spliceHold → s.cursor1.lastHead = none →
      s.cursor1.seekPending = true → s.panels.find? (fun q => decide (q.state = .queued)) = some p →
      ∃ t, exec .spliceHoldRelease s = .next t
        ∧ t.cursor1 = { s.cursor1 with
            state := .seek, holdLimit := none, deciding := false
            expect := some { panel := ⟨p.serial, p.id⟩, mark := .head, takeUp := s.p1 } }
        ∧ t.watches.hold = none ∧ t.panels = s.panels ∧ t.reg = s.reg ∧ t.planner = s.planner ∧ t.line = s.line
        ∧ t.drives = s.drives)
    ∧ (watchDue s.watches.hold = true → s.cursor1.state ≠ .spliceHold →
      exec .spliceHoldRelease s = .next { s with
        cursor1 := { s.cursor1 with holdLimit := none }, watches := { s.watches with hold := none } })

/-- R61, R56, R146: WEB1 becomes absent on a feeding line whose web-end record is clear. The record is set, the M1 cursor is HALTED, the end-of-web sequence is FEEDING_OUT with a_end at P1 and the tail-out position 100 mm beyond the nip, and every panel without its tail is SHORT. On a line that does not feed only
the reading changes.
That WEB_END_REPORT is WEB1 becoming absent is the model's reading (log entry 18). -/
def Obligations.WebEndReported : Prop :=
  ∀ s : State, Settled s → s.inputs.web1 = true → s.webEnd = false →
    let i : Inputs := { s.inputs with web1 := false }
    let short (q : Panel) : Panel :=
      if q.aTail = none ∧ q.state ≠ .done ∧ .short ∉ q.flags then { q with flags := q.flags ++ [.short] } else q
    let out := s.p1 + s.work .dNip + 100000
    (s.feeding = true → s.drives.webSeq = .none →
      exec .webEndReport s = .next { s with
        inputs := i, webEnd := true, panels := s.panels.map short
        cursor1 := { s.cursor1 with state := .halted, expect := none, holdLimit := none, deciding := false }
        watches := { s.watches with
          m1Window := none, hold := none, starve := none, tailOut := some { limit := out, beyond := decide (out ≤ s.p1) } }
        drives := { s.drives with webSeq := .feedingOut, aEnd := some s.p1, tailOutPos := some out } })
    ∧ (s.feeding = false → exec .webEndReport s = .next { s with inputs := i })

/-- R63, R64, R45: the end of a teach of M1. Its span reached with enough contrast, the working threshold becomes the floor of the midpoint, and the threshold in use follows where no bar is in progress (TAUGHT); with less it is unchanged (LOW_CONTRAST); the teach timer running out changes it neither (TIMEOUT). Each queues TEACH_END.
Likewise for M2.
That a span watch that has fired waits for its command (log entry 8), and that the timer ends when its command comes (log entry 6), are the model's choices. -/
def Obligations.TeachEnds : Prop :=
  ∀ (s : State) (t : Teach) (lo hi : Nat), Settled s → t.min = some lo → t.max = some hi → s.link.events.length < 64 →
    let mid : Int := ((lo + hi) / 2 : Nat)
    let taught := s.work .contrastMin ≤ (hi : Int) - lo
    (s.sensor1.teach = some t → watchDue s.watches.teach1 = true → s.cal.working.length = 58 →
      ∃ u, exec (.teachSpanReached .m1) s = .next u
        ∧ u.cal = (if taught then { s.cal with working := s.cal.working.set 14 mid } else s.cal)
        ∧ u.sensor1.teach = none
        ∧ u.sensor1.threshold = (if taught ∧ s.sensor1.bar.inProgress = false then mid else s.sensor1.threshold)
        ∧ u.link.events = s.link.events ++
            [.teachEnd .m1 (if taught then .taught else .lowContrast) (some lo) (some hi) (if taught then mid else s.work .threshM1)]
        ∧ u.watches.teach1 = none ∧ u.panels = s.panels ∧ u.sensor2 = s.sensor2 ∧ u.drives = s.drives ∧ u.line = s.line)
    ∧ (s.sensor2.teach = some t → watchDue s.watches.teach2 = true → s.cal.working.length = 58 →
      ∃ u, exec (.teachSpanReached .m2) s = .next u
        ∧ u.cal = (if taught then { s.cal with working := s.cal.working.set 15 mid } else s.cal)
        ∧ u.sensor2.teach = none
        ∧ u.sensor2.threshold = (if taught ∧ s.sensor2.bar.inProgress = false then mid else s.sensor2.threshold)
        ∧ u.link.events = s.link.events ++
            [.teachEnd .m2 (if taught then .taught else .lowContrast) (some lo) (some hi) (if taught then mid else s.work .threshM2)]
        ∧ u.watches.teach2 = none ∧ u.panels = s.panels ∧ u.sensor1 = s.sensor1 ∧ u.drives = s.drives ∧ u.line = s.line)
    ∧ (s.sensor1.teach = some t →
      ∃ u, exec (.teachTimeout .m1) s = .next u ∧ u.sensor1 = { s.sensor1 with teach := none } ∧ u.cal = s.cal
        ∧ u.link.events = s.link.events ++ [.teachEnd .m1 .timeout (some lo) (some hi) (s.work .threshM1)]
        ∧ u.watches.teach1 = none ∧ u.panels = s.panels ∧ u.sensor2 = s.sensor2 ∧ u.drives = s.drives ∧ u.line = s.line)
    ∧ (s.sensor2.teach = some t →
      ∃ u, exec (.teachTimeout .m2) s = .next u ∧ u.sensor2 = { s.sensor2 with teach := none } ∧ u.cal = s.cal
        ∧ u.link.events = s.link.events ++ [.teachEnd .m2 .timeout (some lo) (some hi) (s.work .threshM2)]
        ∧ u.watches.teach2 = none ∧ u.panels = s.panels ∧ u.sensor1 = s.sensor1 ∧ u.drives = s.drives ∧ u.line = s.line)


/-! ### Conversions -/

/-- R37: every DANCER result gives the loop length LOOP_AT_0 + round(r × (LOOP_AT_1023 − LOOP_AT_0) / 1023), in every line state and for a result out of range too; it lies between the two calibration values. -/
def Obligations.DancerGivesLoopLength : Prop :=
  ∀ (s : State) (r : BitVec 10), s.heldBy = [] → s.sampler.channel = .dancer →
    let a := s.work .loopAt0
    let b := s.work .loopAt1023
    let x := r.toNat * (b - a)
    let l := if 0 ≤ x then a + (2 * x + 1023) / 2046 else a - (1023 - 2 * x) / 2046
    ∃ t, exec (.conversionComplete r) s = .next t
      ∧ t.loop.length = some l
      ∧ (a < b → a ≤ l ∧ l ≤ b)
      ∧ t.sampler.dancer = some r.toNat

/-- R33, R34, R38, R40, R140, R141: the rest of a DANCER result. The zone follows the loop length; the latest result is kept and the turn goes on, or gives way to the next active channel's, or to a new round of the grants as they then are; the fault DANCER is raised by a result out of range on a watching Loop that was not faulted. What the outfeed does with a
change of zone, while not DRAINING: a move that is no STOP-NOW is held with its request when the zone turns EMPTY (here not in PREPARING); an approach or a free run is reissued between LOW and the catch-up zones, its owner kept; a hold is kept on the way up to LOW, and released in NORMAL, HIGH and FULL: a held station move goes on towards its end point, the free run
is resumed where its conditions hold, and an outfeed with no request is STOPPED. Where no fault is raised NIP_CLOSED stands inactive.
That a held free run goes on only where its conditions hold is the model's reading (log entry 13), and that a fault ends a dwell its choice (log entry 46). -/
def Obligations.DancerZoneAndFault : Prop :=
  ∀ (s : State) (r : BitVec 10), Settled s → s.sampler.channel = .dancer →
    let l := s.work .loopAt0 + roundDiv (r.toNat * (s.work .loopAt1023 - s.work .loopAt0)) 1023
    let z := zoneFrom s l
    let bad := r.toNat < 8 ∨ 1015 < r.toNat
    let u : State := { s with
      loop := { s.loop with length := some l, zone := z, faulted := decide bad }
      sampler := { s.sampler with dancer := some r.toNat, round := turnsAfter s } }
    let catchUp (x : Zone) : Prop := x = .normal ∨ x = .high ∨ x = .full
    let quiet := (s.loop.watching = false ∨ ¬ bad ∨ s.loop.faulted = true) ∧ s.inputs.nipClosed = false
    let gives (o : Outfeed) : Prop := ∃ t, exec (.conversionComplete r) s = .next t
      ∧ t.loop = u.loop ∧ t.sampler = u.sampler ∧ t.drives = { s.drives with outfeed := o, infeedRef := t.infeedReference }
      ∧ t.line = s.line ∧ WebKept s t
    (s.drives.outfeed = .stopped ∨ z = s.loop.zone → quiet → gives s.drives.outfeed)
    ∧ (s.drives.outfeed = .stopped ∨ z = s.loop.zone → s.loop.watching = true → bad → s.loop.faulted = false →
      ∃ t, exec (.conversionComplete r) s = .next t ∧ t.loop = u.loop ∧ FaultRaised .dancer u t)
    ∧ (∀ m, s.drives.outfeed = .moving m → m.kind ≠ .stopNow → s.station.cycle ≠ .preparing → s.drives.webSeq ≠ .draining → z = .empty → s.loop.zone ≠ .empty →
      quiet → gives (.held (if m.owner = .free then .free else .station m.purpose (m.endPoint.getD s.p2))))
    ∧ (∀ m, s.drives.outfeed = .moving m → s.drives.webSeq ≠ .draining → (s.loop.zone = .low ∧ catchUp z) ∨ (catchUp s.loop.zone ∧ z = .low) →
      quiet → gives (reissued s z s.drives.setpoint m))
    ∧ (∀ h, s.drives.outfeed = .held h → s.drives.webSeq ≠ .draining → z = .low → quiet → gives (.held h))
    ∧ (∀ p e, s.drives.outfeed = .held (.station p e) → e ≠ s.p2 → s.drives.webSeq ≠ .draining → s.loop.zone ≠ z → catchUp z →
      quiet → gives (movedTo s z s.drives.setpoint p .station e))
    ∧ (s.drives.outfeed = .held .free → s.drives.webSeq ≠ .draining → s.loop.zone ≠ z → catchUp z → s.station.cycle ≠ .preparing → 0 ≤ s.work .dMk →
      quiet → gives (if s.feeding = true ∧ s.station.cycle = .idle ∧ s.planner.target = none
        then movedTo s z s.drives.setpoint .freeRun .free (s.p2 + s.work .dMk) else .stopped))
    ∧ (s.drives.outfeed = .held .nothing → s.drives.webSeq ≠ .draining → s.loop.zone ≠ z → catchUp z → s.station.cycle ≠ .preparing →
      quiet → gives .stopped)

/-- R154 to R157: a TEMP result. 0 and 1023 are a faulted sensor: heater off, temperature absent, READY back to WARMING, and TEMP_SENSOR raised the first time. Any other gives the temperature twice the result, with regulation between the target and
2.0 °C below it, and the settle test; 150 °C or more, or T_OVER above the target while the relative test is armed in hot mode, locks the heater out, which is then off, and raises OVERTEMP (here with no settle test to be taken: the roller OFF, in STANDBY, or READY or settling within its band). R63: a LEVEL result moves the minimum and
maximum of a teach in progress, which the first one sets, and is otherwise ignored. R155: a TEMP result below both limits in hot mode arms the relative test. R33, R34: with each, the turn goes on, or gives way to the next, or a new round begins. A sound TEMP result is stated with NIP_CLOSED inactive.
That a fault ends a dwell under way is the model's choice (log entry 46). -/
def Obligations.TempAndLevelResults : Prop :=
  ∀ (s : State) (r : BitVec 10), Settled s →
    let sampled (c : Channel) : Sampler := { s.sampler.latest c r.toNat with round := turnsAfter s }
    let deg : Int := 2 * r.toNat
    let inBand := (s.lam.setpoint : Int) - s.work .tBand ≤ deg
    let tooHot := 1500 ≤ deg ∨ (s.lam.armed = true ∧ s.lam.heat ≠ .off ∧ ∃ g, s.lam.target = some g ∧ g + s.work .tOver ≤ deg)
    let seen (k : Teach) : Teach := { k with
      min := some (match k.min with | some m => min m r.toNat | none => r.toNat)
      max := some (match k.max with | some m => max m r.toNat | none => r.toNat) }
    (s.sampler.channel = .temp → r = 0 ∨ r = 1023 → (s.lam.heat = .ready → s.lam.target = some (s.lam.setpoint : Int)) →
      let l : Laminator := { s.lam with temperature := none, sensorFaulted := true, heater := false }
      let l' : Laminator :=
        if s.lam.heat = .warming then { l with settle := none }
        else if s.lam.heat = .ready then { l with heat := .warming }
        else l
      ∃ t, exec (.conversionComplete r) s = .next t
        ∧ t.lam.temperature = none ∧ t.lam.heater = false ∧ t.lam.sensorFaulted = true ∧ t.lam.heat = l'.heat
        ∧ t.lam.armed = s.lam.armed
        ∧ t.sampler = sampled .temp
        ∧ (s.lam.sensorFaulted = false → FaultRaised .tempSensor { s with sampler := sampled .temp, lam := l' } t)
        ∧ (s.lam.sensorFaulted = true → t.line = s.line ∧ WebKept s t))
    ∧ (s.sampler.channel = .temp → r ≠ 0 → r ≠ 1023 → deg < 1500 →
      (∀ g, s.lam.target = some g → deg < g + s.work .tOver) → (s.lam.heat = .off ↔ s.lam.target = none) →
      s.inputs.nipClosed = false →
      ∃ t, exec (.conversionComplete r) s = .next t
        ∧ t.lam.temperature = some (2 * r.toNat) ∧ t.lam.sensorFaulted = false ∧ t.lam.lockout = false
        ∧ (s.lam.heat = .warming ∨ s.lam.heat = .ready → s.lam.target = some (s.lam.setpoint : Int) → t.lam.armed = true)
        ∧ (s.lam.heat = .standby → t.lam.armed = true) ∧ (s.lam.heat = .off → t.lam.armed = s.lam.armed)
        ∧ t.lam.heater = (match s.lam.target with
            | none => false
            | some g => if deg < g - 20 then true else if g ≤ deg then false else s.lam.heater)
        ∧ (s.lam.heat = .warming → inBand → s.lam.settle = none → 0 < s.workNat .settle →
            t.lam.settle = some ⟨s.now, 1000 * s.workNat .settle⟩ ∧ t.lam.heat = .warming)
        ∧ (s.lam.heat = .warming → inBand → s.lam.settle = none → s.workNat .settle = 0 → t.lam.heat = .ready)
        ∧ (s.lam.heat = .warming → ¬ inBand → t.lam.settle = none ∧ t.lam.heat = .warming)
        ∧ (s.lam.heat = .ready → t.lam.heat = (if inBand then .ready else .warming))
        ∧ (s.lam.heat = .off ∨ s.lam.heat = .standby → t.lam.heat = s.lam.heat)
        ∧ t.sampler = sampled .temp ∧ t.line = s.line ∧ WebKept s t)
    ∧ (s.sampler.channel = .temp → r ≠ 0 → r ≠ 1023 → tooHot → s.lam.lockout = false → (s.lam.heat = .off ↔ s.lam.target = none) →
      (s.lam.heat = .off ∨ s.lam.heat = .standby ∨ (s.lam.heat = .ready ∧ inBand) ∨ (s.lam.heat = .warming ∧ inBand ∧ s.lam.settle.isSome = true)) →
      ∃ t, exec (.conversionComplete r) s = .next t
        ∧ t.lam.temperature = some (2 * r.toNat) ∧ t.lam.sensorFaulted = false ∧ t.lam.lockout = true ∧ t.lam.heater = false
        ∧ t.sampler = sampled .temp
        ∧ FaultRaised .overtemp { s with
            sampler := sampled .temp
            lam := { s.lam with
              temperature := some (2 * r.toNat), sensorFaulted := false, lockout := true, heater := false
              armed := s.lam.armed || decide (∃ g ∈ s.lam.target, deg < g + s.work .tOver) } } t)
    ∧ (∀ k, s.sampler.channel = .level1 → s.sensor1.teach = some k →
      exec (.conversionComplete r) s = .next { s with
        sampler := sampled .level1, sensor1 := { s.sensor1 with teach := some (seen k) } })
    ∧ (∀ k, s.sampler.channel = .level2 → s.sensor2.teach = some k →
      exec (.conversionComplete r) s = .next { s with
        sampler := sampled .level2, sensor2 := { s.sensor2 with teach := some (seen k) } })
    ∧ (s.sampler.channel = .level1 → s.sensor1.teach = none →
      exec (.conversionComplete r) s = .next { s with sampler := sampled .level1 })
    ∧ (s.sampler.channel = .level2 → s.sensor2.teach = none →
      exec (.conversionComplete r) s = .next { s with sampler := sampled .level2 })

/-! ### The laminator -/

/-- R157, R158, R162, R163: the laminator's timers. The settle timer makes a WARMING roller READY, which on a feeding line lets the nip be commanded close where there is web to feed (R160), and the infeed go where the nip is CLOSED or so becomes (R136), a dwell ending with it; the point of a reclosure then comes to the
Disturbance List (R161, R82); the idle timer takes it to STANDBY, STANDBY_DROP below its setpoint and not below 0; DWELL_MARK flags the panels whose span holds the nip's position;
DWELL_MAX commands the nip open, and the dwell timer stops. Time stands at the timer's end.
The model's choice (log entry 6): a timer's command acts whenever that timer runs, and brings `now` to its end or leaves it if later. -/
def Obligations.HeatAndDwellTimers : Prop :=
  ∀ s : State, Settled s →
    (∀ k, s.lam.settle = some k → s.lam.heat = .warming → s.lam.target = some (s.lam.setpoint : Int) → s.feeding = false →
      exec .settleTimer s = .next { s with
        now := max s.now (k.start + k.limit), lam := { s.lam with heat := .ready, settle := none } })
    ∧ (∀ k, s.lam.settle = some k → s.lam.heat = .warming → s.lam.target = some (s.lam.setpoint : Int) → s.feeding = true → PointsOrdered s →
      let now' := max s.now (k.start + k.limit)
      let at' := s.p1 - s.work .dNip
      let closed := nipCloses s && s.inputs.nipClosed
      ∃ t, exec .settleTimer s = .next t
        ∧ t.now = now'
        ∧ { t.lam with dwell := s.lam.dwell } = { s.lam with
            heat := .ready, settle := none, nip := nipAfterClose s, commandClose := nipCloses s || s.lam.commandClose
            nipTimer := if nipCloses s = true then (if closed = true then none else some ⟨now', s.workNat .nipTimeout⟩) else s.lam.nipTimer
            reclose := !closed && s.lam.reclose }
        ∧ t.drives = { s.drives with
            infeedRef := if s.straps.laminator = false ∨ t.lam.nip = .closed then feedBesideNip s else 0 }
        ∧ (0 < feedBesideNip s → t.lam.dwell = none)
        ∧ t.reg = (if closed = true ∧ s.lam.reclose = true then pointAdded .nipReclose at' s.reg else s.reg)
        ∧ (closed = true → s.lam.reclose = true → s.link.events.length ≤ 62 → pointTold at' s.reg t.link.events)
        ∧ t.line = s.line ∧ t.inputs = s.inputs ∧ t.loop = s.loop ∧ t.watches = s.watches ∧ WebKept { s with reg := t.reg } t)
    ∧ (∀ k, s.lam.idle = some k →
      exec .idleTimer s = .next { s with
        now := max s.now (k.start + k.limit)
        lam := { s.lam with
          heat := .standby, target := some (max 0 ((s.lam.setpoint : Int) - s.work .standbyDrop))
          settle := none, idle := none, armed := false } })
    ∧ (∀ d, s.lam.dwell = some d → d.marked = false → d.mark < d.max →
      let n := s.p1 - s.work .dNip
      let touched (q : Panel) : Panel :=
        if Panel.touches n n q = true ∧ q.state ≠ .done ∧ .dwell ∉ q.flags then { q with flags := q.flags ++ [.dwell] } else q
      exec .dwellMark s = .next { s with
        now := max s.now (d.start + d.mark), panels := s.panels.map touched
        lam := { s.lam with dwell := some { d with marked := true } } })
    ∧ (∀ d, s.lam.dwell = some d →
      let now' := max s.now (d.start + d.max)
      exec .dwellMax s = .next { s with
        now := now'
        lam := { s.lam with
          nip := if s.inputs.nipOpen = true then .opened else .opening, commandClose := false, dwell := none
          nipTimer := if s.inputs.nipOpen = true then none else some ⟨now', s.workNat .nipTimeout⟩, reclose := true } })

/-- R159, R161: the nip's confirms, with the strap set. NIP_CLOSED closes a CLOSING nip, and after an opening that the reclose record remembers adds a NIP_RECLOSE point at P1 less D_NIP to the Disturbance List (R82); NIP_OPEN opens an OPENING one. A confirm lost without a command puts a
CLOSED nip back to CLOSING with the record set, and an OPEN one to OPENING, each under its timer.
That a confirm acts where its level changes is the model's reading (log entry 18). -/
def Obligations.NipConfirms : Prop :=
  ∀ s : State, Settled s → s.straps.laminator = true →
    let timer : Option Timer := some ⟨s.now, s.workNat .nipTimeout⟩
    (s.lam.nip = .closing → PointsOrdered s → ∃ t, exec (.nipConfirm .nipClosed) s = .next t
      ∧ t.lam.nip = .closed ∧ t.lam.nipTimer = none ∧ t.lam.reclose = false ∧ t.lam.heat = s.lam.heat
      ∧ t.reg = (if s.lam.reclose = true then pointAdded .nipReclose (s.p1 - s.work .dNip) s.reg else s.reg)
      ∧ (s.lam.reclose = true → s.link.events.length ≤ 62 → pointTold (s.p1 - s.work .dNip) s.reg t.link.events)
      ∧ t.drives.infeedRef = t.infeedReference ∧ t.inputs = { s.inputs with nipClosed := true }
      ∧ t.line = s.line ∧ t.drives.outfeed = s.drives.outfeed ∧ WebKept { s with reg := t.reg } t)
    ∧ (s.lam.nip = .opening → exec (.nipConfirm .nipOpen) s = .next { s with
        inputs := { s.inputs with nipOpen := true }, lam := { s.lam with nip := .opened, nipTimer := none } })
    ∧ (s.lam.nip = .closed → exec (.nipConfirmLost .nipClosed) s = .next { s with
        inputs := { s.inputs with nipClosed := false }, drives := { s.drives with infeedRef := 0 }
        lam := { s.lam with nip := .closing, nipTimer := timer, reclose := true, dwell := none } })
    ∧ (s.lam.nip = .opened → exec (.nipConfirmLost .nipOpen) s = .next { s with
        inputs := { s.inputs with nipOpen := false }, lam := { s.lam with nip := .opening, nipTimer := timer } })

/-! ### Stops and faults -/

/-- R165, R145, R172, R169, R171: the stops that begin of themselves. FILM_OUT on a feeding line with the laminator begins a CONTROLLED stop, and so does the starvation watch, with seek pending set and the last-plan record gone; STACK_FULL in RUNNING begins a CYCLE_END stop, which ends at once
where the station is IDLE with no target. In other states the inputs are only read.
That the starvation watch that has fired waits for its command is the model's choice (log entry 8); an input acts where its level changes (log entry 18). -/
def Obligations.StopsBegin : Prop :=
  ∀ s : State, Settled s →
    (s.inputs.filmOut = false → s.straps.laminator = true → s.feeding = true →
      ∃ t, exec .filmOut s = .next t ∧ t.line = controlledLine .filmOut s ∧ Stopped s t
        ∧ t.inputs = { s.inputs with filmOut := true } ∧ t.cursor1 = s.cursor1 ∧ t.lastPlan = s.lastPlan)
    ∧ (s.straps.laminator = false ∨ s.feeding = false →
      exec .filmOut s = .next { s with inputs := { s.inputs with filmOut := true } })
    ∧ (watchDue s.watches.starve = true →
      ∃ t, exec .planStarved s = .next t ∧ t.line = controlledLine .planStarved s ∧ Stopped s t
        ∧ t.cursor1 = { s.cursor1 with seekPending := true } ∧ t.lastPlan = none ∧ t.inputs = s.inputs)
    ∧ (s.inputs.stackFull = false → s.line.state = .running →
      let i : Inputs := { s.inputs with stackFull := true }
      let l : LineBlock := { s.line with state := .stopping, stop := some ⟨.cycleEnd, .stackFull⟩ }
      if s.station.cycle = .idle ∧ s.planner.target = none then
        ∃ t, exec .stackFull s = .next t ∧ t.line = { l with state := .holding } ∧ Stopped s t ∧ t.inputs = i
          ∧ t.cursor1 = s.cursor1 ∧ t.lastPlan = s.lastPlan
      else exec .stackFull s = .next (attnUpdate (queueEvent l.event { s with inputs := i, line := l })))
    ∧ (s.line.state ≠ .running → exec .stackFull s = .next { s with inputs := { s.inputs with stackFull := true } })

/-- R180, R144, R116, R118, R125, R128, R132: the E-stop. The line is E_STOPPED with ESTOP latched, or over a fault with that fault's records kept; the outfeed and its requests are dropped; an approach is left, a correction, a preparing and a traverse paused, a knife under way is UNHOMED; the nip is
commanded open. On a line E_STOPPED already only the input changes.
The model's readings: the input acts where its level changes (log entry 18); a traverse whose entry CLEAR has taken away leaves the station IDLE with no recut mark, where R128 says PAUSED (log entry 15). -/
def Obligations.EStopStopsLine : Prop :=
  ∀ s : State, Settled s → s.inputs.eStop = false →
    let i : Inputs := { s.inputs with eStop := true }
    let cut := s.station.cycle = .stroke ∧ s.current.isSome = true
    (s.line.state ≠ .eStopped → ∃ t, exec .eStop s = .next t
      ∧ t.line = (if s.line.state = .faulted then { s.line with state := .eStopped, stop := none }
          else
            { state := .eStopped, stop := none, firstFault := some ⟨.estop, s.p1, s.p2⟩
              resume := some (if s.line.state = .running ∨ s.line.state = .stopping then .holding else s.line.state) })
      ∧ t.drives.infeedRef = 0 ∧ t.drives.outfeed = .stopped
      ∧ t.station.cycle = (match s.station.cycle with
          | .approach => .idle
          | .correct => .paused
          | .preparing => .paused
          | .stroke => if s.current.isSome = true then .paused else .idle
          | c => c)
      ∧ t.station.knife = (if s.station.cycle = .stroke ∨ s.station.knife = .homing then .unhomed else s.station.knife)
      ∧ (t.station.recut = true ↔ cut ∨ s.station.recut = true)
      ∧ t.planner = { s.planner with queue :=
          if s.station.cycle = .approach then firstSet true .pending s.planner.queue
          else if s.station.cycle = .correct ∨ s.station.cycle = .preparing ∨ cut then firstSet true .settling s.planner.queue
          else s.planner.queue }
      ∧ t.station.gate = s.station.gate ∧ t.station.blades = s.station.blades ∧ t.station.laneSet = s.station.laneSet
      ∧ t.lam.nip = nipAfterOpen s ∧ t.lam.heat = s.lam.heat ∧ t.inputs = i ∧ t.panels = s.panels ∧ t.reg = s.reg
      ∧ t.cursor1 = s.cursor1 ∧ t.cursor2 = s.cursor2 ∧ t.lastPlan = s.lastPlan ∧ t.loop = s.loop ∧ t.cal = s.cal
      ∧ (s.link.events.length < 64 → t.link.events = s.link.events ++ [t.line.event]))
    ∧ (s.line.state = .eStopped → exec .eStop s = .next { s with inputs := i })

/-- The table of R179 with R123, R128, R132, R138, R143, R144, R159: the faults of the drives, the devices and the knife are raised, each with what its own rule does first: an input's level is taken, a passed deadline sets the move-timeout flag and leaves its move without one, a timer that has run out stops with time at its end, a homing or a traverse stops UNHOMED.
The model's choices: a timer's command acts whenever that timer runs, and brings `now` to its end or leaves it if later (log entry 6); an input acts where its level changes (log entry 18); a fault ends a dwell under way (log entry 46). -/
def Obligations.FaultsRaised : Prop :=
  ∀ s : State, Settled s →
    let at' (k : Timer) : Nat := max s.now (k.start + k.limit)
    (s.inputs.inDrive = false → ∃ t, exec .inDrive s = .next t
      ∧ t.inputs = { s.inputs with inDrive := true }
      ∧ FaultRaised .inDrive { s with inputs := { s.inputs with inDrive := true } } t)
    ∧ (s.inputs.outDrive = false → ∃ t, exec .outDrive s = .next t
      ∧ t.inputs = { s.inputs with outDrive := true }
      ∧ FaultRaised .outDrive { s with inputs := { s.inputs with outDrive := true } } t)
    ∧ (∀ m d, s.drives.outfeed = .moving m → m.deadline = some d → ∃ t, exec .moveTimeout s = .next t
      ∧ t.now = max s.now d ∧ t.drives.timeoutFlag = true
      ∧ FaultRaised .moveTimeout { s with
          now := max s.now d
          drives := { s.drives with outfeed := .moving { m with deadline := none }, timeoutFlag := true } } t)
    ∧ (∀ k, s.station.gate.timer = some k → ∃ t, exec .gateTimeout s = .next t
      ∧ t.now = at' k ∧ t.station.gate = { s.station.gate with timer := none }
      ∧ FaultRaised .gateTimeout { s with
          now := at' k, station := { s.station with gate := { s.station.gate with timer := none } } } t)
    ∧ (∀ (n : Fin 6) (b : Blade) (k : Timer), s.station.blades[n.val]? = some b → b.timer = some k →
      ∃ t, exec (.bladeTimeout n) s = .next t
        ∧ t.now = at' k ∧ t.station.blades = s.station.blades.set n.val { b with timer := none }
        ∧ FaultRaised .bladeTimeout { s with
            now := at' k, station := { s.station with blades := s.station.blades.set n.val { b with timer := none } } } t)
    ∧ (∀ k, s.lam.nipTimer = some k → ∃ t, exec .nipTimeout s = .next t
      ∧ t.now = at' k
      ∧ FaultRaised .nipTimeout { s with now := at' k, lam := { s.lam with nipTimer := none } } t)
    ∧ (∀ k, s.station.knifeTimer = some k → s.station.knife = .homing → ∃ t, exec .knifeTimeout s = .next t
      ∧ t.now = at' k ∧ t.station.knife = .unhomed ∧ t.station.knifeTimer = none
      ∧ FaultRaised .knifeTimeout { s with
          now := at' k, station := { s.station with knife := .unhomed, knifeTimer := none } } t)
    ∧ (∀ k e, s.station.knifeTimer = some k → s.station.knife = .traversingLR ∨ s.station.knife = .traversingRL →
      s.station.cycle = .stroke → s.current = some e → ∃ t, exec .knifeTimeout s = .next t
      ∧ t.now = at' k ∧ t.station.knife = .unhomed ∧ t.station.knifeTimer = none ∧ t.station.recut = true
      ∧ FaultRaised .knifeTimeout { s with
          now := at' k
          planner := { s.planner with queue := firstSet true .settling s.planner.queue }
          station := { s.station with cycle := .paused, knife := .unhomed, knifeTimer := none, recut := true } } t)


/-! ### Moves, devices and the knife -/

/-- R139, R142, R144, R117 to R119, R121 to R123, R8, R16: a "move ended". At rest or HELD it is recorded only, and a stop given by a fault goes to no owner; a free run goes on by another; the end of an approach or of a correction is an arrival. Within CUT_TOL of its trigger the entry is prepared (here with the knife not at a
home): the gate goes to DELIVERY for product pieces that are all eligible, with no inspect reject, and to SCRAP otherwise, INSPECT flagging the pieces that only the reject keeps out; the blades go to the lane set. A miss beyond BACK_MAX, or after two corrections, is flagged and prepared as it stands; any other is corrected by a creep, or asks one that the loop
holds. On a line that does not let the entry go on, the miss is flagged all the same, and the station is PAUSED.
The model's readings: the free run is issued in the same event (log entry 10); the end of a STOP-NOW in an approach is the arrival, whoever owns it (log entry 23); a miss is judged on |err| alone (log entry 35); a correction that a line does not let begin is not counted (log entry 57). -/
def Obligations.MovesEnd : Prop :=
  ∀ s : State, Settled s →
    let d (o : Outfeed) : Drives := { s.drives with outfeed := o, timeoutFlag := false }
    (s.moving = false → exec .moveEnded s = .next { s with drives := d s.drives.outfeed })
    ∧ (∀ m, s.drives.outfeed = .moving m → m.reports = false → s.station.cycle ≠ .preparing → s.freeCond = false →
      exec .moveEnded s = .next { s with drives := d .stopped })
    ∧ (∀ m, s.drives.outfeed = .moving m → m.reports = true → m.owner = .free → s.feeding = true → s.station.cycle = .idle →
      s.planner.target = none → s.drives.webSeq ≠ .draining → 0 < s.work .dMk →
      exec .moveEnded s = .next { s with drives := d (freeRunFrom s) })
    ∧ (∀ m e es, s.drives.outfeed = .moving m → m.reports = true →
      (s.station.cycle = .approach ∧ e.state = .active) ∨ (s.station.cycle = .correct ∧ e.state = .settling ∧ m.owner = .station) →
      s.planner.queue = e :: es → s.continuing = false →
      let err := s.p2 - e.trigger
      let missed := s.work .cutTol < err.natAbs ∧ (s.work .backMax < err ∨ 2 ≤ s.station.corrections)
      ∃ t, exec .moveEnded s = .next t
        ∧ t.station = { s.station with cycle := .paused, lastErr := some err }
        ∧ t.planner = { s.planner with queue := { e with state := .settling } :: es }
        ∧ t.panels = (if missed then
            flagged .laneLate (decide (s.work .rejectTol < err)) (e.lane.toList.map (·.owner.serial))
              (judgedCut s ((strokeCuts e).map (·.panel.serial)) err s.panels) else s.panels)
        ∧ t.drives = d .stopped ∧ t.line = s.line ∧ t.reg = s.reg ∧ t.lam = s.lam ∧ t.cursor1 = s.cursor1 ∧ t.cursor2 = s.cursor2)
    ∧ (∀ m e es, s.drives.outfeed = .moving m → m.reports = true →
      (s.station.cycle = .approach ∧ e.state = .active) ∨ (s.station.cycle = .correct ∧ e.state = .settling ∧ m.owner = .station) →
      s.planner.queue = e :: es → e.cut.isSome = true → s.continuing = true → s.station.recut = false →
      let err := s.p2 - e.trigger
      let own := (strokeCuts e).map (·.panel.serial)
      let lanes := (e.lane.map (·.lanes)).getD s.station.laneSet
      let prepared (pos : GatePos) (ps : List Panel) : Prop := ∃ t, exec .moveEnded s = .next t
        ∧ t.station = { s.station with cycle := .preparing, lastErr := some err, gate := gateAfter s pos, blades := bladesAfter s lanes }
        ∧ t.planner = { s.planner with queue := { e with state := .executing } :: es }
        ∧ t.drives = d .stopped ∧ t.panels = ps ∧ t.line = s.line ∧ t.reg = s.reg ∧ t.lam = s.lam
        ∧ t.cursor1 = s.cursor1 ∧ t.cursor2 = s.cursor2
      let rejects := s.work .inspectEnable = 1 ∧ s.inputs.inspectReject = true
      let gated (ps : List Panel) : Prop :=
        let eligible := severedBy e ≠ [] ∧ ∀ n ∈ severedBy e, deliverable ps n
        (eligible → ¬ rejects → prepared .delivery ps)
        ∧ (eligible → rejects → prepared .scrap (flagged .inspect true (severedBy e) ps))
        ∧ (¬ eligible → prepared .scrap ps)
      let miss := s.work .backMax < err ∨ 2 ≤ s.station.corrections
      let holds := s.drives.webSeq ≠ .draining ∧ (s.loop.zone = .empty ∨ s.loop.zone = .unknown)
      (err.natAbs ≤ s.work .cutTol → s.station.knife.atHome = false → gated s.panels)
      ∧ (s.work .cutTol < err.natAbs → miss → s.station.knife.atHome = false →
        gated (flagged .laneLate (decide (s.work .rejectTol < err)) (e.lane.toList.map (·.owner.serial)) (judgedCut s own err s.panels)))
      ∧ (s.work .cutTol < err.natAbs → ¬ miss →
        exec .moveEnded s = .next { s with
          planner := { s.planner with queue := { e with state := .settling } :: es }
          station := { s.station with cycle := .correct, lastErr := some err, corrections := s.station.corrections + 1 }
          drives := d (if holds then .held (.station .creep e.trigger) else
            .moving
              { kind := if e.trigger < s.p2 then .reverse else .forward, purpose := .creep, owner := .station
                distance := (e.trigger - s.p2).natAbs, speed := 10, endPoint := some e.trigger
                deadline := some (s.now + (3 * err.natAbs + 49) / 50 + s.workNat .moveTimeout) }) }))

/-- R147, R148, R110, R136, R173: the tail-out position is reached. The sequence is DRAINING, the infeed stands, the dancer check is suspended, and the entries beyond the limit, a_end's predicted outfeed coordinate plus D_MK, leave the queue, all but fixed ones. With nothing left to cut and the limit
reached, a WEB_END stop begins, and an IDLE station ends it at once in END_OF_WEB, every unfinished panel aborted.
That the tail-out watch that has fired waits for its command is the model's choice (log entry 8), and so are the order of the drop and of the release (log entry 17) and that a move under way runs on as issued (log entry 55). -/
def Obligations.TailOutDrains : Prop :=
  ∀ (s : State) (a : Int) (m : Move), Settled s → watchDue s.watches.tailOut = true → s.drives.aEnd = some a →
    s.drives.outfeed = .moving m → s.station.cycle ≠ .approach → (∀ p ∈ s.panels, p.state ≠ .atOutfeed) →
    s.planner.target = s.planner.queue.head?.map (·.trigger) →
    let limit := s.predict a + s.work .dMk
    let q := s.planner.queue.filter (fun e =>
      decide (e.state = .settling) || decide (e.state = .executing) || decide (e.trigger ≤ limit))
    (q ≠ [] ∨ s.p2 < limit → ∃ t, exec .tailOut s = .next t
      ∧ t.drives = { s.drives with webSeq := .draining, infeedRef := 0 }
      ∧ t.planner = { queue := q, target := q.head?.map (·.trigger), limit := some limit }
      ∧ t.loop = { s.loop with watching := false } ∧ t.watches.tailOut = none ∧ t.line = s.line ∧ t.station = s.station
      ∧ t.panels = s.panels ∧ t.reg = s.reg ∧ t.cursor1 = s.cursor1 ∧ t.cursor2 = s.cursor2
      ∧ t.lam.nip = s.lam.nip ∧ t.lam.heat = s.lam.heat)
    ∧ (s.planner.queue = [] → limit ≤ s.p2 → s.line.state = .running → s.station.cycle = .idle → ∃ t, exec .tailOut s = .next t
      ∧ t.line = { s.line with state := .endOfWeb, stop := some ⟨.controlled, .webEnd⟩ }
      ∧ t.drives.webSeq = .finishing ∧ t.drives.infeedRef = 0
      ∧ t.panels = s.panels.map (fun p => if p.state = .done then p else { p with state := .done, completion := some .aborted })
      ∧ t.planner = { queue := [], target := none, limit := some limit } ∧ t.lam.nip = nipAfterOpen s
      ∧ t.loop = { s.loop with watching := false } ∧ t.reg = s.reg ∧ t.cursor1 = s.cursor1)

/-- R123, R124, R126, R108, R130, R132: the inputs at the knife. A confirm that becomes active confirms its MOVING device; the last one that a cut waits for starts the traverse from the home the knife stands at, and the last one of a LANE entry completes it: its lane set is in force, and it leaves the queue (here as the last, so that the free run starts). Outside a traverse and a homing the knife's state follows its switches: a home while its switch is active, UNHOMED when it opens, and
from UNHOMED the home whose switch alone is active. The left switch ends a homing with KNIFE_HOMED.
The model's choices: a confirm's fall and the inspect-reject input come by DEVICE_CONFIRM (log entry 9), the knife's state with both switches active is R130 read as log entry 19 says, and the station's records return to 0, absent and clear as a LANE entry completes (log entry 52). -/
def Obligations.DevicesAndHomeSwitches : Prop :=
  ∀ s : State, Settled s →
    (∀ d, exec (.deviceConfirm d false) s = .next { s with inputs := setStationInput d false s.inputs })
    ∧ (s.station.cycle ≠ .preparing →
      (s.station.gate.commanded = .delivery → s.station.gate.confirmed = false →
        exec (.deviceConfirm .gateDelivery true) s = .next { s with
          inputs := { s.inputs with gateDelivery := true }
          station := { s.station with gate := { commanded := .delivery, confirmed := true, timer := none } } })
      ∧ (s.station.gate.commanded = .scrap → s.station.gate.confirmed = false →
        exec (.deviceConfirm .gateScrap true) s = .next { s with
          inputs := { s.inputs with gateScrap := true }
          station := { s.station with gate := { commanded := .scrap, confirmed := true, timer := none } } })
      ∧ (∀ (k : Fin 6) (b : Blade), s.station.blades[k.val]? = some b → b.confirmed = false →
        let st : Station := { s.station with blades := s.station.blades.set k.val { b with confirmed := true, timer := none } }
        (b.down = true → exec (.deviceConfirm (.bladeDown k) true) s = .next { s with
          inputs := { s.inputs with bladeDown := s.inputs.bladeDown ||| BitVec.twoPow 6 k }, station := st })
        ∧ (b.down = false → exec (.deviceConfirm (.bladeUp k) true) s = .next { s with
          inputs := { s.inputs with bladeUp := s.inputs.bladeUp ||| BitVec.twoPow 6 k }, station := st })))
    ∧ (∀ e es, s.station.cycle = .preparing → s.planner.queue = e :: es → e.state = .executing → e.cut.isSome = true →
      (∀ b ∈ s.station.blades, b.confirmed = true) → s.station.gate.commanded = .delivery → s.station.gate.confirmed = false →
      (s.station.knife = .homeL ∨ s.station.knife = .homeR) → s.moving = false → s.continuing = true →
      exec (.deviceConfirm .gateDelivery true) s = .next { s with
        inputs := { s.inputs with gateDelivery := true }
        station := { s.station with
          gate := { commanded := .delivery, confirmed := true, timer := none }, cycle := .stroke
          knife := if s.station.knife = .homeL then .traversingLR else .traversingRL
          knifeTimer := some ⟨s.now, s.workNat .knifeTimeout⟩ } })
    ∧ (∀ (e : Entry) (l : LaneChange) (k : Fin 6) (b : Blade), s.station.cycle = .preparing → s.planner.queue = [e] → e.state = .executing →
      e.cut = none → e.lane = some l → s.station.blades[k.val]? = some b → b.confirmed = false →
      ((s.station.blades.set k.val { b with confirmed := true }).all (·.confirmed)) = true →
      s.line.state = .running → s.drives.outfeed = .stopped → (∀ p ∈ s.panels, p.state ≠ .atOutfeed) → s.drives.webSeq ≠ .draining →
      0 < s.work .dMk →
      let input : StationInput := if b.down = true then .bladeDown k else .bladeUp k
      exec (.deviceConfirm input true) s = .next { s with
        inputs := setStationInput input true s.inputs
        station := { s.station with
          blades := s.station.blades.set k.val { b with confirmed := true, timer := none }
          cycle := .idle, laneSet := l.lanes, corrections := 0, lastErr := none, recut := false }
        planner := { s.planner with queue := [], target := none }
        drives := { s.drives with outfeed := freeRunFrom s } })
    ∧ (s.station.cycle ≠ .preparing → ∀ h v,
      (h = .left → v ≠ s.inputs.homeL) → (h = .right → v ≠ s.inputs.homeR) →
      s.station.knife = .homeL ∨ s.station.knife = .homeR ∨ s.station.knife = .unhomed →
      let l := if h = .left then v else s.inputs.homeL
      let r := if h = .right then v else s.inputs.homeR
      exec (.homeSwitchChange h v) s = .next { s with
        inputs := { s.inputs with homeL := l, homeR := r }
        station := { s.station with knife :=
          if s.station.knife = .unhomed then
            (if l = true ∧ r = false then .homeL else if r = true ∧ l = false then .homeR else .unhomed)
          else if (s.station.knife = .homeL ∧ l = true) ∨ (s.station.knife = .homeR ∧ r = true) then s.station.knife
          else .unhomed } })
    ∧ (s.station.cycle ≠ .preparing → s.station.knife = .homing →
      exec .homingComplete s = .next (attnUpdate (queueEvent (.knifeHomed .left) { s with
        inputs := { s.inputs with homeL := true }, station := { s.station with knife := .homeL, knifeTimer := none } })))

/-- R126, R127, R108, R7, R8, R12, R112, R114: a stroke completes at the far home. On a line that has stopped (a fault taken during the traverse), the entry leaves the queue, its cut and its partner's are credited by the gate's position, a DONE panel left as it is, its lane set is in force, and the station is IDLE with its records dropped. In RUNNING, with
nothing more to cut, the free run starts; with a further entry ahead of P2, the station takes that up and approaches it, or asks a move that the loop holds. A proof panel's last cut ends the run in HOLDING by a CYCLE_END stop. The stroke ends a stop that waits for it (R170, R171, R173), its record kept: one of class CONTROLLED in HOLDING, or with cause WEB_END in END_OF_WEB, what is unfinished aborted and the queue emptied; one of class CYCLE_END in HOLDING, the infeed at rest. A stroke whose entry CLEAR has taken away only brings the knife home.
That STROKE_COMPLETE sets the far switch is the model's reading (log entry 19), and so are the order in which the event ends (log entries 10 and 15), HOLDING before any take-up (log entry 44) and the queue emptied in END_OF_WEB (log entry 14). -/
def Obligations.StrokeCompletes : Prop :=
  ∀ s : State, Settled s → s.station.knife = .traversingLR ∨ s.station.knife = .traversingRL → s.station.cycle = .stroke →
    (∀ p ∈ s.panels, p.state ≠ .atOutfeed) → s.drives.webSeq ≠ .draining →
    let right : Bool := decide (s.station.knife = .traversingLR)
    let i : Inputs := { s.inputs with homeL := s.inputs.homeL || !right, homeR := s.inputs.homeR || right }
    let home : KnifeState := if right = true then .homeR else .homeL
    let gone : Station := { s.station with
      cycle := .idle, corrections := 0, lastErr := none, recut := false, knife := home, knifeTimer := none }
    (∀ e es, s.planner.queue = e :: es → e.state = .executing → e.cut.isSome = true →
      let stroke (ps : List Panel) (c : CutRef) : List Panel := ps.map (fun p =>
        if p.serial = c.panel.serial then strokeOn (decide (s.station.gate.commanded = .delivery)) c.index p else p)
      let credited := (strokeCuts e).foldl stroke s.panels
      let proof := ∃ c ∈ strokeCuts e, (∃ p ∈ s.panel? c.panel, p.proof = true ∧ p.state ≠ .done)
        ∧ ∃ q ∈ credited.find? (fun q => q.serial == c.panel.serial), q.state = .done
      let st : Station := { gone with laneSet := (e.lane.map (·.lanes)).getD s.station.laneSet }
      (s.line.state ≠ .running → s.line.state ≠ .stopping → ∃ t, exec .strokeComplete s = .next t
        ∧ t.panels = credited ∧ t.station = st ∧ t.inputs = i ∧ t.line = s.line ∧ t.drives = s.drives
        ∧ t.planner = { s.planner with queue := es, target := es.head?.map (·.trigger) }
        ∧ t.reg = s.reg ∧ t.cursor1 = s.cursor1 ∧ t.cursor2 = s.cursor2 ∧ t.lam = s.lam)
      ∧ (s.line.state = .running → es = [] → s.drives.outfeed = .stopped → 0 < s.work .dMk → ¬ proof →
        ∃ t, exec .strokeComplete s = .next t
          ∧ t.panels = credited ∧ t.station = st ∧ t.inputs = i ∧ t.line = s.line
          ∧ t.drives = { s.drives with outfeed := freeRunFrom s }
          ∧ t.planner = { s.planner with queue := [], target := none }
          ∧ t.reg = s.reg ∧ t.cursor1 = s.cursor1 ∧ t.cursor2 = s.cursor2 ∧ t.lam = s.lam)
      ∧ (∀ f fs, s.line.state = .running → es = f :: fs → s.p2 < f.trigger → s.drives.outfeed = .stopped → ¬ proof →
        ∃ t, exec .strokeComplete s = .next t
          ∧ t.panels = credited ∧ t.station = { st with cycle := .approach } ∧ t.inputs = i ∧ t.line = s.line
          ∧ t.drives = { s.drives with
              outfeed := if s.loop.zone = .empty ∨ s.loop.zone = .unknown then .held (.station .approach f.trigger)
                else movedTo s s.loop.zone s.drives.setpoint .approach .station f.trigger }
          ∧ t.planner = { s.planner with queue := { f with state := .active } :: fs, target := some f.trigger }
          ∧ t.reg = s.reg ∧ t.cursor1 = s.cursor1 ∧ t.cursor2 = s.cursor2 ∧ t.lam = s.lam)
      ∧ (s.line.state = .running → es = [] → s.drives.outfeed = .stopped → proof →
        ∃ t, exec .strokeComplete s = .next t
          ∧ t.panels = credited ∧ t.station = st
          ∧ t.line = { s.line with state := .holding, stop := some ⟨.cycleEnd, .proof⟩ }
          ∧ t.drives.outfeed = .stopped ∧ t.drives.infeedRef = 0)
      ∧ (∀ c, s.line.state = .stopping → s.line.stop = some ⟨.controlled, c⟩ → c ≠ .webEnd →
        ∃ t, exec .strokeComplete s = .next t
          ∧ t.panels = credited ∧ t.station = st ∧ t.inputs = i ∧ t.line = { s.line with state := .holding }
          ∧ t.planner = { s.planner with queue := es, target := es.head?.map (·.trigger) }
          ∧ t.drives = s.drives ∧ t.lam.nip = s.lam.nip ∧ t.reg = s.reg ∧ t.cursor1 = s.cursor1 ∧ t.cursor2 = s.cursor2
          ∧ (s.link.events.length ≤ 63 → t.line.event ∈ t.link.events))
      ∧ (s.line.state = .stopping → s.line.stop = some ⟨.controlled, .webEnd⟩ →
        ∃ t, exec .strokeComplete s = .next t
          ∧ t.panels = credited.map (fun p => if p.state = .done then p else { p with state := .done, completion := some .aborted })
          ∧ t.station = st ∧ t.inputs = i ∧ t.line = { s.line with state := .endOfWeb }
          ∧ t.planner = { s.planner with queue := [], target := none }
          ∧ t.drives = s.drives ∧ t.lam.nip = nipAfterOpen s ∧ t.reg = s.reg ∧ t.cursor1 = s.cursor1
          ∧ (s.link.events.length ≤ 63 → t.line.event ∈ t.link.events))
      ∧ (∀ c, s.line.state = .stopping → s.line.stop = some ⟨.cycleEnd, c⟩ → s.drives.outfeed = .stopped →
        ∃ t, exec .strokeComplete s = .next t
          ∧ t.panels = credited ∧ t.station = st ∧ t.inputs = i ∧ t.line = { s.line with state := .holding }
          ∧ t.planner = { s.planner with queue := es, target := es.head?.map (·.trigger) }
          ∧ t.drives = { s.drives with infeedRef := 0 } ∧ t.lam.nip = s.lam.nip
          ∧ t.reg = s.reg ∧ t.cursor1 = s.cursor1 ∧ t.cursor2 = s.cursor2
          ∧ (s.link.events.length ≤ 63 → t.line.event ∈ t.link.events)))
    ∧ (s.planner.queue = [] → s.line.state ≠ .running → s.line.state ≠ .stopping →
      exec .strokeComplete s = .next { s with inputs := i, station := gone })

/-- R58, R61, R138, R144, R164, R165, R172, R181: an input that goes inactive (WEB1: present again) changes its reading and nothing else; no fault, stop or report is undone.
That such a command only sets the level is the model's reading of the table (log entry 18). -/
def Obligations.InputsClear : Prop :=
  ∀ s : State, Settled s →
    let only (i : Inputs) : Host.Outcome State Fault Refusal := .next { s with inputs := i }
    exec .eStopRelease s = only { s.inputs with eStop := false }
    ∧ exec .inDriveClear s = only { s.inputs with inDrive := false }
    ∧ exec .outDriveClear s = only { s.inputs with outDrive := false }
    ∧ exec .filmOutClear s = only { s.inputs with filmOut := false }
    ∧ exec .stackFullClear s = only { s.inputs with stackFull := false }
    ∧ exec .webPresent s = only { s.inputs with web1 := true }
    ∧ exec .spliceInputClear s = only { s.inputs with splice := false }
    ∧ exec .filmSpliceClear s = only { s.inputs with filmSplice := false }

/-! ### Registration and triggers -/

/-- R74: a match made in SEEK sets the anchor and leaves SEEK, for CAPTURE in AUTO and for the manual choice in MANUAL; coast_count becomes 0, and nothing else of the unit changes, whatever the prediction and the anchor were. -/
def Obligations.SeekMatchSetsAnchor : Prop :=
  ∀ (s : State) (a b bHat : Int), s.reg.mode = .seek →
    (s.reg.lock = .auto →
      (regMatch s a b bHat).reg = { s.reg with anchor := some (a, b), mode := .capture, coastCount := 0 })
    ∧ (∀ c : Choice, s.reg.lock = .manual → s.reg.choice = c →
      (regMatch s a b bHat).reg = { s.reg with
        anchor := some (a, b), mode := (match c with | .capture => .capture | .follow => .follow), coastCount := 0 })

/-- R75 to R78, R80, R81: matches out of SEEK, and coasts. R71, R73, R82, R83, R88, R89, R92: a valid bar at M2 that resolves the mark in its window. A match over a span of SPAN_MIN or more moves the stretch a half (CAPTURE) or an eighth (FOLLOW) of the way to the measured one, within S_MAX, and takes the anchor; in AUTO its error moves the mode, and in FOLLOW is judged by the register detector. A coast leaves
anchor and stretch, counts up to 15, and drops the mode at N_SEEK and N_COAST.
The bar's leading edge, valid in length and within the window, is the mark's coordinate, and the unit takes the match; then the points of the Disturbance List at or before the mark are consumed, which in AUTO costs the verdict and FOLLOW. A head puts its panel AT_OUTFEED, UNLOCKED if in AUTO the register state is OUT_OF_REGISTER, and STRETCH_LIMIT if its measured stretch was clamped, with its outfeed
length and triggers (here of a panel whose tail M1 has not resolved, and for which the queue has no room); the cursor awaits the panel's tail. A tail is checked against the panel's outfeed length: within TAIL_TOL the measured length and its triggers take over (here of a panel still AT_OUTFEED), beyond it SCALE_FAULT is given, rejecting under AUTO.
The model's choices: with LOCK_IN above LOCK_OUT the row of R80 within LOCK_IN is taken (log entry 36); a bar that begins after the take-up resolves the mark, were it the second in the window of the mark before (log entry 45). The causes of the events these queue (log entry 24) are not stated. -/
def Obligations.MatchesAndCoasts : Prop :=
  (∀ (s : State) (a b bHat ak bk : Int), s.reg.mode ≠ .seek → s.reg.anchor = some (ak, bk) →
    let d := a - ak
    let e : Int := (b - bHat).natAbs
    let x := (regMatch s a b bHat).reg
    let meas := roundDiv ((b - bk - d) * 1000000) d.toNat
    let new := s.reg.s + roundDiv (meas - s.reg.s) (if s.reg.mode = .follow then 8 else 2)
    x.coastCount = 0 ∧ x.lock = s.reg.lock ∧ x.choice = s.reg.choice ∧ x.points = s.reg.points
    ∧ (d ≤ 0 ∨ d < s.work .spanMin → x.s = s.reg.s ∧ x.anchor = s.reg.anchor)
    ∧ (0 < d → s.work .spanMin ≤ d → x.s = clampInt (-(s.work .sMax)) (s.work .sMax) new ∧ x.anchor = some (a, b))
    ∧ (s.reg.lock = .manual → x.mode = s.reg.mode ∧ x.register = s.reg.register ∧ x.lockCount = s.reg.lockCount)
    ∧ (s.reg.lock = .auto → s.reg.mode = .capture →
        x.mode = (if e ≤ s.work .trackIn then .follow else .capture) ∧ x.register = s.reg.register
        ∧ x.lockCount = s.reg.lockCount)
    ∧ (s.reg.lock = .auto → s.reg.mode = .follow →
        (s.work .trackOut < e → x.mode = .capture ∧ x.register = .outOfRegister ∧ x.lockCount = 0)
        ∧ (e ≤ s.work .trackOut → x.mode = .follow
          ∧ (e ≤ s.work .lockIn → x.lockCount = min (s.reg.lockCount + 1) (s.workNat .nLock)
              ∧ x.register = (if s.workNat .nLock ≤ s.reg.lockCount + 1 then .inRegister else s.reg.register))
          ∧ (s.work .lockIn < e → x.lockCount = 0
              ∧ x.register = (if s.reg.register = .inRegister ∧ s.work .lockOut < e then .outOfRegister else s.reg.register)))))
  ∧ (∀ s : State,
    let n := min (s.reg.coastCount + 1) 15
    let x := (regCoast s).reg
    x.anchor = s.reg.anchor ∧ x.s = s.reg.s ∧ x.coastCount = n ∧ x.points = s.reg.points ∧ x.lock = s.reg.lock
    ∧ x.choice = s.reg.choice
    ∧ x.mode = (if s.workNat .nSeek ≤ n then .seek
        else if s.reg.lock = .auto ∧ s.workNat .nCoast ≤ n ∧ s.reg.mode = .follow then .capture else s.reg.mode)
    ∧ (s.reg.lock = .auto → x.register = .outOfRegister ∧ x.lockCount = 0)
    ∧ (s.reg.lock = .manual → x.register = s.reg.register ∧ x.lockCount = s.reg.lockCount))
  ∧ (∀ (s : State) (l : Int) (r : PanelRef) (m : Mark) (w : Window2) (p : Panel), Settled s → s.inputs.dark2 = true →
    s.sensor2.bar = .counting l false → s.work .markMin ≤ s.p2 - l → s.p2 - l ≤ s.work .markMax → s.cursor2.state = .window →
    s.cursor2.expect = some ⟨r, m, some w⟩ → w.lower ≤ l → l ≤ w.upper → s.panel? r = some p →
    (∀ q ∈ s.panels, q.serial = r.serial → q = p) →
    let reg := consumed w.a (regMatch s w.a l w.predicted).reg
    let resolved (q : Panel) (c : Cursor2) : Prop := ∃ t, exec (.barTrailingEdge .m2) s = .next t
      ∧ t.panels = s.panels.map (fun o => if o.serial = p.serial then q else o)
      ∧ t.cursor2 = c ∧ t.reg = reg
      ∧ t.sensor2 = { s.sensor2 with bar := .none, threshold := s.work .threshM2 }
      ∧ t.watches.m2Window = none ∧ t.watches.bar2 = none ∧ t.inputs = { s.inputs with dark2 := false }
      ∧ t.planner = s.planner ∧ t.station = s.station ∧ t.drives = s.drives ∧ t.line = s.line ∧ t.lam = s.lam
      ∧ t.cursor1 = s.cursor1 ∧ t.sensor1 = s.sensor1 ∧ t.roll1 = s.roll1 ∧ t.roll2 = s.roll2
    let triggers (b len : Int) : Option (List Int) :=
      some (p.cuts.map (fun x => b + roundDiv (x * len) p.lNom.toNat + s.work .dMk))
    let limit := match s.reg.anchor with
      | some (ak, bk) =>
        let d := w.a - ak
        let new := s.reg.s + roundDiv (roundDiv ((l - bk - d) * 1000000) d.toNat - s.reg.s) (if s.reg.mode = .follow then 8 else 2)
        decide (s.reg.mode ≠ .seek ∧ 0 < d ∧ s.work .spanMin ≤ d ∧ clampInt (-(s.work .sMax)) (s.work .sMax) new ≠ new)
      | none => false
    let raise (c : Bool) (f : Flag) (fs : List Flag) : List Flag := if c = true ∧ f ∉ fs then fs ++ [f] else fs
    (m = .head → p.state = .infeed → p.aTail = none → p.bTail = none → p.completion = none →
      (∀ q ∈ s.panels, q.state = .atOutfeed ∨ q.serial = p.serial → 32 < q.cuts.length + s.planner.queue.length) →
      let len := p.lNom + roundDiv (p.lNom * reg.s) 1000000
      resolved
        { p with
          bHead := some ⟨l, false⟩, state := .atOutfeed, l2 := some ⟨len, .nominal⟩, triggers := triggers l len
          flags := raise limit .stretchLimit (raise (decide (reg.lock = .auto ∧ reg.register = .outOfRegister)) .unlocked p.flags) }
        { state := .await, expect := some ⟨r, .tail, none⟩, lastHead := some r })
    ∧ (∀ h l2, m = .tail → p.bHead = some h → p.l2 = some l2 → p.state ≠ .done → (∀ q ∈ s.panels, q.state ≠ .infeed) →
      let len := l - h.pos
      (s.work .tailTol < (len - l2.len).natAbs →
        resolved
          { p with
            bTail := some ⟨l, false⟩, flags := raise true .scaleFault p.flags
            scaleRejecting := p.scaleRejecting || decide (s.reg.lock = .auto) }
          { state := .idle, expect := none, lastHead := none })
      ∧ ((len - l2.len).natAbs ≤ s.work .tailTol → p.state = .atOutfeed →
        resolved { p with bTail := some ⟨l, false⟩, l2 := some ⟨len, .m2⟩, triggers := triggers h.pos len }
          { state := .idle, expect := none, lastHead := none })))

/-- R69, R70, R68: the M2 cursor takes up a mark whose infeed coordinate it has: the prediction by anchor and stretch, or by K without an anchor; the window by the mode's half-width, its lower edge not below P2; and the watch on its upper edge. R88, R89: a head handed to the planner gives the panel
its outfeed length and the triggers b_head + round(x × L2 / L_nom) + D_MK, here of a panel whose commit must wait. R97, R98, R94, R110: an entry is placed at its trigger where nothing is in the way and the limit allows it; the entry that counts is joined by it where it can take it, MERGED to both panels for two cuts, and otherwise
pushes it CUT_MIN_SEP past itself, each judged. R99 to R105: the first panel not yet committed is committed where it has room, its cuts placed in cut order behind the entries held, its lane change riding on the last of them or, with none, D_SK ahead of its first cut. R91, R93, R94, R106: a refresh gives the panel its length, moves its free entries and its LANE entry to the new
triggers, by whatever difference a new D_MK makes (R89), and holds and judges a fixed or merged one. R96, R107, R115: the target follows the first entry, and an approach with it.
Stated where the entry that counts is the one R97 and R94 name; which counts otherwise is the model's choice (log entry 39), and so are these: a move passes no free cut of its own panel, which the same refresh has placed again (log entry 38); a refresh places the LANE entry after the cuts, whichever way it goes (log entry 25); and CUT_FAULT for a distance beyond REJECT_TOL and within a CUT_TOL above it (log entry 50). -/
def Obligations.PredictionsAndTriggers : Prop :=
  (∀ (s : State) (r : PanelRef) (m : Mark) (a : Int), s.next2 = some (r, m, some a) →
    let w := match s.reg.mode with
      | .seek => s.work .wSeek
      | .capture => s.work .wAcq
      | .follow => s.work .wTrk
    let window (b : Int) : Prop :=
      (setExpect2 s).cursor2.state = .window
      ∧ (setExpect2 s).cursor2.expect = some ⟨r, m, some
          { a, takeUp := s.p2, predicted := b, half := w, lower := max (b - w) s.p2, upper := b + w }⟩
      ∧ (setExpect2 s).watches.m2Window = some { limit := b + w, beyond := decide (b + w < s.p2) }
      ∧ (setExpect2 s).reg = s.reg ∧ (setExpect2 s).panels = s.panels
    (∀ ak bk, s.reg.anchor = some (ak, bk) → window (bk + (a - ak) + roundDiv ((a - ak) * s.reg.s) 1000000))
    ∧ (∀ k, s.reg.anchor = none → s.loop.k = some k → window (a + k)))
  ∧ (∀ (s : State) (p : Panel) (h c : Coord), s.panel? p.ref = some p → p.aHead = some h → p.bHead = some c →
    (∀ q ∈ s.panels, q.serial = p.serial → q = p) →
    let toBe := (s.planner.queue.filterMap (·.lane)).getLast?.elim s.station.laneSet (·.lanes)
    (∀ q, s.panels.find? (fun q => decide (q.state.rank < 3)) = some q → q.state = .atOutfeed →
      32 < q.cuts.length + (if q.lanes = toBe then 0 else 1) + s.planner.queue.length) →
    let len := match p.aTail with
      | some t => (t.pos - h.pos) + roundDiv ((t.pos - h.pos) * s.reg.s) 1000000
      | none => p.lNom + roundDiv (p.lNom * s.reg.s) 1000000
    let q : Panel := { p with
      l2 := some ⟨len, if p.aTail.isSome = true then .m1 else .nominal⟩
      triggers := some (p.cuts.map (fun x => c.pos + roundDiv (x * len) p.lNom.toNat + s.work .dMk)) }
    planHead p.ref s = { s with panels := s.panels.map (fun o => if o.serial = p.serial then q else o) })
  ∧ (∀ (s : State) (e : Entry) (old : Option Int), QueueStrict s → 0 < s.work .cutMinSep →
    let q := s.planner.queue
    let x := e.trigger
    let within (y : Int) : Prop := ∀ l ∈ s.planner.limit, y ≤ l
    let put (y : Int) : List Entry :=
      q.filter (fun d => decide (d.trigger < y)) ++ { e with state := .pending, trigger := y } :: q.filter (fun d => decide (y < d.trigger))
    let became (ps : List Panel) (es : List Entry) : Prop :=
      place old e s = { s with panels := ps, planner := { s.planner with queue := es } }
    let own (d : Entry) : Prop := (d.state = .pending ∨ d.state = .active) ∧ d.partner = none
      ∧ ∃ n ∈ (e.cut.map (·.panel.serial)).or (e.lane.map (·.owner.serial)), ∃ k ∈ d.cut, k.panel.serial = n
    let meets (o : Option Int) (y : Int) (d : Entry) : Prop := (d.trigger - y).natAbs < s.work .cutMinSep
      ∨ ((d.state = .settling ∨ d.state = .executing) ∧ y ≤ d.trigger)
      ∨ (¬ own d ∧ ∃ z ∈ o, (z < d.trigger ∧ d.trigger < y) ∨ (y < d.trigger ∧ d.trigger < z))
    let before (c d : Entry) : Prop :=
      (old = none → (c.trigger - x).natAbs < (d.trigger - x).natAbs
        ∨ ((c.trigger - x).natAbs = (d.trigger - x).natAbs ∧ c.trigger ≤ d.trigger))
      ∧ ∀ o ∈ old, if o ≤ x then o ≤ c.trigger ∧ c.trigger ≤ d.trigger else c.trigger ≤ o ∧ d.trigger ≤ c.trigger
    ((∀ d ∈ q, ¬ meets old x d) → within x → became s.panels (put x))
    ∧ ((∀ d ∈ q, ¬ meets old x d) → ¬ within x → place old e s = s)
    ∧ (∀ c ∈ q, meets old x c → (∀ d ∈ q, meets old x d → before c d) →
      let y := c.trigger + s.work .cutMinSep
      let joined (c' : Entry) : List Entry := q.map (fun d => if d = c then c' else d)
      let free := c.state = .pending ∨ c.state = .active
      (∀ n, e.cut = some n → e.lane = none → e.partner = none →
        let judged (d : Int) (ps : List Panel) : List Panel := judgedCut s [n.panel.serial] d ps
        (∀ b, free → c.cut = some b → c.partner = none → b.panel.serial ≠ n.panel.serial →
          became (judged (c.trigger - x) (flagged .merged true [b.panel.serial, n.panel.serial] s.panels)) (joined { c with partner := some n }))
        ∧ (free → c.cut = none → became (judged (c.trigger - x) s.panels) (joined { c with cut := some n }))
        ∧ (¬ free ∨ (∃ b ∈ c.cut, c.partner.isSome = true ∨ b.panel.serial = n.panel.serial) → (∀ d ∈ q, ¬ meets none y d) → within y →
          became (judged (y - x) s.panels) (put y)))
      ∧ (∀ l o t ts, e.cut = none → e.lane = some l → s.panel? l.owner = some o → o.triggers = some (t :: ts) →
        let late (y : Int) : List Panel := flagged .laneLate (decide (s.work .rejectTol < y - (t - s.work .dSk))) [l.owner.serial] s.panels
        (free → c.cut.isSome = true → c.lane = none → became (late c.trigger) (joined { c with lane := some l }))
        ∧ (¬ free ∨ c.lane.isSome = true → (∀ d ∈ q, ¬ meets none y d) → within y → became (late y) (put y)))))
  ∧ (∀ (s : State) (p : Panel) (t : Int) (ts : List Int), QueueStrict s → 0 < s.work .cutMinSep → 0 < s.work .dSk →
    s.panels.find? (fun q => decide (q.state.rank < 3)) = some p → p.state = .atOutfeed → p.triggers = some (t :: ts) →
    ts.length + 1 = p.cuts.length → (∀ q ∈ s.panels, q.state = .atOutfeed → q.serial = p.serial) → s.station.cycle ≠ .approach →
    p.cuts.length + 1 + s.planner.queue.length ≤ 32 → (t :: ts).Pairwise (fun a b => a + s.work .cutMinSep ≤ b) →
    (∀ d ∈ s.planner.queue, d.trigger + s.work .cutMinSep ≤ t) → (∀ l ∈ s.planner.limit, ∀ x ∈ t :: ts, x ≤ l) →
    let cuts : List Entry := (t :: ts).zipIdx.map (fun x => { cut := some ⟨p.ref, x.2 + 1⟩, trigger := x.1 })
    let toBe := (s.planner.queue.filterMap (·.lane)).getLast?.elim s.station.laneSet (·.lanes)
    let change : LaneChange := ⟨p.lanes, p.ref⟩
    let committed (q : List Entry) : Prop := tryCommits s = { s with
      panels := s.panels.map (fun o => if o.serial = p.serial then { o with state := .committed } else o)
      planner := { s.planner with queue := q, target := q.head?.map (·.trigger) } }
    (p.lanes = toBe → committed (s.planner.queue ++ cuts))
    ∧ (∀ ds d, p.lanes ≠ toBe → s.planner.queue = ds ++ [d] → d.cut.isSome = true → d.lane = none → d.state ≠ .executing →
      d.trigger ≤ t - s.work .dSk → committed (ds ++ { d with lane := some change } :: cuts))
    ∧ (p.lanes ≠ toBe → s.planner.queue = [] → s.work .cutMinSep ≤ s.work .dSk →
      committed ({ cut := none, lane := some change, trigger := t - s.work .dSk } :: cuts)))
  ∧ (∀ (s : State) (p : Panel) (b : Coord) (l : Length2) (olds : List Int), 0 < s.work .cutMinSep → s.panel? p.ref = some p →
    (∀ q ∈ s.panels, q.serial = p.serial → q = p) → p.state = .committed ∨ p.state = .cutting → p.bHead = some b → p.triggers = some olds →
    olds.length = p.cuts.length → s.planner.limit = none → s.station.cycle ≠ .approach →
    let news := p.cuts.map (fun x => b.pos + roundDiv (x * l.len) p.lNom.toNat + s.work .dMk)
    let entries (ts : List Int) (k : Nat) : List Entry :=
      (ts.zipIdx.drop k).map (fun x => { cut := some ⟨p.ref, x.2 + 1⟩, trigger := x.1 })
    let apart (k : Nat) : Prop := (news.drop k).Pairwise (fun a b => a + s.work .cutMinSep ≤ b)
    let refreshed (ts : List Int) (ps : List Panel → List Panel) (q : List Entry) : Prop := refresh p.ref l s = { s with
      panels := ps (s.panels.map (fun o => if o.serial = p.serial then { p with l2 := some l, triggers := some ts } else o))
      planner := { s.planner with queue := q, target := q.head?.map (·.trigger) } }
    (∀ k, s.planner.queue = entries olds k → apart k → refreshed (olds.take k ++ news.drop k) id (entries news k))
    ∧ (∀ (c : LaneChange) (g t : Int), s.planner.queue = { cut := none, lane := some c, trigger := g } :: entries olds 0 → c.owner.serial = p.serial →
      news.head? = some t → apart 0 → s.work .cutMinSep ≤ s.work .dSk →
      refreshed news id ({ cut := none, lane := some c, trigger := t - s.work .dSk } :: entries news 0))
    ∧ (∀ e n new, s.planner.queue = [e] → e.cut = some ⟨p.ref, n + 1⟩ → (∀ c ∈ e.partner, c.panel.serial ≠ p.serial) → news[n]? = some new →
      (e.state = .settling ∨ e.state = .executing → refreshed olds (judgedCut s [p.serial] (e.trigger - new)) [e])
      ∧ (e.state = .pending ∨ e.state = .active → e.partner.isSome = true →
        refreshed (olds.set n new) (judgedCut s [p.serial] (e.trigger - new)) [e])))
  ∧ (∀ s : State,
    let handed (e : Entry) (es : List Entry) (o : Outfeed) : Prop := targetUpdate s = { s with
      planner := { s.planner with
        queue := { e with state := .active } :: es.map (fun d => if d.state = .active then { d with state := .pending } else d)
        target := some e.trigger }
      drives := { s.drives with outfeed := o } }
    (s.station.cycle ≠ .approach →
      targetUpdate s = { s with planner := { s.planner with target := s.planner.queue.head?.map (·.trigger) } })
    ∧ (∀ e es, s.station.cycle = .approach → s.planner.queue = e :: es → s.planner.target = some e.trigger → handed e es s.drives.outfeed)
    ∧ (∀ e es m o, s.station.cycle = .approach → s.planner.queue = e :: es → s.planner.target = some o → o ≠ e.trigger →
      s.drives.outfeed = .moving m → s.drives.webSeq = .draining ∨ (s.loop.zone ≠ .empty ∧ s.loop.zone ≠ .unknown) → s.p2 < e.trigger →
      (o < e.trigger ∨ s.work .stopMin ≤ e.trigger - s.p2 →
        handed e es (movedTo s s.loop.zone s.drives.setpoint .approach .station e.trigger))
      ∧ (e.trigger < o → e.trigger - s.p2 < s.work .stopMin →
        handed e es (.moving { stopNow m m.owner true with purpose := .approach, deadline := some (s.now + s.workNat .moveTimeout) })))
    ∧ (∀ m o, s.station.cycle = .approach → s.planner.queue = [] → s.planner.target = some o → s.drives.outfeed = .moving m →
      targetUpdate s = { s with
        planner := { s.planner with target := none }
        station := { s.station with cycle := .idle, corrections := 0, lastErr := none, recut := false }
        drives := { s.drives with outfeed := .moving { m with owner := .free, purpose := .freeRun } } }))

/-! ### What every step keeps -/

/-- What a power-on of a blank store leaves is sound and settled: levels, capacities, panels, registration, queue and calibration.
The straps, the input levels and the blank store of `State.reset` are the model's choices (log entries 1 and 2), so which of the states after a power-on this is, is the model's. -/
def Obligations.ResetIsSound : Prop :=
  Settled State.reset ∧ InfeedFollows State.reset ∧ AttnFollows State.reset ∧ EnablesFollow State.reset ∧ LinkFits State.reset
    ∧ SlotsFit State.reset ∧ PanelsSound State.reset ∧ StretchHeld State.reset ∧ PointsOrdered State.reset
    ∧ QueueAscending State.reset ∧ QueueStrict State.reset ∧ CalSound State.reset
    ∧ PiecesCounted State.reset ∧ InPlanOrder State.reset

/-- R136, R196, R209, R210: after every step the infeed reference is the least of its four allowances: the setpoint; the loop's, by its zone; the laminator's, all or nothing; and the line's, nothing outside the feeding states and from tail-out on. ATTN stands at the level of its terms, and the enables and the reset output follow the reset. -/
def Obligations.LevelsKept : Prop :=
  ∀ s t : State, InfeedFollows s → AttnFollows s → EnablesFollow s → step s = .next t →
    InfeedFollows t ∧ AttnFollows t ∧ EnablesFollow t
    ∧ t.drives.infeedRef =
        min (min t.drives.setpoint
            (match t.loop.zone with
              | .empty => t.drives.setpoint
              | .low => t.drives.setpoint
              | .normal => t.drives.setpoint
              | .high => t.drives.setpoint / 2
              | .full => 0
              | .unknown => 0))
          (min
            (if t.straps.laminator = false ∨ ((t.lam.heat = .ready ∨ t.lam.heat = .off) ∧ t.lam.nip = .closed) then t.drives.setpoint else 0)
            (if (t.line.state = .running ∨ (t.line.state = .stopping ∧ ∃ r ∈ t.line.stop, r.cls = .cycleEnd))
                ∧ (t.drives.webSeq = .none ∨ t.drives.webSeq = .feedingOut) then t.drives.setpoint else 0))

/-- R2, R195, R188: no step brings more than 48 panels into the list, more than 64 events into the queue, or more than 2 frames into the buffer, and a reply being sent keeps its frame. -/
def Obligations.CapacitiesKept : Prop :=
  ∀ s t : State, LinkFits s → SlotsFit s → step s = .next t → LinkFits t ∧ SlotsFit t

/-- R3, R4, R12, R13, R23, R14, R7, R8: in every step, the panels keep their completion codes and counters sound and their serial numbers apart; a panel of before that is still in the list has the plan fields it had, and has gone back to no earlier state. With the calibration sound and the queue strict, every panel counts at most n - 1 pieces, those still to be severed included; and the
states of the panels keep to plan order.
Serial numbers are the model's own (log entry 30). -/
def Obligations.PanelsSoundKept : Prop :=
  ∀ s t : State, PanelsSound s → step s = .next t →
    PanelsSound t
    ∧ (∀ q ∈ t.panels, q.serial < s.nextSerial → ∃ p ∈ s.panels, p.plan = q.plan ∧ p.state.rank ≤ q.state.rank)
    ∧ (CalSound s → QueueStrict s → PiecesCounted s → PiecesCounted t)
    ∧ (PiecesCounted s → InPlanOrder s → InPlanOrder t)

/-- R76, R82: in every step, with the calibration sound, the stretch stays within S_MAX and the Disturbance List within its 16 points in strictly ascending order. -/
def Obligations.RegistrationKept : Prop :=
  ∀ s t : State, CalSound s → StretchHeld s → PointsOrdered s → step s = .next t → StretchHeld t ∧ PointsOrdered t

/-- R95, R97: every step keeps the Cut Queue in ascending order of its triggers. With the calibration and the panels sound, it keeps it strictly ascending and at most 32 entries long. -/
def Obligations.QueueAscendingKept : Prop :=
  ∀ s t : State, step s = .next t →
    (QueueAscending s → QueueAscending t)
    ∧ (CalSound s → PanelsSound s → PiecesCounted s → QueueStrict s → QueueStrict t)

/-- R203 to R207: every step keeps the working copy in its ranges and its loop orders, through writes, teaches, resets and loads. -/
def Obligations.CalSoundKept : Prop :=
  ∀ s t : State, CalSound s → step s = .next t → CalSound t
end

