-- ==== Sys2Proof/Laws/State.lean ====
section
/-!
SUPPORT. What each named update of the state does to each field: one lemma a field, so that no proof unfolds a record update.
-/
namespace Sys2Proof.Machine

section setOutfeedFields
variable (o : Outfeed) (s : State)

@[simp] theorem setOutfeed_pending : (setOutfeed o s).pending = s.pending := rfl
@[simp] theorem setOutfeed_now : (setOutfeed o s).now = s.now := rfl
@[simp] theorem setOutfeed_nextSerial : (setOutfeed o s).nextSerial = s.nextSerial := rfl
@[simp] theorem setOutfeed_inputs : (setOutfeed o s).inputs = s.inputs := rfl
@[simp] theorem setOutfeed_driveEnable : (setOutfeed o s).driveEnable = s.driveEnable := rfl
@[simp] theorem setOutfeed_resetOut : (setOutfeed o s).resetOut = s.resetOut := rfl
@[simp] theorem setOutfeed_heldBy : (setOutfeed o s).heldBy = s.heldBy := rfl
@[simp] theorem setOutfeed_causes : (setOutfeed o s).causes = s.causes := rfl
@[simp] theorem setOutfeed_straps : (setOutfeed o s).straps = s.straps := rfl
@[simp] theorem setOutfeed_cal : (setOutfeed o s).cal = s.cal := rfl
@[simp] theorem setOutfeed_panels : (setOutfeed o s).panels = s.panels := rfl
@[simp] theorem setOutfeed_lastPlan : (setOutfeed o s).lastPlan = s.lastPlan := rfl
@[simp] theorem setOutfeed_roll1 : (setOutfeed o s).roll1 = s.roll1 := rfl
@[simp] theorem setOutfeed_roll2 : (setOutfeed o s).roll2 = s.roll2 := rfl
@[simp] theorem setOutfeed_watches : (setOutfeed o s).watches = s.watches := rfl
@[simp] theorem setOutfeed_sampler : (setOutfeed o s).sampler = s.sampler := rfl
@[simp] theorem setOutfeed_loop : (setOutfeed o s).loop = s.loop := rfl
@[simp] theorem setOutfeed_sensor1 : (setOutfeed o s).sensor1 = s.sensor1 := rfl
@[simp] theorem setOutfeed_sensor2 : (setOutfeed o s).sensor2 = s.sensor2 := rfl
@[simp] theorem setOutfeed_webEnd : (setOutfeed o s).webEnd = s.webEnd := rfl
@[simp] theorem setOutfeed_cursor1 : (setOutfeed o s).cursor1 = s.cursor1 := rfl
@[simp] theorem setOutfeed_reg : (setOutfeed o s).reg = s.reg := rfl
@[simp] theorem setOutfeed_cursor2 : (setOutfeed o s).cursor2 = s.cursor2 := rfl
@[simp] theorem setOutfeed_planner : (setOutfeed o s).planner = s.planner := rfl
@[simp] theorem setOutfeed_station : (setOutfeed o s).station = s.station := rfl
@[simp] theorem setOutfeed_drives : (setOutfeed o s).drives = { s.drives with outfeed := o } := rfl
@[simp] theorem setOutfeed_lam : (setOutfeed o s).lam = s.lam := rfl
@[simp] theorem setOutfeed_line : (setOutfeed o s).line = s.line := rfl
@[simp] theorem setOutfeed_link : (setOutfeed o s).link = s.link := rfl

end setOutfeedFields

section setQueueFields
variable (q : List Entry) (s : State)

@[simp] theorem setQueue_pending : (setQueue q s).pending = s.pending := rfl
@[simp] theorem setQueue_now : (setQueue q s).now = s.now := rfl
@[simp] theorem setQueue_nextSerial : (setQueue q s).nextSerial = s.nextSerial := rfl
@[simp] theorem setQueue_inputs : (setQueue q s).inputs = s.inputs := rfl
@[simp] theorem setQueue_driveEnable : (setQueue q s).driveEnable = s.driveEnable := rfl
@[simp] theorem setQueue_resetOut : (setQueue q s).resetOut = s.resetOut := rfl
@[simp] theorem setQueue_heldBy : (setQueue q s).heldBy = s.heldBy := rfl
@[simp] theorem setQueue_causes : (setQueue q s).causes = s.causes := rfl
@[simp] theorem setQueue_straps : (setQueue q s).straps = s.straps := rfl
@[simp] theorem setQueue_cal : (setQueue q s).cal = s.cal := rfl
@[simp] theorem setQueue_panels : (setQueue q s).panels = s.panels := rfl
@[simp] theorem setQueue_lastPlan : (setQueue q s).lastPlan = s.lastPlan := rfl
@[simp] theorem setQueue_roll1 : (setQueue q s).roll1 = s.roll1 := rfl
@[simp] theorem setQueue_roll2 : (setQueue q s).roll2 = s.roll2 := rfl
@[simp] theorem setQueue_watches : (setQueue q s).watches = s.watches := rfl
@[simp] theorem setQueue_sampler : (setQueue q s).sampler = s.sampler := rfl
@[simp] theorem setQueue_loop : (setQueue q s).loop = s.loop := rfl
@[simp] theorem setQueue_sensor1 : (setQueue q s).sensor1 = s.sensor1 := rfl
@[simp] theorem setQueue_sensor2 : (setQueue q s).sensor2 = s.sensor2 := rfl
@[simp] theorem setQueue_webEnd : (setQueue q s).webEnd = s.webEnd := rfl
@[simp] theorem setQueue_cursor1 : (setQueue q s).cursor1 = s.cursor1 := rfl
@[simp] theorem setQueue_reg : (setQueue q s).reg = s.reg := rfl
@[simp] theorem setQueue_cursor2 : (setQueue q s).cursor2 = s.cursor2 := rfl
@[simp] theorem setQueue_planner : (setQueue q s).planner = { s.planner with queue := q } := rfl
@[simp] theorem setQueue_station : (setQueue q s).station = s.station := rfl
@[simp] theorem setQueue_drives : (setQueue q s).drives = s.drives := rfl
@[simp] theorem setQueue_lam : (setQueue q s).lam = s.lam := rfl
@[simp] theorem setQueue_line : (setQueue q s).line = s.line := rfl
@[simp] theorem setQueue_link : (setQueue q s).link = s.link := rfl

end setQueueFields

section setCycleFields
variable (c : Cycle) (s : State)

@[simp] theorem setCycle_pending : (setCycle c s).pending = s.pending := rfl
@[simp] theorem setCycle_now : (setCycle c s).now = s.now := rfl
@[simp] theorem setCycle_nextSerial : (setCycle c s).nextSerial = s.nextSerial := rfl
@[simp] theorem setCycle_inputs : (setCycle c s).inputs = s.inputs := rfl
@[simp] theorem setCycle_driveEnable : (setCycle c s).driveEnable = s.driveEnable := rfl
@[simp] theorem setCycle_resetOut : (setCycle c s).resetOut = s.resetOut := rfl
@[simp] theorem setCycle_heldBy : (setCycle c s).heldBy = s.heldBy := rfl
@[simp] theorem setCycle_causes : (setCycle c s).causes = s.causes := rfl
@[simp] theorem setCycle_straps : (setCycle c s).straps = s.straps := rfl
@[simp] theorem setCycle_cal : (setCycle c s).cal = s.cal := rfl
@[simp] theorem setCycle_panels : (setCycle c s).panels = s.panels := rfl
@[simp] theorem setCycle_lastPlan : (setCycle c s).lastPlan = s.lastPlan := rfl
@[simp] theorem setCycle_roll1 : (setCycle c s).roll1 = s.roll1 := rfl
@[simp] theorem setCycle_roll2 : (setCycle c s).roll2 = s.roll2 := rfl
@[simp] theorem setCycle_watches : (setCycle c s).watches = s.watches := rfl
@[simp] theorem setCycle_sampler : (setCycle c s).sampler = s.sampler := rfl
@[simp] theorem setCycle_loop : (setCycle c s).loop = s.loop := rfl
@[simp] theorem setCycle_sensor1 : (setCycle c s).sensor1 = s.sensor1 := rfl
@[simp] theorem setCycle_sensor2 : (setCycle c s).sensor2 = s.sensor2 := rfl
@[simp] theorem setCycle_webEnd : (setCycle c s).webEnd = s.webEnd := rfl
@[simp] theorem setCycle_cursor1 : (setCycle c s).cursor1 = s.cursor1 := rfl
@[simp] theorem setCycle_reg : (setCycle c s).reg = s.reg := rfl
@[simp] theorem setCycle_cursor2 : (setCycle c s).cursor2 = s.cursor2 := rfl
@[simp] theorem setCycle_planner : (setCycle c s).planner = s.planner := rfl
@[simp] theorem setCycle_station : (setCycle c s).station = { s.station with cycle := c } := rfl
@[simp] theorem setCycle_drives : (setCycle c s).drives = s.drives := rfl
@[simp] theorem setCycle_lam : (setCycle c s).lam = s.lam := rfl
@[simp] theorem setCycle_line : (setCycle c s).line = s.line := rfl
@[simp] theorem setCycle_link : (setCycle c s).link = s.link := rfl

end setCycleFields

section clearRecordsFields
variable (s : State)

@[simp] theorem clearRecords_pending : (clearRecords s).pending = s.pending := rfl
@[simp] theorem clearRecords_now : (clearRecords s).now = s.now := rfl
@[simp] theorem clearRecords_nextSerial : (clearRecords s).nextSerial = s.nextSerial := rfl
@[simp] theorem clearRecords_inputs : (clearRecords s).inputs = s.inputs := rfl
@[simp] theorem clearRecords_driveEnable : (clearRecords s).driveEnable = s.driveEnable := rfl
@[simp] theorem clearRecords_resetOut : (clearRecords s).resetOut = s.resetOut := rfl
@[simp] theorem clearRecords_heldBy : (clearRecords s).heldBy = s.heldBy := rfl
@[simp] theorem clearRecords_causes : (clearRecords s).causes = s.causes := rfl
@[simp] theorem clearRecords_straps : (clearRecords s).straps = s.straps := rfl
@[simp] theorem clearRecords_cal : (clearRecords s).cal = s.cal := rfl
@[simp] theorem clearRecords_panels : (clearRecords s).panels = s.panels := rfl
@[simp] theorem clearRecords_lastPlan : (clearRecords s).lastPlan = s.lastPlan := rfl
@[simp] theorem clearRecords_roll1 : (clearRecords s).roll1 = s.roll1 := rfl
@[simp] theorem clearRecords_roll2 : (clearRecords s).roll2 = s.roll2 := rfl
@[simp] theorem clearRecords_watches : (clearRecords s).watches = s.watches := rfl
@[simp] theorem clearRecords_sampler : (clearRecords s).sampler = s.sampler := rfl
@[simp] theorem clearRecords_loop : (clearRecords s).loop = s.loop := rfl
@[simp] theorem clearRecords_sensor1 : (clearRecords s).sensor1 = s.sensor1 := rfl
@[simp] theorem clearRecords_sensor2 : (clearRecords s).sensor2 = s.sensor2 := rfl
@[simp] theorem clearRecords_webEnd : (clearRecords s).webEnd = s.webEnd := rfl
@[simp] theorem clearRecords_cursor1 : (clearRecords s).cursor1 = s.cursor1 := rfl
@[simp] theorem clearRecords_reg : (clearRecords s).reg = s.reg := rfl
@[simp] theorem clearRecords_cursor2 : (clearRecords s).cursor2 = s.cursor2 := rfl
@[simp] theorem clearRecords_planner : (clearRecords s).planner = s.planner := rfl
@[simp] theorem clearRecords_station : (clearRecords s).station = { s.station with corrections := 0, lastErr := none, recut := false } := rfl
@[simp] theorem clearRecords_drives : (clearRecords s).drives = s.drives := rfl
@[simp] theorem clearRecords_lam : (clearRecords s).lam = s.lam := rfl
@[simp] theorem clearRecords_line : (clearRecords s).line = s.line := rfl
@[simp] theorem clearRecords_link : (clearRecords s).link = s.link := rfl

end clearRecordsFields

section updPanelFields
variable (r : PanelRef) (f : Panel → Panel) (s : State)

@[simp] theorem updPanel_pending : (updPanel r f s).pending = s.pending := rfl
@[simp] theorem updPanel_now : (updPanel r f s).now = s.now := rfl
@[simp] theorem updPanel_nextSerial : (updPanel r f s).nextSerial = s.nextSerial := rfl
@[simp] theorem updPanel_inputs : (updPanel r f s).inputs = s.inputs := rfl
@[simp] theorem updPanel_driveEnable : (updPanel r f s).driveEnable = s.driveEnable := rfl
@[simp] theorem updPanel_resetOut : (updPanel r f s).resetOut = s.resetOut := rfl
@[simp] theorem updPanel_heldBy : (updPanel r f s).heldBy = s.heldBy := rfl
@[simp] theorem updPanel_causes : (updPanel r f s).causes = s.causes := rfl
@[simp] theorem updPanel_straps : (updPanel r f s).straps = s.straps := rfl
@[simp] theorem updPanel_cal : (updPanel r f s).cal = s.cal := rfl
@[simp] theorem updPanel_panels : (updPanel r f s).panels = s.panels.map (fun p => if p.serial = r.serial then f p else p) := rfl
@[simp] theorem updPanel_lastPlan : (updPanel r f s).lastPlan = s.lastPlan := rfl
@[simp] theorem updPanel_roll1 : (updPanel r f s).roll1 = s.roll1 := rfl
@[simp] theorem updPanel_roll2 : (updPanel r f s).roll2 = s.roll2 := rfl
@[simp] theorem updPanel_watches : (updPanel r f s).watches = s.watches := rfl
@[simp] theorem updPanel_sampler : (updPanel r f s).sampler = s.sampler := rfl
@[simp] theorem updPanel_loop : (updPanel r f s).loop = s.loop := rfl
@[simp] theorem updPanel_sensor1 : (updPanel r f s).sensor1 = s.sensor1 := rfl
@[simp] theorem updPanel_sensor2 : (updPanel r f s).sensor2 = s.sensor2 := rfl
@[simp] theorem updPanel_webEnd : (updPanel r f s).webEnd = s.webEnd := rfl
@[simp] theorem updPanel_cursor1 : (updPanel r f s).cursor1 = s.cursor1 := rfl
@[simp] theorem updPanel_reg : (updPanel r f s).reg = s.reg := rfl
@[simp] theorem updPanel_cursor2 : (updPanel r f s).cursor2 = s.cursor2 := rfl
@[simp] theorem updPanel_planner : (updPanel r f s).planner = s.planner := rfl
@[simp] theorem updPanel_station : (updPanel r f s).station = s.station := rfl
@[simp] theorem updPanel_drives : (updPanel r f s).drives = s.drives := rfl
@[simp] theorem updPanel_lam : (updPanel r f s).lam = s.lam := rfl
@[simp] theorem updPanel_line : (updPanel r f s).line = s.line := rfl
@[simp] theorem updPanel_link : (updPanel r f s).link = s.link := rfl

end updPanelFields

section raiseWhereFields
variable (f : Flag) (test : Panel → Bool) (s : State)

@[simp] theorem raiseWhere_pending : (raiseWhere f test s).pending = s.pending := rfl
@[simp] theorem raiseWhere_now : (raiseWhere f test s).now = s.now := rfl
@[simp] theorem raiseWhere_nextSerial : (raiseWhere f test s).nextSerial = s.nextSerial := rfl
@[simp] theorem raiseWhere_inputs : (raiseWhere f test s).inputs = s.inputs := rfl
@[simp] theorem raiseWhere_driveEnable : (raiseWhere f test s).driveEnable = s.driveEnable := rfl
@[simp] theorem raiseWhere_resetOut : (raiseWhere f test s).resetOut = s.resetOut := rfl
@[simp] theorem raiseWhere_heldBy : (raiseWhere f test s).heldBy = s.heldBy := rfl
@[simp] theorem raiseWhere_causes : (raiseWhere f test s).causes = s.causes := rfl
@[simp] theorem raiseWhere_straps : (raiseWhere f test s).straps = s.straps := rfl
@[simp] theorem raiseWhere_cal : (raiseWhere f test s).cal = s.cal := rfl
@[simp] theorem raiseWhere_panels : (raiseWhere f test s).panels = s.panels.map (fun p => if test p then p.raise f else p) := rfl
@[simp] theorem raiseWhere_lastPlan : (raiseWhere f test s).lastPlan = s.lastPlan := rfl
@[simp] theorem raiseWhere_roll1 : (raiseWhere f test s).roll1 = s.roll1 := rfl
@[simp] theorem raiseWhere_roll2 : (raiseWhere f test s).roll2 = s.roll2 := rfl
@[simp] theorem raiseWhere_watches : (raiseWhere f test s).watches = s.watches := rfl
@[simp] theorem raiseWhere_sampler : (raiseWhere f test s).sampler = s.sampler := rfl
@[simp] theorem raiseWhere_loop : (raiseWhere f test s).loop = s.loop := rfl
@[simp] theorem raiseWhere_sensor1 : (raiseWhere f test s).sensor1 = s.sensor1 := rfl
@[simp] theorem raiseWhere_sensor2 : (raiseWhere f test s).sensor2 = s.sensor2 := rfl
@[simp] theorem raiseWhere_webEnd : (raiseWhere f test s).webEnd = s.webEnd := rfl
@[simp] theorem raiseWhere_cursor1 : (raiseWhere f test s).cursor1 = s.cursor1 := rfl
@[simp] theorem raiseWhere_reg : (raiseWhere f test s).reg = s.reg := rfl
@[simp] theorem raiseWhere_cursor2 : (raiseWhere f test s).cursor2 = s.cursor2 := rfl
@[simp] theorem raiseWhere_planner : (raiseWhere f test s).planner = s.planner := rfl
@[simp] theorem raiseWhere_station : (raiseWhere f test s).station = s.station := rfl
@[simp] theorem raiseWhere_drives : (raiseWhere f test s).drives = s.drives := rfl
@[simp] theorem raiseWhere_lam : (raiseWhere f test s).lam = s.lam := rfl
@[simp] theorem raiseWhere_line : (raiseWhere f test s).line = s.line := rfl
@[simp] theorem raiseWhere_link : (raiseWhere f test s).link = s.link := rfl

end raiseWhereFields

section setCursor1Fields
variable (m : M1State) (e : Option Expect1) (s : State)

@[simp] theorem setCursor1_pending : (setCursor1 m e s).pending = s.pending := rfl
@[simp] theorem setCursor1_now : (setCursor1 m e s).now = s.now := rfl
@[simp] theorem setCursor1_nextSerial : (setCursor1 m e s).nextSerial = s.nextSerial := rfl
@[simp] theorem setCursor1_inputs : (setCursor1 m e s).inputs = s.inputs := rfl
@[simp] theorem setCursor1_driveEnable : (setCursor1 m e s).driveEnable = s.driveEnable := rfl
@[simp] theorem setCursor1_resetOut : (setCursor1 m e s).resetOut = s.resetOut := rfl
@[simp] theorem setCursor1_heldBy : (setCursor1 m e s).heldBy = s.heldBy := rfl
@[simp] theorem setCursor1_causes : (setCursor1 m e s).causes = s.causes := rfl
@[simp] theorem setCursor1_straps : (setCursor1 m e s).straps = s.straps := rfl
@[simp] theorem setCursor1_cal : (setCursor1 m e s).cal = s.cal := rfl
@[simp] theorem setCursor1_panels : (setCursor1 m e s).panels = s.panels := rfl
@[simp] theorem setCursor1_lastPlan : (setCursor1 m e s).lastPlan = s.lastPlan := rfl
@[simp] theorem setCursor1_roll1 : (setCursor1 m e s).roll1 = s.roll1 := rfl
@[simp] theorem setCursor1_roll2 : (setCursor1 m e s).roll2 = s.roll2 := rfl
@[simp] theorem setCursor1_watches : (setCursor1 m e s).watches = s.watches := rfl
@[simp] theorem setCursor1_sampler : (setCursor1 m e s).sampler = s.sampler := rfl
@[simp] theorem setCursor1_loop : (setCursor1 m e s).loop = s.loop := rfl
@[simp] theorem setCursor1_sensor1 : (setCursor1 m e s).sensor1 = s.sensor1 := rfl
@[simp] theorem setCursor1_sensor2 : (setCursor1 m e s).sensor2 = s.sensor2 := rfl
@[simp] theorem setCursor1_webEnd : (setCursor1 m e s).webEnd = s.webEnd := rfl
@[simp] theorem setCursor1_cursor1 : (setCursor1 m e s).cursor1 = { s.cursor1 with state := m, expect := e, deciding := false } := rfl
@[simp] theorem setCursor1_reg : (setCursor1 m e s).reg = s.reg := rfl
@[simp] theorem setCursor1_cursor2 : (setCursor1 m e s).cursor2 = s.cursor2 := rfl
@[simp] theorem setCursor1_planner : (setCursor1 m e s).planner = s.planner := rfl
@[simp] theorem setCursor1_station : (setCursor1 m e s).station = s.station := rfl
@[simp] theorem setCursor1_drives : (setCursor1 m e s).drives = s.drives := rfl
@[simp] theorem setCursor1_lam : (setCursor1 m e s).lam = s.lam := rfl
@[simp] theorem setCursor1_line : (setCursor1 m e s).line = s.line := rfl
@[simp] theorem setCursor1_link : (setCursor1 m e s).link = s.link := rfl

end setCursor1Fields

section updLamFields
variable (f : Laminator → Laminator) (s : State)

@[simp] theorem updLam_pending : (updLam f s).pending = s.pending := rfl
@[simp] theorem updLam_now : (updLam f s).now = s.now := rfl
@[simp] theorem updLam_nextSerial : (updLam f s).nextSerial = s.nextSerial := rfl
@[simp] theorem updLam_inputs : (updLam f s).inputs = s.inputs := rfl
@[simp] theorem updLam_driveEnable : (updLam f s).driveEnable = s.driveEnable := rfl
@[simp] theorem updLam_resetOut : (updLam f s).resetOut = s.resetOut := rfl
@[simp] theorem updLam_heldBy : (updLam f s).heldBy = s.heldBy := rfl
@[simp] theorem updLam_causes : (updLam f s).causes = s.causes := rfl
@[simp] theorem updLam_straps : (updLam f s).straps = s.straps := rfl
@[simp] theorem updLam_cal : (updLam f s).cal = s.cal := rfl
@[simp] theorem updLam_panels : (updLam f s).panels = s.panels := rfl
@[simp] theorem updLam_lastPlan : (updLam f s).lastPlan = s.lastPlan := rfl
@[simp] theorem updLam_roll1 : (updLam f s).roll1 = s.roll1 := rfl
@[simp] theorem updLam_roll2 : (updLam f s).roll2 = s.roll2 := rfl
@[simp] theorem updLam_watches : (updLam f s).watches = s.watches := rfl
@[simp] theorem updLam_sampler : (updLam f s).sampler = s.sampler := rfl
@[simp] theorem updLam_loop : (updLam f s).loop = s.loop := rfl
@[simp] theorem updLam_sensor1 : (updLam f s).sensor1 = s.sensor1 := rfl
@[simp] theorem updLam_sensor2 : (updLam f s).sensor2 = s.sensor2 := rfl
@[simp] theorem updLam_webEnd : (updLam f s).webEnd = s.webEnd := rfl
@[simp] theorem updLam_cursor1 : (updLam f s).cursor1 = s.cursor1 := rfl
@[simp] theorem updLam_reg : (updLam f s).reg = s.reg := rfl
@[simp] theorem updLam_cursor2 : (updLam f s).cursor2 = s.cursor2 := rfl
@[simp] theorem updLam_planner : (updLam f s).planner = s.planner := rfl
@[simp] theorem updLam_station : (updLam f s).station = s.station := rfl
@[simp] theorem updLam_drives : (updLam f s).drives = s.drives := rfl
@[simp] theorem updLam_lam : (updLam f s).lam = f s.lam := rfl
@[simp] theorem updLam_line : (updLam f s).line = s.line := rfl
@[simp] theorem updLam_link : (updLam f s).link = s.link := rfl

end updLamFields

section setLineFields
variable (l : LineBlock) (s : State)

@[simp] theorem setLine_pending : (setLine l s).pending = s.pending := rfl
@[simp] theorem setLine_now : (setLine l s).now = s.now := rfl
@[simp] theorem setLine_nextSerial : (setLine l s).nextSerial = s.nextSerial := rfl
@[simp] theorem setLine_inputs : (setLine l s).inputs = s.inputs := rfl
@[simp] theorem setLine_driveEnable : (setLine l s).driveEnable = s.driveEnable := rfl
@[simp] theorem setLine_resetOut : (setLine l s).resetOut = s.resetOut := rfl
@[simp] theorem setLine_heldBy : (setLine l s).heldBy = s.heldBy := rfl
@[simp] theorem setLine_causes : (setLine l s).causes = s.causes := rfl
@[simp] theorem setLine_straps : (setLine l s).straps = s.straps := rfl
@[simp] theorem setLine_cal : (setLine l s).cal = s.cal := rfl
@[simp] theorem setLine_panels : (setLine l s).panels = s.panels := rfl
@[simp] theorem setLine_lastPlan : (setLine l s).lastPlan = s.lastPlan := rfl
@[simp] theorem setLine_roll1 : (setLine l s).roll1 = s.roll1 := rfl
@[simp] theorem setLine_roll2 : (setLine l s).roll2 = s.roll2 := rfl
@[simp] theorem setLine_watches : (setLine l s).watches = s.watches := rfl
@[simp] theorem setLine_sampler : (setLine l s).sampler = s.sampler := rfl
@[simp] theorem setLine_loop : (setLine l s).loop = s.loop := rfl
@[simp] theorem setLine_sensor1 : (setLine l s).sensor1 = s.sensor1 := rfl
@[simp] theorem setLine_sensor2 : (setLine l s).sensor2 = s.sensor2 := rfl
@[simp] theorem setLine_webEnd : (setLine l s).webEnd = s.webEnd := rfl
@[simp] theorem setLine_cursor1 : (setLine l s).cursor1 = s.cursor1 := rfl
@[simp] theorem setLine_reg : (setLine l s).reg = s.reg := rfl
@[simp] theorem setLine_cursor2 : (setLine l s).cursor2 = s.cursor2 := rfl
@[simp] theorem setLine_planner : (setLine l s).planner = s.planner := rfl
@[simp] theorem setLine_station : (setLine l s).station = s.station := rfl
@[simp] theorem setLine_drives : (setLine l s).drives = s.drives := rfl
@[simp] theorem setLine_lam : (setLine l s).lam = s.lam := rfl
@[simp] theorem setLine_line : (setLine l s).line = l := rfl
@[simp] theorem setLine_link : (setLine l s).link = s.link := rfl

end setLineFields

section setReplyFields
variable (r : Reply) (s : State)

@[simp] theorem setReply_pending : (setReply r s).pending = s.pending := rfl
@[simp] theorem setReply_now : (setReply r s).now = s.now := rfl
@[simp] theorem setReply_nextSerial : (setReply r s).nextSerial = s.nextSerial := rfl
@[simp] theorem setReply_inputs : (setReply r s).inputs = s.inputs := rfl
@[simp] theorem setReply_driveEnable : (setReply r s).driveEnable = s.driveEnable := rfl
@[simp] theorem setReply_resetOut : (setReply r s).resetOut = s.resetOut := rfl
@[simp] theorem setReply_heldBy : (setReply r s).heldBy = s.heldBy := rfl
@[simp] theorem setReply_causes : (setReply r s).causes = s.causes := rfl
@[simp] theorem setReply_straps : (setReply r s).straps = s.straps := rfl
@[simp] theorem setReply_cal : (setReply r s).cal = s.cal := rfl
@[simp] theorem setReply_panels : (setReply r s).panels = s.panels := rfl
@[simp] theorem setReply_lastPlan : (setReply r s).lastPlan = s.lastPlan := rfl
@[simp] theorem setReply_roll1 : (setReply r s).roll1 = s.roll1 := rfl
@[simp] theorem setReply_roll2 : (setReply r s).roll2 = s.roll2 := rfl
@[simp] theorem setReply_watches : (setReply r s).watches = s.watches := rfl
@[simp] theorem setReply_sampler : (setReply r s).sampler = s.sampler := rfl
@[simp] theorem setReply_loop : (setReply r s).loop = s.loop := rfl
@[simp] theorem setReply_sensor1 : (setReply r s).sensor1 = s.sensor1 := rfl
@[simp] theorem setReply_sensor2 : (setReply r s).sensor2 = s.sensor2 := rfl
@[simp] theorem setReply_webEnd : (setReply r s).webEnd = s.webEnd := rfl
@[simp] theorem setReply_cursor1 : (setReply r s).cursor1 = s.cursor1 := rfl
@[simp] theorem setReply_reg : (setReply r s).reg = s.reg := rfl
@[simp] theorem setReply_cursor2 : (setReply r s).cursor2 = s.cursor2 := rfl
@[simp] theorem setReply_planner : (setReply r s).planner = s.planner := rfl
@[simp] theorem setReply_station : (setReply r s).station = s.station := rfl
@[simp] theorem setReply_drives : (setReply r s).drives = s.drives := rfl
@[simp] theorem setReply_lam : (setReply r s).lam = s.lam := rfl
@[simp] theorem setReply_line : (setReply r s).line = s.line := rfl
@[simp] theorem setReply_link : (setReply r s).link = { s.link with reply := some r } := rfl

end setReplyFields

section reachTimeFields
variable (a b : Nat) (s : State)

@[simp] theorem reachTime_pending : (reachTime a b s).pending = s.pending := rfl
@[simp] theorem reachTime_now : (reachTime a b s).now = max s.now (a + b) := rfl
@[simp] theorem reachTime_nextSerial : (reachTime a b s).nextSerial = s.nextSerial := rfl
@[simp] theorem reachTime_inputs : (reachTime a b s).inputs = s.inputs := rfl
@[simp] theorem reachTime_driveEnable : (reachTime a b s).driveEnable = s.driveEnable := rfl
@[simp] theorem reachTime_resetOut : (reachTime a b s).resetOut = s.resetOut := rfl
@[simp] theorem reachTime_heldBy : (reachTime a b s).heldBy = s.heldBy := rfl
@[simp] theorem reachTime_causes : (reachTime a b s).causes = s.causes := rfl
@[simp] theorem reachTime_straps : (reachTime a b s).straps = s.straps := rfl
@[simp] theorem reachTime_cal : (reachTime a b s).cal = s.cal := rfl
@[simp] theorem reachTime_panels : (reachTime a b s).panels = s.panels := rfl
@[simp] theorem reachTime_lastPlan : (reachTime a b s).lastPlan = s.lastPlan := rfl
@[simp] theorem reachTime_roll1 : (reachTime a b s).roll1 = s.roll1 := rfl
@[simp] theorem reachTime_roll2 : (reachTime a b s).roll2 = s.roll2 := rfl
@[simp] theorem reachTime_watches : (reachTime a b s).watches = s.watches := rfl
@[simp] theorem reachTime_sampler : (reachTime a b s).sampler = s.sampler := rfl
@[simp] theorem reachTime_loop : (reachTime a b s).loop = s.loop := rfl
@[simp] theorem reachTime_sensor1 : (reachTime a b s).sensor1 = s.sensor1 := rfl
@[simp] theorem reachTime_sensor2 : (reachTime a b s).sensor2 = s.sensor2 := rfl
@[simp] theorem reachTime_webEnd : (reachTime a b s).webEnd = s.webEnd := rfl
@[simp] theorem reachTime_cursor1 : (reachTime a b s).cursor1 = s.cursor1 := rfl
@[simp] theorem reachTime_reg : (reachTime a b s).reg = s.reg := rfl
@[simp] theorem reachTime_cursor2 : (reachTime a b s).cursor2 = s.cursor2 := rfl
@[simp] theorem reachTime_planner : (reachTime a b s).planner = s.planner := rfl
@[simp] theorem reachTime_station : (reachTime a b s).station = s.station := rfl
@[simp] theorem reachTime_drives : (reachTime a b s).drives = s.drives := rfl
@[simp] theorem reachTime_lam : (reachTime a b s).lam = s.lam := rfl
@[simp] theorem reachTime_line : (reachTime a b s).line = s.line := rfl
@[simp] theorem reachTime_link : (reachTime a b s).link = s.link := rfl

end reachTimeFields

section abortPanelsFields
variable (s : State)

@[simp] theorem abortPanels_pending : (abortPanels s).pending = s.pending := rfl
@[simp] theorem abortPanels_now : (abortPanels s).now = s.now := rfl
@[simp] theorem abortPanels_nextSerial : (abortPanels s).nextSerial = s.nextSerial := rfl
@[simp] theorem abortPanels_inputs : (abortPanels s).inputs = s.inputs := rfl
@[simp] theorem abortPanels_driveEnable : (abortPanels s).driveEnable = s.driveEnable := rfl
@[simp] theorem abortPanels_resetOut : (abortPanels s).resetOut = s.resetOut := rfl
@[simp] theorem abortPanels_heldBy : (abortPanels s).heldBy = s.heldBy := rfl
@[simp] theorem abortPanels_causes : (abortPanels s).causes = s.causes := rfl
@[simp] theorem abortPanels_straps : (abortPanels s).straps = s.straps := rfl
@[simp] theorem abortPanels_cal : (abortPanels s).cal = s.cal := rfl
@[simp] theorem abortPanels_panels : (abortPanels s).panels = s.panels.map Panel.abort := rfl
@[simp] theorem abortPanels_lastPlan : (abortPanels s).lastPlan = s.lastPlan := rfl
@[simp] theorem abortPanels_roll1 : (abortPanels s).roll1 = s.roll1 := rfl
@[simp] theorem abortPanels_roll2 : (abortPanels s).roll2 = s.roll2 := rfl
@[simp] theorem abortPanels_watches : (abortPanels s).watches = s.watches := rfl
@[simp] theorem abortPanels_sampler : (abortPanels s).sampler = s.sampler := rfl
@[simp] theorem abortPanels_loop : (abortPanels s).loop = s.loop := rfl
@[simp] theorem abortPanels_sensor1 : (abortPanels s).sensor1 = s.sensor1 := rfl
@[simp] theorem abortPanels_sensor2 : (abortPanels s).sensor2 = s.sensor2 := rfl
@[simp] theorem abortPanels_webEnd : (abortPanels s).webEnd = s.webEnd := rfl
@[simp] theorem abortPanels_cursor1 : (abortPanels s).cursor1 = s.cursor1 := rfl
@[simp] theorem abortPanels_reg : (abortPanels s).reg = s.reg := rfl
@[simp] theorem abortPanels_cursor2 : (abortPanels s).cursor2 = s.cursor2 := rfl
@[simp] theorem abortPanels_planner : (abortPanels s).planner = s.planner := rfl
@[simp] theorem abortPanels_station : (abortPanels s).station = s.station := rfl
@[simp] theorem abortPanels_drives : (abortPanels s).drives = s.drives := rfl
@[simp] theorem abortPanels_lam : (abortPanels s).lam = s.lam := rfl
@[simp] theorem abortPanels_line : (abortPanels s).line = s.line := rfl
@[simp] theorem abortPanels_link : (abortPanels s).link = s.link := rfl

end abortPanelsFields

section emptyQueueFields
variable (s : State)

@[simp] theorem emptyQueue_pending : (emptyQueue s).pending = s.pending := rfl
@[simp] theorem emptyQueue_now : (emptyQueue s).now = s.now := rfl
@[simp] theorem emptyQueue_nextSerial : (emptyQueue s).nextSerial = s.nextSerial := rfl
@[simp] theorem emptyQueue_inputs : (emptyQueue s).inputs = s.inputs := rfl
@[simp] theorem emptyQueue_driveEnable : (emptyQueue s).driveEnable = s.driveEnable := rfl
@[simp] theorem emptyQueue_resetOut : (emptyQueue s).resetOut = s.resetOut := rfl
@[simp] theorem emptyQueue_heldBy : (emptyQueue s).heldBy = s.heldBy := rfl
@[simp] theorem emptyQueue_causes : (emptyQueue s).causes = s.causes := rfl
@[simp] theorem emptyQueue_straps : (emptyQueue s).straps = s.straps := rfl
@[simp] theorem emptyQueue_cal : (emptyQueue s).cal = s.cal := rfl
@[simp] theorem emptyQueue_panels : (emptyQueue s).panels = s.panels := rfl
@[simp] theorem emptyQueue_lastPlan : (emptyQueue s).lastPlan = s.lastPlan := rfl
@[simp] theorem emptyQueue_roll1 : (emptyQueue s).roll1 = s.roll1 := rfl
@[simp] theorem emptyQueue_roll2 : (emptyQueue s).roll2 = s.roll2 := rfl
@[simp] theorem emptyQueue_watches : (emptyQueue s).watches = s.watches := rfl
@[simp] theorem emptyQueue_sampler : (emptyQueue s).sampler = s.sampler := rfl
@[simp] theorem emptyQueue_loop : (emptyQueue s).loop = s.loop := rfl
@[simp] theorem emptyQueue_sensor1 : (emptyQueue s).sensor1 = s.sensor1 := rfl
@[simp] theorem emptyQueue_sensor2 : (emptyQueue s).sensor2 = s.sensor2 := rfl
@[simp] theorem emptyQueue_webEnd : (emptyQueue s).webEnd = s.webEnd := rfl
@[simp] theorem emptyQueue_cursor1 : (emptyQueue s).cursor1 = s.cursor1 := rfl
@[simp] theorem emptyQueue_reg : (emptyQueue s).reg = s.reg := rfl
@[simp] theorem emptyQueue_cursor2 : (emptyQueue s).cursor2 = s.cursor2 := rfl
@[simp] theorem emptyQueue_planner : (emptyQueue s).planner = { s.planner with queue := [], target := none } := rfl
@[simp] theorem emptyQueue_station : (emptyQueue s).station = s.station := rfl
@[simp] theorem emptyQueue_drives : (emptyQueue s).drives = s.drives := rfl
@[simp] theorem emptyQueue_lam : (emptyQueue s).lam = s.lam := rfl
@[simp] theorem emptyQueue_line : (emptyQueue s).line = s.line := rfl
@[simp] theorem emptyQueue_link : (emptyQueue s).link = s.link := rfl

end emptyQueueFields

section infeedUpdateFields
variable (s : State)

@[simp] theorem infeedUpdate_pending : (infeedUpdate s).pending = s.pending := rfl
@[simp] theorem infeedUpdate_now : (infeedUpdate s).now = s.now := rfl
@[simp] theorem infeedUpdate_nextSerial : (infeedUpdate s).nextSerial = s.nextSerial := rfl
@[simp] theorem infeedUpdate_inputs : (infeedUpdate s).inputs = s.inputs := rfl
@[simp] theorem infeedUpdate_driveEnable : (infeedUpdate s).driveEnable = s.driveEnable := rfl
@[simp] theorem infeedUpdate_resetOut : (infeedUpdate s).resetOut = s.resetOut := rfl
@[simp] theorem infeedUpdate_heldBy : (infeedUpdate s).heldBy = s.heldBy := rfl
@[simp] theorem infeedUpdate_causes : (infeedUpdate s).causes = s.causes := rfl
@[simp] theorem infeedUpdate_straps : (infeedUpdate s).straps = s.straps := rfl
@[simp] theorem infeedUpdate_cal : (infeedUpdate s).cal = s.cal := rfl
@[simp] theorem infeedUpdate_panels : (infeedUpdate s).panels = s.panels := rfl
@[simp] theorem infeedUpdate_lastPlan : (infeedUpdate s).lastPlan = s.lastPlan := rfl
@[simp] theorem infeedUpdate_roll1 : (infeedUpdate s).roll1 = s.roll1 := rfl
@[simp] theorem infeedUpdate_roll2 : (infeedUpdate s).roll2 = s.roll2 := rfl
@[simp] theorem infeedUpdate_watches : (infeedUpdate s).watches = s.watches := rfl
@[simp] theorem infeedUpdate_sampler : (infeedUpdate s).sampler = s.sampler := rfl
@[simp] theorem infeedUpdate_loop : (infeedUpdate s).loop = s.loop := rfl
@[simp] theorem infeedUpdate_sensor1 : (infeedUpdate s).sensor1 = s.sensor1 := rfl
@[simp] theorem infeedUpdate_sensor2 : (infeedUpdate s).sensor2 = s.sensor2 := rfl
@[simp] theorem infeedUpdate_webEnd : (infeedUpdate s).webEnd = s.webEnd := rfl
@[simp] theorem infeedUpdate_cursor1 : (infeedUpdate s).cursor1 = s.cursor1 := rfl
@[simp] theorem infeedUpdate_reg : (infeedUpdate s).reg = s.reg := rfl
@[simp] theorem infeedUpdate_cursor2 : (infeedUpdate s).cursor2 = s.cursor2 := rfl
@[simp] theorem infeedUpdate_planner : (infeedUpdate s).planner = s.planner := rfl
@[simp] theorem infeedUpdate_station : (infeedUpdate s).station = s.station := rfl
@[simp] theorem infeedUpdate_drives : (infeedUpdate s).drives = { s.drives with infeedRef := s.infeedReference } := rfl
@[simp] theorem infeedUpdate_lam : (infeedUpdate s).lam = s.lam := rfl
@[simp] theorem infeedUpdate_line : (infeedUpdate s).line = s.line := rfl
@[simp] theorem infeedUpdate_link : (infeedUpdate s).link = s.link := rfl

end infeedUpdateFields

section attnUpdateFields
variable (s : State)

@[simp] theorem attnUpdate_pending : (attnUpdate s).pending = s.pending := rfl
@[simp] theorem attnUpdate_now : (attnUpdate s).now = s.now := rfl
@[simp] theorem attnUpdate_nextSerial : (attnUpdate s).nextSerial = s.nextSerial := rfl
@[simp] theorem attnUpdate_inputs : (attnUpdate s).inputs = s.inputs := rfl
@[simp] theorem attnUpdate_driveEnable : (attnUpdate s).driveEnable = s.driveEnable := rfl
@[simp] theorem attnUpdate_resetOut : (attnUpdate s).resetOut = s.resetOut := rfl
@[simp] theorem attnUpdate_heldBy : (attnUpdate s).heldBy = s.heldBy := rfl
@[simp] theorem attnUpdate_causes : (attnUpdate s).causes = s.causes := rfl
@[simp] theorem attnUpdate_straps : (attnUpdate s).straps = s.straps := rfl
@[simp] theorem attnUpdate_cal : (attnUpdate s).cal = s.cal := rfl
@[simp] theorem attnUpdate_panels : (attnUpdate s).panels = s.panels := rfl
@[simp] theorem attnUpdate_lastPlan : (attnUpdate s).lastPlan = s.lastPlan := rfl
@[simp] theorem attnUpdate_roll1 : (attnUpdate s).roll1 = s.roll1 := rfl
@[simp] theorem attnUpdate_roll2 : (attnUpdate s).roll2 = s.roll2 := rfl
@[simp] theorem attnUpdate_watches : (attnUpdate s).watches = s.watches := rfl
@[simp] theorem attnUpdate_sampler : (attnUpdate s).sampler = s.sampler := rfl
@[simp] theorem attnUpdate_loop : (attnUpdate s).loop = s.loop := rfl
@[simp] theorem attnUpdate_sensor1 : (attnUpdate s).sensor1 = s.sensor1 := rfl
@[simp] theorem attnUpdate_sensor2 : (attnUpdate s).sensor2 = s.sensor2 := rfl
@[simp] theorem attnUpdate_webEnd : (attnUpdate s).webEnd = s.webEnd := rfl
@[simp] theorem attnUpdate_cursor1 : (attnUpdate s).cursor1 = s.cursor1 := rfl
@[simp] theorem attnUpdate_reg : (attnUpdate s).reg = s.reg := rfl
@[simp] theorem attnUpdate_cursor2 : (attnUpdate s).cursor2 = s.cursor2 := rfl
@[simp] theorem attnUpdate_planner : (attnUpdate s).planner = s.planner := rfl
@[simp] theorem attnUpdate_station : (attnUpdate s).station = s.station := rfl
@[simp] theorem attnUpdate_drives : (attnUpdate s).drives = s.drives := rfl
@[simp] theorem attnUpdate_lam : (attnUpdate s).lam = s.lam := rfl
@[simp] theorem attnUpdate_line : (attnUpdate s).line = s.line := rfl
@[simp] theorem attnUpdate_link : (attnUpdate s).link = { s.link with attn := s.attnLevel } := rfl

end attnUpdateFields

section queueEventFields
variable (e : Event) (s : State)

@[simp] theorem queueEvent_pending : (queueEvent e s).pending = s.pending := by unfold queueEvent; split <;> rfl
@[simp] theorem queueEvent_now : (queueEvent e s).now = s.now := by unfold queueEvent; split <;> rfl
@[simp] theorem queueEvent_nextSerial : (queueEvent e s).nextSerial = s.nextSerial := by unfold queueEvent; split <;> rfl
@[simp] theorem queueEvent_inputs : (queueEvent e s).inputs = s.inputs := by unfold queueEvent; split <;> rfl
@[simp] theorem queueEvent_driveEnable : (queueEvent e s).driveEnable = s.driveEnable := by unfold queueEvent; split <;> rfl
@[simp] theorem queueEvent_resetOut : (queueEvent e s).resetOut = s.resetOut := by unfold queueEvent; split <;> rfl
@[simp] theorem queueEvent_heldBy : (queueEvent e s).heldBy = s.heldBy := by unfold queueEvent; split <;> rfl
@[simp] theorem queueEvent_causes : (queueEvent e s).causes = s.causes := by unfold queueEvent; split <;> rfl
@[simp] theorem queueEvent_straps : (queueEvent e s).straps = s.straps := by unfold queueEvent; split <;> rfl
@[simp] theorem queueEvent_cal : (queueEvent e s).cal = s.cal := by unfold queueEvent; split <;> rfl
@[simp] theorem queueEvent_panels : (queueEvent e s).panels = s.panels := by unfold queueEvent; split <;> rfl
@[simp] theorem queueEvent_lastPlan : (queueEvent e s).lastPlan = s.lastPlan := by unfold queueEvent; split <;> rfl
@[simp] theorem queueEvent_roll1 : (queueEvent e s).roll1 = s.roll1 := by unfold queueEvent; split <;> rfl
@[simp] theorem queueEvent_roll2 : (queueEvent e s).roll2 = s.roll2 := by unfold queueEvent; split <;> rfl
@[simp] theorem queueEvent_watches : (queueEvent e s).watches = s.watches := by unfold queueEvent; split <;> rfl
@[simp] theorem queueEvent_sampler : (queueEvent e s).sampler = s.sampler := by unfold queueEvent; split <;> rfl
@[simp] theorem queueEvent_loop : (queueEvent e s).loop = s.loop := by unfold queueEvent; split <;> rfl
@[simp] theorem queueEvent_sensor1 : (queueEvent e s).sensor1 = s.sensor1 := by unfold queueEvent; split <;> rfl
@[simp] theorem queueEvent_sensor2 : (queueEvent e s).sensor2 = s.sensor2 := by unfold queueEvent; split <;> rfl
@[simp] theorem queueEvent_webEnd : (queueEvent e s).webEnd = s.webEnd := by unfold queueEvent; split <;> rfl
@[simp] theorem queueEvent_cursor1 : (queueEvent e s).cursor1 = s.cursor1 := by unfold queueEvent; split <;> rfl
@[simp] theorem queueEvent_reg : (queueEvent e s).reg = s.reg := by unfold queueEvent; split <;> rfl
@[simp] theorem queueEvent_cursor2 : (queueEvent e s).cursor2 = s.cursor2 := by unfold queueEvent; split <;> rfl
@[simp] theorem queueEvent_planner : (queueEvent e s).planner = s.planner := by unfold queueEvent; split <;> rfl
@[simp] theorem queueEvent_station : (queueEvent e s).station = s.station := by unfold queueEvent; split <;> rfl
@[simp] theorem queueEvent_drives : (queueEvent e s).drives = s.drives := by unfold queueEvent; split <;> rfl
@[simp] theorem queueEvent_lam : (queueEvent e s).lam = s.lam := by unfold queueEvent; split <;> rfl
@[simp] theorem queueEvent_line : (queueEvent e s).line = s.line := by unfold queueEvent; split <;> rfl

end queueEventFields

end Sys2Proof.Machine
end

