-- ==== Sys2Proof/Laws/Kept.lean ====
section
/-!
SUPPORT. What no shared operation of the blocks changes: `Kept s t` says that `t` agrees with `s` on the queue of commands, the inputs, the straps, the
calibration, the resets, the rolls, the Sampler, the Loop, the teaches, the link but for its events and ATTN, and the plans of the panels; and that what Safety
says of the Event Queue, the panels, the stretch, the Disturbance List and the Cut Queue stays true. One lemma for each operation.
-/
namespace Sys2Proof.Machine

/-- `t` agrees with `s` on all that the shared operations leave alone, and is as sound as `s`. -/
structure Kept (s t : State) : Prop where
  pending : t.pending = s.pending
  inputs : t.inputs = s.inputs
  straps : t.straps = s.straps
  cal : t.cal = s.cal
  heldBy : t.heldBy = s.heldBy
  causes : t.causes = s.causes
  driveEnable : t.driveEnable = s.driveEnable
  resetOut : t.resetOut = s.resetOut
  roll1 : t.roll1 = s.roll1
  roll2 : t.roll2 = s.roll2
  sampler : t.sampler = s.sampler
  loop : t.loop = s.loop
  teach1 : t.sensor1.teach = s.sensor1.teach
  teach2 : t.sensor2.teach = s.sensor2.teach
  threshold1 : t.sensor1.threshold = s.sensor1.threshold
  threshold2 : t.sensor2.threshold = s.sensor2.threshold
  webEnd : t.webEnd = s.webEnd
  nextSerial : t.nextSerial = s.nextSerial
  setpoint : t.drives.setpoint = s.drives.setpoint
  plans : t.panels.map Panel.plan = s.panels.map Panel.plan
  receiver : { t.link with events := s.link.events, eventsLost := s.link.eventsLost, attn := s.link.attn } = s.link
  events : s.link.events.length ≤ 64 → t.link.events.length ≤ 64
  panels : PanelsSound s → PanelsSound t
  stretch : StretchHeld s → StretchHeld t
  points : PointsOrdered s → PointsOrdered t
  queue : QueueAscending s → QueueAscending t

theorem Kept.refl (s : State) : Kept s s := by constructor <;> first | rfl | exact id

theorem Kept.trans {s t u : State} (h : Kept s t) (g : Kept t u) : Kept s u where
  pending := g.pending.trans h.pending
  inputs := g.inputs.trans h.inputs
  straps := g.straps.trans h.straps
  cal := g.cal.trans h.cal
  heldBy := g.heldBy.trans h.heldBy
  causes := g.causes.trans h.causes
  driveEnable := g.driveEnable.trans h.driveEnable
  resetOut := g.resetOut.trans h.resetOut
  roll1 := g.roll1.trans h.roll1
  roll2 := g.roll2.trans h.roll2
  sampler := g.sampler.trans h.sampler
  loop := g.loop.trans h.loop
  teach1 := g.teach1.trans h.teach1
  teach2 := g.teach2.trans h.teach2
  threshold1 := g.threshold1.trans h.threshold1
  threshold2 := g.threshold2.trans h.threshold2
  webEnd := g.webEnd.trans h.webEnd
  nextSerial := g.nextSerial.trans h.nextSerial
  setpoint := g.setpoint.trans h.setpoint
  plans := g.plans.trans h.plans
  receiver := by
    have a := h.receiver
    have b := g.receiver
    cases hs : s.link; cases ht : t.link; cases hu : u.link
    rw [hs, ht] at a; rw [ht, hu] at b
    simp_all
  events := fun x => g.events (h.events x)
  panels := fun x => g.panels (h.panels x)
  stretch := fun x => g.stretch (h.stretch x)
  points := fun x => g.points (h.points x)
  queue := fun x => g.queue (h.queue x)

/-- A state that shares every block with `s` but the freely changed ones is `Kept`. -/
theorem Kept.of_eq {s t : State} (h : t =
    { s with
      now := t.now, lastPlan := t.lastPlan, watches := t.watches, cursor1 := t.cursor1, cursor2 := t.cursor2
      station := t.station, lam := t.lam, line := t.line }) : Kept s t := by
  rw [h]; constructor <;> first | rfl | exact id

/-- The outfeed, the web sequence and the like are changed, not the setpoint. -/
theorem kept_drives (s : State) (d : Drives) (h : d.setpoint = s.drives.setpoint) : Kept s { s with drives := d } := by
  constructor <;> first | rfl | exact h | exact id

theorem kept_station (s : State) (x : Station) : Kept s { s with station := x } := .of_eq rfl
theorem kept_lam (s : State) (x : Laminator) : Kept s { s with lam := x } := .of_eq rfl
theorem kept_line (s : State) (x : LineBlock) : Kept s { s with line := x } := .of_eq rfl
theorem kept_watches (s : State) (x : Watches) : Kept s { s with watches := x } := .of_eq rfl
theorem kept_cursor1 (s : State) (x : Cursor1) : Kept s { s with cursor1 := x } := .of_eq rfl
theorem kept_cursor2 (s : State) (x : Cursor2) : Kept s { s with cursor2 := x } := .of_eq rfl
theorem kept_now (s : State) (x : Nat) : Kept s { s with now := x } := .of_eq rfl

/-- The planner is changed and the queue stays in order. -/
theorem kept_planner (s : State) (x : Planner) (h : QueueAscending s → x.queue.Pairwise (fun d e => d.trigger ≤ e.trigger)) :
    Kept s { s with planner := x } := by
  constructor <;> first | rfl | exact id | exact h

/-- The Registration Unit is changed within its bounds. -/
theorem kept_reg (s : State) (x : RegBlock)
    (h : StretchHeld s → -(s.work .sMax) ≤ x.s ∧ x.s ≤ s.work .sMax)
    (g : PointsOrdered s → x.points.length ≤ 16 ∧ x.points.Pairwise (fun p q => p.pos < q.pos)) :
    Kept s { s with reg := x } := by
  constructor <;> first | rfl | exact id | exact h | exact g

/-- A change of a panel that keeps its plan and its soundness. -/
structure PanelKept (f : Panel → Panel) (p : Panel) : Prop where
  plan : (f p).plan = p.plan
  sound : p.Sound → (f p).Sound

theorem PanelKept.id (p : Panel) : PanelKept (fun p => p) p := ⟨rfl, fun h => h⟩

/-- A panel keeps its plan, its state, its counters and its completion code. -/
theorem PanelKept.of_eq (f : Panel → Panel) (p : Panel) (h : (f p).plan = p.plan) (a : (f p).state = p.state)
    (b : (f p).completion = p.completion) (c : (f p).cutsDone = p.cutsDone) (d : (f p).delivered = p.delivered)
    (e : (f p).scrapped = p.scrapped) : PanelKept f p := by
  refine ⟨h, ?_⟩
  have hc : (f p).cuts = p.cuts := congrArg (·.2.2.2.2.2.2.2) h
  unfold Panel.Sound; rw [a, b, c, d, e, hc]; exact fun h => h

theorem Panel.serial_of_plan {p q : Panel} (h : p.plan = q.plan) : p.serial = q.serial := congrArg (·.1) h

/-- The panels are changed one by one, each keeping its plan and its soundness. -/
theorem kept_panels (s : State) (f : Panel → Panel) (h : ∀ p ∈ s.panels, PanelKept f p) :
    Kept s { s with panels := s.panels.map f } := by
  have hp : (s.panels.map f).map Panel.plan = s.panels.map Panel.plan := by
    rw [List.map_map]; exact List.map_congr_left fun p hp => (h p hp).plan
  constructor
  case plans => exact hp
  case panels =>
    rintro ⟨a, b⟩
    refine ⟨?_, ?_⟩
    · intro q hq
      obtain ⟨p, hp, rfl⟩ := List.mem_map.mp hq
      exact ⟨(h p hp).sound (a p hp).1, by rw [Panel.serial_of_plan (h p hp).plan]; exact (a p hp).2⟩
    · have e : (s.panels.map f).map (·.serial) = s.panels.map (·.serial) := by
        rw [List.map_map]; exact List.map_congr_left fun p hp => Panel.serial_of_plan (h p hp).plan
      show ((s.panels.map f).map (·.serial)).Nodup
      rw [e]; exact b
  all_goals first | rfl | exact id

/-! ### Shared operations (Ops) -/

theorem kept_queueEvent (e : Event) (s : State) : Kept s (queueEvent e s) := by
  unfold queueEvent; split
  · rename_i h
    constructor
    case events => intro _; show (s.link.events ++ [e]).length ≤ 64; rw [List.length_append, List.length_singleton]; omega
    all_goals first | rfl | exact id
  · constructor <;> first | rfl | exact id

theorem kept_foldl {α : Type} (f : State → α → State) (h : ∀ s a, Kept s (f s a)) (l : List α) (s : State) :
    Kept s (l.foldl f s) := by
  induction l generalizing s with
  | nil => exact .refl s
  | cons a l ih => exact (h s a).trans (ih (f s a))

theorem kept_queueEvents (es : List Event) (s : State) : Kept s (queueEvents es s) :=
  kept_foldl _ (fun s e => kept_queueEvent e s) es s
theorem kept_updPanel (r : PanelRef) (f : Panel → Panel) (s : State) (h : ∀ p, PanelKept f p) : Kept s (updPanel r f s) := by
  refine kept_panels s _ fun p _ => ?_
  constructor
  · show (if p.serial = r.serial then f p else p).plan = p.plan
    split
    · exact (h p).plan
    · rfl
  · show p.Sound → (if p.serial = r.serial then f p else p).Sound
    split
    · exact (h p).sound
    · exact id
theorem panelKept_raise (f : Flag) (p : Panel) : PanelKept (Panel.raise f) p := by
  unfold Panel.raise; constructor
  · show (if p.state = .done ∨ f ∈ p.flags then p else { p with flags := p.flags ++ [f] }).plan = p.plan
    split <;> rfl
  · show p.Sound → (if p.state = .done ∨ f ∈ p.flags then p else { p with flags := p.flags ++ [f] }).Sound
    split <;> exact id
theorem PanelKept.comp {f g : Panel → Panel} {p : Panel} (h : PanelKept f p) (k : PanelKept g (f p)) :
    PanelKept (fun p => g (f p)) p := ⟨k.plan.trans h.plan, fun x => k.sound (h.sound x)⟩
theorem PanelKept.ite {f g : Panel → Panel} {p : Panel} (c : Panel → Prop) [DecidablePred c] (h : PanelKept f p)
    (k : PanelKept g p) : PanelKept (fun p => if c p then f p else g p) p := by
  by_cases e : c p
  · exact ⟨by simp only [e, if_true]; exact h.plan, by simp only [e, if_true]; exact h.sound⟩
  · exact ⟨by simp only [e, if_false]; exact k.plan, by simp only [e, if_false]; exact k.sound⟩
theorem panelKept_raiseAll (fs : List Flag) (p : Panel) : PanelKept (fun p => fs.foldl (fun p f => p.raise f) p) p := by
  induction fs generalizing p with
  | nil => exact .id p
  | cons f fs ih => exact (panelKept_raise f p).comp (ih _)
theorem panelKept_raiseScale (l : LockMode) (p : Panel) : PanelKept (Panel.raiseScale l) p := by
  refine PanelKept.ite (fun p => p.state = .done) (.id p) ?_
  exact (panelKept_raise .scaleFault p).comp (g := fun q => { q with scaleRejecting := p.scaleRejecting || decide (l = .auto) })
    (.of_eq _ _ rfl rfl rfl rfl rfl rfl) |> fun h => ⟨h.plan, h.sound⟩
theorem panelKept_abort (p : Panel) : PanelKept Panel.abort p := by
  refine PanelKept.ite (fun p => p.state = .done) (.id p) ?_
  refine ⟨rfl, fun h => ?_⟩
  exact ⟨⟨fun _ => rfl, fun _ => rfl⟩, h.2.1, fun x => absurd rfl x, h.2.2.2⟩
theorem kept_raiseFlag (f : Flag) (r : PanelRef) (s : State) : Kept s (raiseFlag f r s) :=
  kept_updPanel _ _ s (panelKept_raise f)
theorem kept_raiseFlags (f : Flag) (rs : List PanelRef) (s : State) : Kept s (raiseFlags f rs s) :=
  kept_foldl _ (fun s r => kept_raiseFlag f r s) rs s
theorem kept_raiseWhere (f : Flag) (test : Panel → Bool) (s : State) : Kept s (raiseWhere f test s) :=
  kept_panels s _ fun p _ => .ite (fun p => test p = true) (panelKept_raise f p) (.id p)
theorem kept_reachTime (a b : Nat) (s : State) : Kept s (reachTime a b s) := kept_now s _

/-! ### Drives -/

theorem kept_setOutfeed (o : Outfeed) (s : State) : Kept s (setOutfeed o s) := kept_drives s _ rfl
theorem kept_issueMove (p : Purpose) (o : Owner) (e : Int) (s : State) : Kept s (issueMove p o e s) := kept_setOutfeed _ s
theorem kept_askStation (p : Purpose) (e : Int) (s : State) : Kept s (askStation p e s) := by
  unfold askStation; repeat' split
  all_goals exact kept_setOutfeed _ s
theorem kept_stationStop (s : State) : Kept s (stationStop s).1 := by
  unfold stationStop; split
  all_goals exact kept_setOutfeed _ s
theorem kept_reissue (s : State) : Kept s (reissue s) := by
  unfold reissue; repeat' split
  all_goals exact kept_setOutfeed _ s
theorem kept_startFreeRun (s : State) : Kept s (startFreeRun s) := by
  unfold startFreeRun; repeat' split
  all_goals exact kept_setOutfeed _ s
theorem kept_takeOverMove (s : State) : Kept s (takeOverMove s) := by
  unfold takeOverMove; split
  all_goals exact kept_setOutfeed _ s
theorem kept_loopHold (s : State) : Kept s (loopHold s) := by
  unfold loopHold; repeat' split
  all_goals exact kept_setOutfeed _ s
theorem kept_releaseHold (s : State) : Kept s (releaseHold s).1 := by
  unfold releaseHold; repeat' split
  all_goals first
    | exact kept_setOutfeed _ s
    | exact .refl s
    | exact (kept_setOutfeed _ s).trans (kept_issueMove _ _ _ _)
    | (simp only []; split
       · exact (kept_setOutfeed _ s).trans (kept_startFreeRun _)
       · exact kept_setOutfeed _ s)
theorem kept_freeLeave (s : State) : Kept s (freeLeave s) := by
  unfold freeLeave; repeat' split
  all_goals exact kept_setOutfeed _ s
theorem kept_outfeedFault (s : State) : Kept s (outfeedFault s) := by
  unfold outfeedFault; split
  all_goals exact kept_setOutfeed _ s
theorem kept_outfeedEStop (s : State) : Kept s (outfeedEStop s) := kept_setOutfeed _ s

/-! ### Station -/

theorem kept_updFirst (f : Entry → Entry) (s : State) (hf : ∀ e, (f e).trigger = e.trigger) : Kept s (updFirst f s) := by
  unfold updFirst; split
  · rename_i e es h
    refine kept_planner s _ fun a => ?_
    unfold QueueAscending at a; rw [h] at a
    cases a with | cons x y => exact .cons (by intro q hq; rw [hf]; exact x q hq) y
  · exact .refl s
theorem kept_setEntry (e : EntryState) (s : State) : Kept s (setEntry e s) := kept_updFirst _ s fun _ => rfl
theorem kept_setCycle (c : Cycle) (s : State) : Kept s (setCycle c s) := kept_station s _
theorem kept_clearRecords (s : State) : Kept s (clearRecords s) := kept_station s _
theorem kept_commandGate (p : GatePos) (s : State) : Kept s (commandGate p s) := by
  unfold commandGate; simp only []; split
  · exact .refl s
  · exact kept_station s _
theorem kept_commandBlades (l : Byte) (s : State) : Kept s (commandBlades l s) := kept_station s _
theorem kept_raiseRecut (e : Entry) (s : State) : Kept s (raiseRecut e s) := by
  unfold raiseRecut; split
  · exact kept_raiseFlags _ _ s
  · exact .refl s
theorem kept_prepareGate (e : Entry) (s : State) : Kept s (prepareGate e s) := by
  unfold prepareGate; split
  · exact .refl s
  · simp only []; split
    · exact (kept_raiseFlags _ _ s).trans (kept_commandGate _ _)
    · exact kept_commandGate _ s
theorem kept_prepare (e : Entry) (s : State) : Kept s (prepare e s) :=
  (((kept_setEntry _ s).trans (kept_setCycle _ _)).trans (kept_raiseRecut e _)).trans
    ((kept_prepareGate e _).trans (kept_commandBlades _ _))
theorem kept_judgeMiss (e : Entry) (err : Int) (s : State) : Kept s (judgeMiss e err s) := by
  unfold judgeMiss; extract_lets t
  have h : Kept s t := by
    show Kept s (match s.cutFlag err with
      | some f => raiseFlags f (e.cuts.map (·.panel)) s
      | none => s)
    split
    · exact kept_raiseFlags _ _ s
    · exact .refl s
  clear_value t
  refine h.trans ?_
  split
  · split
    · exact kept_raiseFlag _ _ _
    · exact .refl _
  · exact .refl _
theorem kept_correct (e : Entry) (s : State) : Kept s (correct e s) := (kept_station s _).trans (kept_askStation _ _ _)
theorem kept_goOn {f : State → State} {s : State} (hf : Kept s (f s)) : Kept s (goOn f s) := by
  unfold goOn; split
  · exact hf
  · exact kept_setCycle _ _
theorem kept_arrive (s : State) : Kept s (arrive s) := by
  unfold arrive; split
  · exact .refl s
  · extract_lets err x t
    have h : Kept s t := (kept_station s _).trans (kept_setEntry .settling _)
    clear_value t
    refine h.trans ?_
    repeat' split
    · exact kept_goOn (kept_prepare _ _)
    · exact (kept_judgeMiss _ _ _).trans (kept_goOn (kept_prepare _ _))
    · exact kept_goOn (kept_correct _ _)
theorem kept_thenArrive (r : State × Bool) : Kept r.1 (thenArrive r) := by
  unfold thenArrive; split
  · exact kept_arrive _
  · exact .refl _
theorem kept_takeUp (s : State) : Kept s (takeUp s) := by
  unfold takeUp; split
  · exact .refl s
  · extract_lets t
    have h : Kept s t := ((kept_setEntry .active s).trans (kept_setCycle .approach _)).trans (kept_clearRecords _)
    clear_value t
    refine h.trans ?_
    repeat' split
    · exact kept_askStation _ _ _
    · exact (kept_stationStop _).trans (kept_thenArrive _)
    · exact kept_arrive _
theorem kept_startTraverse (s : State) : Kept s (startTraverse s) := kept_station s _
theorem kept_endApproach (s : State) : Kept s (endApproach s) := by
  unfold endApproach; split
  · exact (kept_setEntry _ s).trans (kept_setCycle _ _)
  · exact .refl s
theorem kept_stationLeave (s : State) : Kept s (stationLeave s) := by
  unfold stationLeave; split
  · split
    · exact (kept_setOutfeed _ s).trans (kept_endApproach _)
    · exact (kept_setOutfeed _ s).trans (kept_endApproach _)
    · exact kept_endApproach s
  · exact .refl s
theorem kept_pauseSequence (s : State) : Kept s (pauseSequence s) := by
  unfold pauseSequence; split
  · exact (kept_setEntry _ s).trans (kept_setCycle _ _)
  · exact .refl s
theorem kept_stationFault (s : State) : Kept s (stationFault s) := (kept_endApproach s).trans (kept_pauseSequence _)
theorem kept_interruptTraverse (s : State) : Kept s (interruptTraverse s) := by
  unfold interruptTraverse; extract_lets x t
  have h : Kept s t := kept_station s _
  clear_value t
  refine h.trans ?_; split
  · exact (kept_station _ _).trans ((kept_setEntry _ _).trans (kept_setCycle _ _))
  · exact kept_setCycle _ _
theorem kept_stopHoming (s : State) : Kept s (stopHoming s) := by
  unfold stopHoming; split
  · exact kept_station s _
  · exact .refl s
theorem kept_stationEStop (s : State) : Kept s (stationEStop s) := by
  unfold stationEStop; extract_lets t
  have h : Kept s t := kept_stationFault s
  clear_value t
  refine h.trans ?_; split
  · exact (kept_interruptTraverse _).trans (kept_stopHoming _)
  · exact kept_stopHoming _
theorem kept_dropEntry (s : State) : Kept s (dropEntry s) := by
  unfold dropEntry; split
  · exact kept_clearRecords s
  · exact (kept_setCycle _ s).trans (kept_clearRecords _)

/-! ### Planner -/

/-- Entries in ascending order of their triggers. -/
abbrev Ascending (q : List Entry) : Prop := q.Pairwise (fun d e => d.trigger ≤ e.trigger)

theorem ascending_map {q : List Entry} (f : Entry → Entry) (h : ∀ e, (f e).trigger = e.trigger) (a : Ascending q) :
    Ascending (q.map f) := by
  rw [Ascending, List.pairwise_map]; simpa only [h] using a

theorem mem_insertEntry {e x : Entry} {q : List Entry} (h : x ∈ insertEntry e q) : x = e ∨ x ∈ q := by
  induction q with
  | nil => simpa [insertEntry] using h
  | cons y q ih =>
    unfold insertEntry at h; split at h
    · simpa using h
    · rcases List.mem_cons.mp h with h | h
      · exact .inr (by simp [h])
      · rcases ih h with h | h
        · exact .inl h
        · exact .inr (by simp [h])

theorem ascending_insertEntry {e : Entry} {q : List Entry} (a : Ascending q) : Ascending (insertEntry e q) := by
  induction q with
  | nil => exact .cons (by simp) .nil
  | cons y q ih =>
    cases a with
    | cons x z =>
      unfold insertEntry; split
      · rename_i h
        refine .cons (fun w hw => ?_) (.cons x z)
        rcases List.mem_cons.mp hw with rfl | hw
        · omega
        · have := x w hw; omega
      · rename_i h
        refine .cons (fun w hw => ?_) (ih z)
        rcases mem_insertEntry hw with rfl | hw
        · omega
        · exact x w hw

theorem kept_setQueue (q : List Entry) (s : State) (h : QueueAscending s → Ascending q) : Kept s (setQueue q s) :=
  kept_planner s _ h
theorem kept_remark (s : State) : Kept s (remark s) := by
  unfold remark; split
  · split
    · exact .refl s
    · rename_i e es h
      refine kept_setQueue _ s fun a => ?_
      unfold QueueAscending at a; rw [h] at a
      cases a with
      | cons x y =>
        have hf : ∀ q : Entry, (if q.state = .active then { q with state := .pending } else q).trigger = q.trigger := by
          intro q; split <;> rfl
        refine .cons (fun w hw => ?_) (ascending_map _ hf y)
        obtain ⟨q, hq, rfl⟩ := List.mem_map.mp hw
        rw [hf]; exact x q hq
  · exact .refl s
theorem kept_approachTarget (o n : Option Int) (s : State) : Kept s (approachTarget o n s) := by
  unfold approachTarget; repeat' split
  · exact ((kept_setCycle _ s).trans (kept_clearRecords _)).trans (kept_takeOverMove _)
  · exact (kept_stationStop s).trans (kept_thenArrive _)
  · exact kept_askStation _ _ s
theorem kept_targetUpdate (s : State) : Kept s (targetUpdate s) := by
  unfold targetUpdate; extract_lets t n old x u
  have h : Kept s t := kept_remark s
  clear_value t
  have g : Kept t u := kept_planner t _ fun a => a
  clear_value u
  refine h.trans ?_
  repeat' split
  · exact .refl _
  · exact g.trans (kept_approachTarget _ _ _)
  · exact g
theorem kept_judgeCut (r : PanelRef) (a b : Int) (s : State) : Kept s (judgeCut r a b s) := by
  unfold judgeCut; split
  · exact kept_raiseFlag _ _ s
  · exact .refl s
theorem kept_judgeLane (r : PanelRef) (a : Int) (s : State) : Kept s (judgeLane r a s) := by
  unfold judgeLane; repeat' split
  all_goals first | exact kept_raiseFlag _ _ s | exact .refl s
theorem kept_judgeNewcomer (n : Entry) (a b : Int) (s : State) : Kept s (judgeNewcomer n a b s) := by
  unfold judgeNewcomer; simp only []
  cases n.cut with
  | none =>
    cases n.lane with
    | none => exact .refl s
    | some l => exact kept_judgeLane _ _ s
  | some c =>
    cases n.lane with
    | none => exact kept_judgeCut _ _ _ s
    | some l => exact (kept_judgeCut _ _ _ s).trans (kept_judgeLane _ _ _)
theorem kept_flagMerged (c n : Entry) (s : State) : Kept s (flagMerged c n s) := by
  unfold flagMerged; split
  · exact kept_raiseFlags _ _ s
  · exact .refl s
theorem kept_placeEntry (fuel : Nat) (old : Option Int) (pushed : Bool) (w : Int) (e : Entry) (x : Int) (s : State) :
    Kept s (placeEntry fuel old pushed w e x s) := by
  induction fuel generalizing old pushed x with
  | zero => exact .refl s
  | succ n ih =>
    unfold placeEntry; split
    · split
      · exact .refl s
      · extract_lets t
        have h : Kept s t := kept_setQueue _ s ascending_insertEntry
        clear_value t
        split
        · exact h.trans (kept_judgeNewcomer _ _ _ _)
        · exact h
    · rename_i c _
      split
      · refine Kept.trans (kept_setQueue _ s fun a => ascending_map _ (fun q => ?_) a)
          ((kept_flagMerged _ _ _).trans (kept_judgeNewcomer _ _ _ _))
        split
        · rename_i hq; rw [hq]; rfl
        · rfl
      · exact ih _ _ _
theorem kept_place (old : Option Int) (e : Entry) (s : State) : Kept s (place old e s) := kept_placeEntry _ _ _ _ _ _ s
theorem kept_placeLane (l : LaneChange) (a : Option Int) (b : Int) (s : State) : Kept s (placeLane l a b s) := by
  unfold placeLane; extract_lets at'
  split
  · refine kept_setQueue _ s fun a => ascending_map _ (fun q => ?_) a
    split <;> rfl
  · exact kept_place _ _ s
theorem kept_placeCuts (r : PanelRef) (ts : List Int) (s : State) : Kept s (placeCuts r ts s) :=
  kept_foldl _ (fun s _ => kept_place _ _ s) _ s
/-- A panel that stands AT_OUTFEED is committed. -/
theorem kept_commitState (p : Panel) (s : State) (hp : p ∈ s.panels) (ha : p.state = .atOutfeed) :
    Kept s (updPanel p.ref (fun q => { q with state := .committed }) s) := by
  have hk : ∀ q : Panel, (if q.serial = p.ref.serial then { q with state := .committed } else q).plan = q.plan := by
    intro q; split <;> rfl
  constructor
  case plans =>
    show (s.panels.map _).map Panel.plan = _
    rw [List.map_map]; exact List.map_congr_left fun q _ => hk q
  case panels =>
    rintro ⟨a, b⟩
    refine ⟨?_, ?_⟩
    · intro w hw
      obtain ⟨q, hq, rfl⟩ := List.mem_map.mp hw
      refine ⟨?_, by rw [Panel.serial_of_plan (hk q)]; exact (a q hq).2⟩
      split
      · rename_i hs
        have hqp : q = p := List.inj_on_of_nodup_map b hq hp hs
        obtain ⟨c, d, e, f⟩ := (a q hq).1
        rw [hqp, ha] at c
        refine ⟨⟨(fun x => nomatch x), fun x => ?_⟩, d, fun _ => e (by rw [hqp, ha]; exact fun x => nomatch x), f⟩
        have := c.mpr (by rw [hqp] at x; exact x)
        exact nomatch this
      · exact (a q hq).1
    · have e : (s.panels.map (fun q => if q.serial = p.ref.serial then { q with state := .committed } else q)).map
          (·.serial) = s.panels.map (·.serial) := by
        rw [List.map_map]; exact List.map_congr_left fun q _ => Panel.serial_of_plan (hk q)
      exact (congrArg List.Nodup e).mpr b
  all_goals first | rfl | exact id
theorem kept_commitPanel (p : Panel) (s : State) (hp : p ∈ s.panels) (ha : p.state = .atOutfeed) :
    Kept s (commitPanel p s) := by
  unfold commitPanel; extract_lets ts told change t u
  have h : Kept s t := (kept_commitState p s hp ha).trans (kept_placeCuts _ _ _)
  clear_value t
  have g : Kept t u := by
    show Kept t (match change, ts.head? with
      | true, some tNew => placeLane ⟨p.lanes, p.ref⟩ told tNew t
      | _, _ => t)
    split
    · exact kept_placeLane _ _ _ _
    · exact .refl _
  exact (h.trans g).trans (kept_targetUpdate _)
theorem nextCommit_spec {s : State} {p : Panel} (h : s.nextCommit = some p) :
    p ∈ s.panels ∧ p.state = .atOutfeed ∧ s.hasRoom p = true := by
  unfold State.nextCommit at h; split at h
  · rename_i q hq
    split at h
    · rename_i c
      cases h
      exact ⟨List.mem_of_find?_eq_some hq, c.1, c.2⟩
    · cases h
  · cases h
theorem kept_commitLoop (n : Nat) (s : State) : Kept s (commitLoop n s) := by
  induction n generalizing s with
  | zero => exact .refl s
  | succ n ih =>
    unfold commitLoop; split
    · rename_i p hp
      exact (kept_commitPanel p s (nextCommit_spec hp).1 (nextCommit_spec hp).2.1).trans (ih _)
    · exact .refl s
theorem kept_tryCommits (s : State) : Kept s (tryCommits s) := kept_commitLoop _ s
theorem kept_planHead (r : PanelRef) (s : State) : Kept s (planHead r s) := by
  unfold planHead; extract_lets t
  have h : Kept s t := kept_updPanel _ _ s fun _ => .of_eq _ _ rfl rfl rfl rfl rfl rfl
  clear_value t
  refine h.trans (Kept.trans (kept_updPanel _ _ t fun _ => ?_) (kept_tryCommits _))
  exact .of_eq _ _ rfl rfl rfl rfl rfl rfl
theorem kept_judgeHeld (r : PanelRef) (e : Option Entry) (n : Int) (s : State) : Kept s (judgeHeld r e n s) := by
  unfold judgeHeld; repeat' split
  all_goals first | exact kept_judgeCut _ _ _ s | exact .refl s
theorem kept_placeMoved (m : List (Entry × Int)) (s : State) : Kept s (placeMoved m s) :=
  kept_foldl _ (fun s _ => kept_place _ _ s) _ s
theorem kept_applyTriggers (r : PanelRef) (ns : List Int) (p : Panel) (s : State) : Kept s (applyTriggers r ns p s) := by
  unfold applyTriggers; split
  · exact kept_updPanel _ _ s fun _ => .of_eq _ _ rfl rfl rfl rfl rfl rfl
  · extract_lets olds entries kept t u cutMoves own firstMoves lanes laneMoves before v w
    have h : Kept s t := kept_updPanel _ _ s fun _ => .of_eq _ _ rfl rfl rfl rfl rfl rfl
    have g : Kept t u := kept_foldl _ (fun s (x : Option Entry × Int) => kept_judgeHeld r x.1 x.2 s) _ _
    have i : Kept u v := kept_setQueue _ _ fun a => a.filter _
    have j : Kept v w := (kept_placeMoved _ _).trans (kept_targetUpdate _)
    have k : Kept s w := h.trans (g.trans (i.trans j))
    clear_value w
    split
    · exact k.trans (kept_tryCommits _)
    · exact k
theorem kept_refresh (r : PanelRef) (l : Length2) (s : State) : Kept s (refresh r l s) := by
  unfold refresh; split
  · rename_i p _
    split
    · exact .refl s
    · extract_lets t
      have h : Kept s t := kept_updPanel _ _ s fun _ => .of_eq _ _ rfl rfl rfl rfl rfl rfl
      clear_value t
      split
      · exact h.trans (kept_applyTriggers _ _ _ _)
      · exact h
  · exact .refl s
theorem kept_planTailM1 (r : PanelRef) (s : State) : Kept s (planTailM1 r s) := by
  unfold planTailM1; repeat' split
  all_goals first | exact kept_refresh _ _ s | exact .refl s
theorem kept_planTailM2 (r : PanelRef) (s : State) : Kept s (planTailM2 r s) := by
  unfold planTailM2; repeat' split
  all_goals first | exact kept_refresh _ _ s | exact kept_updPanel _ _ s (panelKept_raiseScale _) | exact .refl s
theorem kept_removeFirst (s : State) : Kept s (removeFirst s) :=
  (kept_setQueue _ s fun a => a.tail).trans ((kept_targetUpdate _).trans (kept_tryCommits _))
theorem kept_emptyQueue (s : State) : Kept s (emptyQueue s) := kept_planner s _ fun _ => .nil
theorem kept_dropBeyond (l : Int) (s : State) : Kept s (dropBeyond l s) := by
  unfold dropBeyond; extract_lets x t before u
  have g : Kept s t := kept_planner s _ fun a => a
  have h : Kept s u := g.trans (Kept.trans (kept_setQueue _ t fun a => a.filter _) (kept_targetUpdate _))
  clear_value u
  split
  · exact h.trans (kept_tryCommits _)
  · exact h

end Sys2Proof.Machine
end

