-- ==== Sys2Proof/Laws/KeptMarks.lean ====
section
/-!
SUPPORT. The operations of the Registration Unit and of the two mark cursors leave alone what `Kept` says. One lemma for each operation.
-/
namespace Sys2Proof.Machine

/-! ### The unit's own steps -/

/-- A step of the unit keeps the stretch and the points it began with. -/
def RegSame (x y : RegStep) : Prop := y.reg.s = x.reg.s ∧ y.reg.points = x.reg.points

theorem RegSame.refl (x : RegStep) : RegSame x x := ⟨rfl, rfl⟩
theorem RegSame.trans {x y z : RegStep} (h : RegSame x y) (g : RegSame y z) : RegSame x z :=
  ⟨g.1.trans h.1, g.2.trans h.2⟩

theorem same_takeOut (c : RegCause) (x : RegStep) : RegSame x (takeOut c x) := by
  unfold takeOut; split <;> exact ⟨rfl, rfl⟩
theorem same_changeMode (m : Mode) (c : ModeCause) (x : RegStep) : RegSame x (changeMode m c x) := by
  unfold changeMode; split
  · exact .refl x
  · extract_lets r y
    have h : RegSame x y := ⟨rfl, rfl⟩
    clear_value y
    split
    · exact h.trans (same_takeOut _ y)
    · exact h
theorem same_seekMatch (a b : Int) (x : RegStep) : RegSame x (seekMatch a b x) := by
  unfold seekMatch
  exact RegSame.trans (y := { x with reg := { x.reg with anchor := some (a, b), coastCount := 0 } }) ⟨rfl, rfl⟩
    (same_changeMode _ _ _)
theorem same_judgeMatch (i o : Int) (n : Nat) (e : Int) (x : RegStep) : RegSame x (judgeMatch i o n e x) := by
  unfold judgeMatch
  repeat' split
  all_goals first | exact ⟨rfl, rfl⟩ | exact same_takeOut _ x
theorem same_trackMatch (i o e : Int) (x : RegStep) : RegSame x (trackMatch i o e x) := by
  unfold trackMatch
  repeat' split
  all_goals first | exact same_changeMode _ _ x | exact .refl x

theorem clampInt_bounds {lo hi : Int} (h : lo ≤ hi) (v : Int) : lo ≤ clampInt lo hi v ∧ clampInt lo hi v ≤ hi := by
  unfold clampInt; split <;> [omega; (split <;> omega)]

theorem points_learn (m M a b : Int) (x : RegStep) : (learn m M a b x).reg.points = x.reg.points := by
  unfold learn; split
  · dsimp only; split <;> rfl
  · rfl
theorem stretch_learn (m M a b : Int) (x : RegStep) (h : -M ≤ x.reg.s ∧ x.reg.s ≤ M) :
    -M ≤ (learn m M a b x).reg.s ∧ (learn m M a b x).reg.s ≤ M := by
  unfold learn; split
  · dsimp only; split
    · exact clampInt_bounds (by omega) _
    · exact h
  · exact h

/-- A match keeps the points, and the stretch within S_MAX. -/
theorem regMatch_points (s : State) (a b c : Int) : (regMatch s a b c).reg.points = s.reg.points := by
  unfold regMatch; extract_lets x
  split
  · exact (same_seekMatch a b x).2
  · refine ((same_judgeMatch _ _ _ _ _).trans (same_trackMatch _ _ _ _)).2.trans ?_
    exact points_learn _ _ _ _ _
theorem regMatch_stretch (s : State) (a b c : Int) (h : StretchHeld s) :
    -(s.work .sMax) ≤ (regMatch s a b c).reg.s ∧ (regMatch s a b c).reg.s ≤ s.work .sMax := by
  unfold regMatch; extract_lets x
  split
  · rw [(same_seekMatch a b x).1]; exact h
  · have e := ((same_judgeMatch (s.work .lockIn) (s.work .lockOut) (s.workNat .nLock) (b - c)
      (learn (s.work .spanMin) (s.work .sMax) a b { x with reg := { x.reg with coastCount := 0 } })).trans
      (same_trackMatch (s.work .trackIn) (s.work .trackOut) (b - c) _)).1
    rw [e]
    exact stretch_learn _ _ _ _ _ h
theorem same_regCoast (s : State) : RegSame { reg := s.reg } (regCoast s) := by
  unfold regCoast; extract_lets n r x
  have h : RegSame { reg := s.reg } x :=
    RegSame.trans (y := { reg := { s.reg with coastCount := n } }) ⟨rfl, rfl⟩ (same_takeOut _ _)
  clear_value x
  repeat' split
  · exact h.trans (same_changeMode _ _ _)
  · exact h.trans (same_changeMode _ _ _)
  · exact h

/-- Consuming points keeps the stretch and leaves a part of the list. -/
theorem consume_stretch (a : Int) (x : RegStep) : (consumePoints a x).reg.s = x.reg.s := by
  unfold consumePoints; extract_lets left r y z
  have h : z.reg.s = x.reg.s := (same_takeOut _ y).1
  clear_value z
  repeat' split
  all_goals first | rfl | exact h | exact (same_changeMode _ _ z).1.trans h
theorem consume_points (a : Int) (x : RegStep) :
    ((consumePoints a x).reg.points) = x.reg.points ∨
      (consumePoints a x).reg.points = x.reg.points.filter (fun p => decide (a < p.pos)) := by
  unfold consumePoints; extract_lets left r y z
  have h : z.reg.points = left := (same_takeOut _ y).2
  clear_value z
  repeat' split
  · exact .inl rfl
  · exact .inr ((same_changeMode _ _ z).2.trans h)
  · exact .inr h
  · exact .inr rfl

theorem consume_ordered (a : Int) (x : RegStep)
    (h : x.reg.points.length ≤ 16 ∧ x.reg.points.Pairwise (fun p q => p.pos < q.pos)) :
    (consumePoints a x).reg.points.length ≤ 16 ∧ (consumePoints a x).reg.points.Pairwise (fun p q => p.pos < q.pos) := by
  rcases consume_points a x with e | e <;> rw [e]
  · exact h
  · exact ⟨(List.length_filter_le _ _).trans h.1, h.2.filter _⟩

/-! ### The unit's state taken over -/

theorem kept_applyReg (x : RegStep) (s : State)
    (h : StretchHeld s → -(s.work .sMax) ≤ x.reg.s ∧ x.reg.s ≤ s.work .sMax)
    (g : PointsOrdered s → x.reg.points.length ≤ 16 ∧ x.reg.points.Pairwise (fun p q => p.pos < q.pos)) :
    Kept s (applyReg x s) := (kept_reg s x.reg h g).trans (kept_queueEvents _ _)
theorem kept_applySame (x : RegStep) (s : State) (h : RegSame { reg := s.reg } x) : Kept s (applyReg x s) := by
  refine kept_applyReg x s (fun k => ?_) (fun k => ?_)
  · rw [h.1]; exact k
  · rw [h.2]; exact k

theorem mem_insertPoint {p x : Point} {q : List Point} (h : x ∈ insertPoint p q) : x = p ∨ x ∈ q := by
  induction q with
  | nil => simpa [insertPoint] using h
  | cons y q ih =>
    unfold insertPoint at h; split at h
    · simpa using h
    · rcases List.mem_cons.mp h with h | h
      · exact .inr (by simp [h])
      · rcases ih h with h | h
        · exact .inl h
        · exact .inr (by simp [h])
theorem length_insertPoint (p : Point) (q : List Point) : (insertPoint p q).length = q.length + 1 := by
  induction q with
  | nil => rfl
  | cons y q ih => unfold insertPoint; split <;> simp [ih]
theorem ordered_insertPoint {p : Point} {q : List Point} (h : ∀ x ∈ q, x.pos ≠ p.pos)
    (a : q.Pairwise (fun p q => p.pos < q.pos)) : (insertPoint p q).Pairwise (fun p q => p.pos < q.pos) := by
  induction q with
  | nil => exact .cons (by simp) .nil
  | cons y q ih =>
    cases a with
    | cons x z =>
      have hy := h y (by simp)
      unfold insertPoint; split
      · refine .cons (fun w hw => ?_) (.cons x z)
        rcases List.mem_cons.mp hw with rfl | hw
        · assumption
        · have := x w hw; omega
      · refine .cons (fun w hw => ?_) (ih (fun w hw => h w (by simp [hw])) z)
        rcases mem_insertPoint hw with rfl | hw
        · omega
        · exact x w hw

theorem kept_addPoint (k : PointKind) (pos : Int) (s : State) : Kept s (addPoint k pos s) := by
  unfold addPoint; split
  · exact .refl s
  · rename_i n
    split
    · refine kept_reg s _ (fun h => h) (fun h => ?_)
      refine ⟨by rw [length_insertPoint]; omega, ordered_insertPoint (fun x hx e => n ?_) h.2⟩
      exact List.any_eq_true.mpr ⟨x, hx, by simpa using e⟩
    · split
      · exact kept_applySame _ s (same_changeMode _ _ _)
      · exact .refl s

/-! ### The M2 cursor -/

theorem kept_setExpect2 (s : State) : Kept s (setExpect2 s) := by
  unfold setExpect2
  split
  · extract_lets w
    constructor <;> first | rfl | exact id
  · exact .of_eq rfl
  · exact .of_eq rfl

theorem panelKept_writeMark2 (m : Mark) (c : Coord) (p : Panel) : PanelKept (writeMark2 m c) p := by
  cases m
  · constructor
    · rfl
    · rintro ⟨a, b, d, e⟩
      by_cases h : p.state = .infeed
      · refine ⟨?_, b, fun _ => d (by rw [h]; exact fun x => nomatch x), e⟩
        simp only [writeMark2, h, if_true]
        rw [h] at a
        exact ⟨(fun x => nomatch x), fun x => nomatch a.mpr x⟩
      · refine ⟨?_, b, ?_, e⟩ <;> simp only [writeMark2, h, if_false] <;> assumption
  · exact .of_eq _ _ rfl rfl rfl rfl rfl rfl

theorem kept_handToPlanner (m : Mark) (r : PanelRef) (s : State) : Kept s (handToPlanner m r s) := by
  cases m
  · exact kept_planHead r s
  · exact kept_planTailM2 r s

theorem kept_resolveM2 (c : Bool) (b : Int) (s : State) : Kept s (resolveM2 c b s) := by
  unfold resolveM2; split
  · rename_i r m w _
    extract_lets before x inList ws t u v
    have ht : Kept s t := by
      refine Kept.trans (kept_reg s x.reg (fun h => ?_) (fun h => ?_)) (.of_eq rfl)
      · rw [show x.reg.s = _ from consume_stretch _ _]
        split
        · rw [(same_regCoast s).1]; exact h
        · exact regMatch_stretch s _ _ _ h
      · refine consume_ordered _ _ ?_
        split
        · rw [(same_regCoast s).2]; exact h
        · rw [regMatch_points]; exact h
    have hu : Kept t u := kept_updPanel _ _ t fun p => (panelKept_writeMark2 m ⟨b, c⟩ p).comp (panelKept_raiseAll _ _)
    have hv : Kept u v := by
      show Kept u (if inList then handToPlanner m r u else u)
      split
      · exact kept_handToPlanner _ _ _
      · exact .refl _
    exact ht.trans (hu.trans (hv.trans (kept_queueEvents _ _)))
  · exact .refl s

theorem kept_takeUp2 (n : Nat) (s : State) : Kept s (takeUp2 n s) := by
  induction n generalizing s with
  | zero => exact .refl s
  | succ n ih =>
    unfold takeUp2; extract_lets t
    have h : Kept s t := kept_setExpect2 s
    clear_value t
    repeat' split
    · exact h.trans ((kept_resolveM2 _ _ _).trans (ih _))
    · exact h
    · exact h

theorem kept_settleM2 (c : Bool) (b : Int) (s : State) : Kept s (settleM2 c b s) :=
  (kept_resolveM2 c b s).trans (kept_takeUp2 _ _)
theorem kept_notifyM2 (s : State) : Kept s (notifyM2 s) := by
  unfold notifyM2; split
  · exact kept_takeUp2 _ s
  · exact .refl s
theorem kept_coastM2 (s : State) : Kept s (coastM2 s) := by
  unfold coastM2; split
  · exact kept_settleM2 _ _ s
  · exact .refl s
theorem kept_reportM2 (l : Int) (st : Bool) (s : State) : Kept s (reportM2 l st s) := by
  unfold reportM2; repeat' split
  all_goals first | exact kept_settleM2 _ _ s | exact .refl s
theorem kept_lostBarM2 (s : State) : Kept s (lostBarM2 s) := by
  unfold lostBarM2; split
  · exact kept_coastM2 s
  · exact .refl s
theorem kept_expireM2 (s : State) : Kept s (expireM2 s) := by
  unfold expireM2; split
  · extract_lets x t
    have h : Kept s t := kept_watches s _
    clear_value t
    repeat' split
    · exact h.trans (kept_cursor2 _ _)
    · exact h.trans (kept_coastM2 _)
    · exact h.trans (kept_coastM2 _)
  · exact .refl s

/-! ### Line events and requests -/

theorem initialStretch_bounds {s : State} (h : StretchHeld s) :
    -(s.work .sMax) ≤ s.initialStretch ∧ s.initialStretch ≤ s.work .sMax :=
  clampInt_bounds (by have := h.1; have := h.2; omega) _

theorem kept_threadReg (s : State) : Kept s (threadReg s) := by
  unfold threadReg; extract_lets s0 x rx y ry reg t u
  have ht : Kept s t := by
    show Kept s (if s0 = s.work .sInit then s else queueEvent _ s)
    split
    · exact .refl s
    · exact kept_queueEvent _ s
  have hr : t.work .sMax = s.work .sMax := by rw [State.work, State.work, ht.cal]
  have hu : Kept t u := by
    refine kept_applyReg { y with reg := reg } t (fun h => ?_) (fun _ => ⟨Nat.zero_le 16, .nil⟩)
    have h2 : 0 ≤ s.work .sMax := by have := h.1; have := h.2; omega
    rw [hr]
    exact clampInt_bounds (by omega) _
  exact ht.trans (hu.trans (.of_eq rfl))
theorem kept_dropExpect2 (s : State) : Kept s (dropExpect2 s) := by
  unfold dropExpect2; split
  · exact kept_cursor2 s _
  · exact .of_eq rfl
theorem kept_clearReg (s : State) : Kept s (clearReg s) := by
  unfold clearReg; extract_lets x rx y ry reg t
  have ht : Kept s t := by
    refine Kept.trans (kept_applyReg { y with reg := reg } s (fun h => ?_) (fun _ => ⟨Nat.zero_le 16, .nil⟩)) (kept_dropExpect2 _)
    have e1 : x.reg.s = s.reg.s := (same_changeMode _ _ _).1
    have e2 : y.reg.s = x.reg.s := (same_takeOut _ _).1
    show -(s.work .sMax) ≤ y.reg.s ∧ y.reg.s ≤ s.work .sMax
    rw [e2, e1]; exact h
  clear_value t
  split
  · exact ht
  · exact ht.trans (kept_takeUp2 _ _)
theorem kept_dropAborted2 (s : State) : Kept s (dropAborted2 s) := by
  unfold dropAborted2; repeat' split
  · exact (kept_dropExpect2 s).trans (kept_takeUp2 _ _)
  · exact .refl s
  · exact .refl s
theorem kept_freedAwait2 (s : State) : Kept s (freedAwait2 s) := by
  unfold freedAwait2; repeat' split
  all_goals exact .of_eq rfl
theorem kept_setRegister (l : LockMode) (c : Choice) (s : State) : Kept s (setRegister l c s) := by
  unfold setRegister; split
  · exact .refl s
  · extract_lets r x
    refine kept_applySame _ s ?_
    have h : RegSame { reg := s.reg } x := ⟨rfl, rfl⟩
    clear_value x
    split
    · exact h
    · exact h.trans (same_changeMode _ _ _)
  · exact kept_applySame _ s ⟨rfl, rfl⟩

/-! ### The M1 cursor -/

theorem kept_bars (s : State) (b : Bar) (w : Watches) :
    Kept s { s with watches := w, sensor1 := { s.sensor1 with bar := b } } := by
  constructor <;> first | rfl | exact id
theorem kept_setCursor1 (st : M1State) (e : Option Expect1) (s : State) : Kept s (setCursor1 st e s) := kept_cursor1 s _
theorem kept_openWindow1 (r : PanelRef) (m : Mark) (x : Int) (s : State) : Kept s (openWindow1 r m x s) :=
  (kept_setCursor1 _ _ s).trans (kept_watches _ _)
theorem kept_becomeIdle1 (s : State) : Kept s (becomeIdle1 s) := by
  unfold becomeIdle1; extract_lets base d
  exact Kept.trans (t := { s with drives := { d with starveBase := base } }) (kept_drives s _ rfl) (kept_setCursor1 _ _ _)
theorem kept_setExpect1 (s : State) : Kept s (setExpect1 s) := by
  unfold setExpect1; extract_lets a b t
  have h : Kept s t := kept_bars s _ _
  clear_value t
  refine h.trans ?_
  repeat' split
  all_goals first
    | exact kept_openWindow1 _ _ _ _
    | exact kept_setCursor1 _ _ _
    | exact kept_becomeIdle1 _

theorem panelKept_writeMark1 (m : Mark) (c : Coord) (p : Panel) : PanelKept (writeMark1 m c) p := by
  cases m
  · constructor
    · rfl
    · rintro ⟨a, b, d, e⟩
      by_cases h : p.state = .queued
      · refine ⟨?_, b, fun _ => d (by rw [h]; exact fun x => nomatch x), e⟩
        simp only [writeMark1, h, if_true]
        rw [h] at a
        exact ⟨(fun x => nomatch x), fun x => nomatch a.mpr x⟩
      · refine ⟨?_, b, ?_, e⟩ <;> simp only [writeMark1, h, if_false] <;> assumption
  · exact .of_eq _ _ rfl rfl rfl rfl rfl rfl

theorem kept_resolveM1 (c : Bool) (pos : Int) (s : State) : Kept s (resolveM1 c pos s) := by
  unfold resolveM1; split
  · rename_i e _
    extract_lets x y t u v
    have ht : Kept s t := .of_eq rfl
    have hu : Kept t u := by
      refine kept_updPanel _ _ t fun p => ?_
      refine (panelKept_writeMark1 e.mark ⟨pos, c⟩ p).comp
        (g := fun q => if c then q.raise .coastedM1 else q) ?_
      exact .ite (fun _ => c = true) (panelKept_raise _ _) (.id _)
    have hv : Kept u v := by
      show Kept u (if c then queueEvent _ u else u)
      split
      · exact kept_queueEvent _ _
      · exact .refl _
    refine ht.trans (hu.trans (hv.trans ?_))
    clear_value v
    split
    · exact (kept_planTailM1 _ _).trans (kept_notifyM2 _)
    · exact kept_notifyM2 _
  · exact .refl s

theorem kept_takeUp1 (n : Nat) (s : State) : Kept s (takeUp1 n s) := by
  induction n generalizing s with
  | zero => exact .refl s
  | succ n ih =>
    unfold takeUp1; extract_lets t
    have h : Kept s t := kept_setExpect1 s
    clear_value t
    repeat' split
    · exact h.trans ((kept_resolveM1 _ _ _).trans (ih _))
    · exact h
    · exact h
theorem kept_takeUpM1 (s : State) : Kept s (takeUpM1 s) := by
  unfold takeUpM1; split
  · exact .refl s
  · exact kept_takeUp1 _ s
theorem kept_settleM1 (c : Bool) (p : Int) (s : State) : Kept s (settleM1 c p s) :=
  (kept_resolveM1 c p s).trans (kept_takeUpM1 _)
theorem kept_coastM1 (s : State) : Kept s (coastM1 s) := by
  unfold coastM1; split
  · exact kept_settleM1 _ _ s
  · exact .refl s
theorem kept_reportM1 (l : Int) (st : Bool) (s : State) : Kept s (reportM1 l st s) := by
  unfold reportM1; repeat' split
  all_goals first | exact kept_settleM1 _ _ s | exact .refl s
theorem kept_lostBarM1 (s : State) : Kept s (lostBarM1 s) := by
  unfold lostBarM1; split
  · exact kept_coastM1 s
  · exact .refl s
theorem kept_expireM1 (s : State) : Kept s (expireM1 s) := by
  unfold expireM1; split
  · extract_lets x t
    have h : Kept s t := kept_watches s _
    clear_value t
    repeat' split
    · exact h.trans (kept_cursor1 _ _)
    · exact h.trans (kept_coastM1 _)
    · exact h.trans (kept_coastM1 _)
  · exact .refl s
theorem kept_releaseHold1 (s : State) : Kept s (releaseHold1 s) := by
  unfold releaseHold1; extract_lets a b t
  have h : Kept s t := .of_eq rfl
  clear_value t
  split
  · exact h.trans (kept_takeUpM1 _)
  · exact h
theorem kept_spliceCursor1 (l : Int) (s : State) : Kept s (spliceCursor1 l s) := by
  unfold spliceCursor1; extract_lets isTail t hold a b u
  have ht : Kept s t := by
    show Kept s (match isTail, s.cursor1.expect.bind (·.window) with
      | true, some w => resolveM1 true w.expected s
      | _, _ => s)
    split
    · exact kept_resolveM1 _ _ _
    · exact .refl s
  have hu : Kept t u := .of_eq rfl
  exact ht.trans (hu.trans (kept_takeUpM1 _))
theorem kept_haltM1 (s : State) : Kept s (haltM1 s) := (kept_setCursor1 _ _ s).trans (kept_watches _ _)
theorem kept_threadM1 (s : State) : Kept s (threadM1 s) :=
  (kept_cursor1 s _).trans ((kept_becomeIdle1 _).trans (kept_takeUpM1 _))
theorem kept_clearM1 (s : State) : Kept s (clearM1 s) := by
  unfold clearM1; extract_lets x t
  have h : Kept s t := kept_cursor1 s _
  clear_value t
  split
  · exact h
  · exact h.trans (((kept_setCursor1 _ _ _).trans (kept_watches _ _)).trans ((kept_becomeIdle1 _).trans (kept_takeUpM1 _)))

end Sys2Proof.Machine
end

