-- ==== Sys2Proof/Laws/KeptLine.lean ====
section
/-!
SUPPORT. The operations of the Laminator's nip and of Line Control, the end of every event (Settle), and the line-wide effects leave alone what `Kept` says. One
lemma for each operation.
-/
namespace Sys2Proof.Machine

/-! ### The Laminator -/

theorem kept_updLam (f : Laminator → Laminator) (s : State) : Kept s (updLam f s) := kept_lam s _
theorem kept_setHeat (h : Heat) (v : Nat) (s : State) : Kept s (setHeat h v s) := kept_lam s _
theorem kept_acceptHeat (v : Nat) (s : State) : Kept s (acceptHeat v s) := by
  unfold acceptHeat; repeat' split
  · exact .refl s
  · exact (kept_setHeat _ _ s).trans (kept_updLam _ _)
  · exact kept_setHeat _ _ s
  · exact (kept_setHeat _ _ s).trans (kept_updLam _ _)
theorem kept_enterStandby (s : State) : Kept s (enterStandby s) := (kept_setHeat _ _ s).trans (kept_updLam _ _)
theorem kept_leaveStandby (s : State) : Kept s (leaveStandby s) := by
  unfold leaveStandby; split
  · exact kept_setHeat _ _ s
  · exact .refl s
theorem kept_confirmNip (s : State) : Kept s (confirmNip s) := by
  unfold confirmNip; split
  · split
    · extract_lets t
      have h : Kept s t := kept_updLam _ s
      clear_value t
      split
      · exact h.trans (kept_addPoint _ _ _)
      · exact h
    · exact .refl s
  · split
    · exact kept_updLam _ s
    · exact .refl s
  · exact .refl s
theorem kept_commandClose (s : State) : Kept s (commandClose s) := by
  unfold commandClose; split
  · exact (kept_updLam _ s).trans (kept_confirmNip _)
  · exact (kept_updLam _ s).trans (kept_confirmNip _)
  · exact .refl s
theorem kept_commandOpen (s : State) : Kept s (commandOpen s) := by
  unfold commandOpen; split
  · extract_lets t
    have h : Kept s t := kept_updLam _ s
    clear_value t
    refine h.trans ?_
    split
    · exact (kept_updLam _ t).trans (kept_confirmNip _)
    · exact (kept_updLam _ t).trans (kept_confirmNip _)
    · exact .refl t
  · exact .refl s
theorem kept_springNip (i : NipInput) (s : State) : Kept s (springNip i s) := by
  unfold springNip; extract_lets t
  split
  · exact kept_updLam _ s
  · exact kept_updLam _ s
  · exact .refl s
theorem kept_settleTest (t : Nat) (s : State) : Kept s (settleTest t s) := by
  unfold settleTest; extract_lets b
  repeat' split
  all_goals first | exact .refl s | exact kept_lam s _
theorem kept_loseTemperature (s : State) : Kept s (loseTemperature s) := by
  unfold loseTemperature; split
  · exact kept_updLam _ s
  · exact kept_setHeat _ _ s
  · exact .refl s
theorem kept_idleUpdate (s : State) : Kept s (idleUpdate s) := by
  unfold idleUpdate; repeat' split
  all_goals first | exact .refl s | exact kept_updLam _ s
theorem kept_dwellUpdate (s : State) : Kept s (dwellUpdate s) := by
  unfold dwellUpdate; repeat' split
  all_goals first | exact .refl s | exact kept_updLam _ s

/-! ### Line Control -/

theorem kept_setLine (l : LineBlock) (s : State) : Kept s (setLine l s) := kept_line s l
theorem kept_leaveFeeding (s : State) : Kept s (leaveFeeding s) := (kept_stationLeave s).trans (kept_freeLeave _)
theorem kept_enterFaulted (c : FaultCause) (s : State) : Kept s (enterFaulted c s) :=
  (kept_setLine _ s).trans ((kept_stationFault _).trans ((kept_outfeedFault _).trans (kept_commandOpen _)))
theorem kept_raiseFault (c : FaultCause) (s : State) : Kept s (raiseFault c s) := by
  unfold raiseFault; split
  · exact kept_queueEvent _ s
  · exact (kept_queueEvent _ s).trans (kept_enterFaulted _ _)
theorem kept_enterEStop (s : State) : Kept s (enterEStop s) := by
  unfold enterEStop; split
  · exact .refl s
  · exact (kept_setLine _ s).trans ((kept_stationEStop _).trans ((kept_outfeedEStop _).trans (kept_commandOpen _)))
theorem kept_abortPanels (s : State) : Kept s (abortPanels s) := kept_panels s _ fun p _ => panelKept_abort p
theorem kept_enterEndOfWeb (l : LineBlock) (s : State) : Kept s (enterEndOfWeb l s) :=
  (kept_setLine _ s).trans ((kept_abortPanels _).trans ((kept_emptyQueue _).trans ((kept_dropEntry _).trans
    ((kept_dropAborted2 _).trans (kept_commandOpen _)))))
theorem kept_starvedEffects (c : StopCause) (s : State) : Kept s (starvedEffects c s) := by
  unfold starvedEffects; split
  · exact .of_eq rfl
  · exact .refl s
theorem kept_beginControlled (c : StopCause) (s : State) : Kept s (beginControlled c s) :=
  (kept_setLine _ s).trans ((kept_leaveFeeding _).trans (kept_starvedEffects _ _))
theorem kept_webEndElsewhere (s : State) : Kept s (webEndElsewhere s) := by
  unfold webEndElsewhere; split
  · exact kept_enterEndOfWeb _ s
  · exact kept_enterEndOfWeb _ s
  · exact kept_setLine _ s
  · exact kept_setLine _ s
  · exact .refl s
theorem kept_handCycleEnd (c : StopCause) (s : State) : Kept s (handCycleEnd c s) := by
  unfold handCycleEnd; split
  · exact kept_setLine _ s
  · exact .refl s
theorem kept_handControlled (c : StopCause) (s : State) : Kept s (handControlled c s) := by
  unfold handControlled; repeat' split
  all_goals first
    | exact kept_beginControlled _ s
    | exact kept_setLine _ s
    | exact kept_webEndElsewhere s
theorem kept_endCycleEnd (s : State) : Kept s (endCycleEnd s) := (kept_setLine _ s).trans (kept_leaveFeeding _)
theorem kept_strokeReported (s : State) : Kept s (strokeReported s) := by
  unfold strokeReported; split
  · exact kept_endCycleEnd s
  · exact .refl s
theorem kept_endStop (s : State) : Kept s (endStop s) := by
  unfold endStop; repeat' split
  all_goals first
    | exact kept_endCycleEnd s
    | exact kept_enterEndOfWeb _ s
    | exact kept_setLine _ s
theorem kept_drainTest (s : State) : Kept s (drainTest s) := by
  unfold drainTest; split
  · exact Kept.trans (t := { s with drives := { s.drives with webSeq := .finishing } }) (kept_drives s _ rfl)
      (kept_handControlled _ _)
  · exact .refl s

/-! ### The end of an event -/

theorem kept_completeLane (e : Entry) (s : State) : Kept s (completeLane e s) := by
  unfold completeLane; extract_lets lanes x t
  have h : Kept s t := Kept.trans (t := { s with station := { x with laneSet := lanes, cycle := .idle } })
    (kept_station s _) (kept_clearRecords _)
  exact h.trans ((kept_removeFirst _).trans (kept_drainTest _))
theorem kept_pumpStep {s t : State} (h : pumpStep s = some t) : Kept s t := by
  unfold pumpStep at h
  split at h
  · split at h
    · cases h; exact kept_takeUp s
    · cases h
  · split at h
    · split at h
      · cases h
      · split at h
        · cases h; exact kept_completeLane _ s
        · split at h
          · cases h; exact kept_startTraverse s
          · cases h
    · cases h
  · cases h
theorem kept_pump (n : Nat) (s : State) : Kept s (pump n s) := by
  induction n generalizing s with
  | zero => exact .refl s
  | succ n ih =>
    unfold pump; split
    · rename_i h; exact (kept_pumpStep h).trans (ih _)
    · exact .refl s

theorem panelKept_creditPanel (d : Bool) (i : Nat) (p : Panel) : PanelKept (creditPanel d i) p := by
  by_cases hd : p.state = .done
  · have e : creditPanel d i p = p := by unfold creditPanel; rw [if_pos hd]
    exact ⟨by rw [e], fun h => by rw [e]; exact h⟩
  · unfold creditPanel
    constructor
    · show (if p.state = .done then p else _ : Panel).plan = _
      rw [if_neg hd]; extract_lets q
      split <;> rfl
    · intro h
      obtain ⟨a, b, c, e⟩ := h
      have c := c hd
      show Panel.Sound (if p.state = .done then p else _ : Panel)
      rw [if_neg hd]; extract_lets q
      have hq : q.cutsDone = p.cutsDone + 1 := rfl
      have hl : q.cuts = p.cuts := rfl
      have hs : q.state = .cutting := rfl
      have hc : q.completion = p.completion := rfl
      have hp : q.delivered + q.scrapped ≤ q.cutsDone := by
        show (if 2 ≤ i ∧ d then p.delivered + 1 else p.delivered) + (if 2 ≤ i ∧ ¬ d then p.scrapped + 1 else p.scrapped)
          ≤ p.cutsDone + 1
        repeat' split
        all_goals first | omega | simp_all
      clear_value q
      split
      · exact ⟨⟨fun _ => rfl, fun _ => rfl⟩, by show q.cutsDone ≤ q.cuts.length; rw [hq, hl]; omega,
          fun x => absurd rfl x, hp⟩
      · refine ⟨⟨fun x => ?_, fun x => ?_⟩, ?_, fun _ => ?_, hp⟩
        · rw [hs] at x; exact nomatch x
        · rw [hc] at x; exact absurd (a.mpr x) hd
        · rw [hq, hl]; omega
        · rw [hq] at *; omega
theorem kept_creditCuts (cs : List CutRef) (s : State) : Kept s (creditCuts cs s) :=
  kept_foldl _ (fun s (c : CutRef) => kept_updPanel c.panel _ s (panelKept_creditPanel _ c.index)) cs s
theorem kept_knifeAt (h : Home) (s : State) : Kept s (knifeAt h s) := kept_station s _
theorem kept_completeStroke (s : State) : Kept s (completeStroke s) := by
  unfold completeStroke; extract_lets t
  have h : Kept s t := kept_knifeAt _ s
  clear_value t
  refine h.trans ?_
  split
  · exact (kept_clearRecords t).trans ((kept_setCycle _ _).trans (kept_strokeReported _))
  · rename_i e _
    extract_lets lanes u x v w
    have hu : Kept t u := kept_creditCuts _ _
    have hv : Kept u v := Kept.trans (t := { u with station := { x with laneSet := lanes, cycle := .idle } })
      (kept_station u _) (kept_clearRecords _)
    have hw : Kept v w := (kept_removeFirst v).trans (kept_drainTest _)
    refine (hu.trans (hv.trans hw)).trans ?_
    refine Kept.trans (t := if proofDone t u e.cuts then handCycleEnd .proof w else w) ?_ (kept_strokeReported _)
    split
    · exact kept_handCycleEnd _ _
    · exact .refl _

theorem kept_starveUpdate (s : State) : Kept s (starveUpdate s) := by
  unfold starveUpdate; repeat' split
  all_goals exact kept_watches s _
theorem kept_infeedUpdate (s : State) : Kept s (infeedUpdate s) := kept_drives s _ rfl
theorem kept_closeUpdate (s : State) : Kept s (closeUpdate s) := by
  unfold closeUpdate; split
  · exact kept_commandClose s
  · exact .refl s
theorem kept_freeUpdate (old s : State) : Kept s (freeUpdate old s) := by
  unfold freeUpdate; split
  · exact kept_startFreeRun s
  · exact .refl s
theorem kept_bringUp (s : State) : Kept s (bringUp s) :=
  (kept_closeUpdate s).trans ((kept_infeedUpdate _).trans ((kept_dwellUpdate _).trans ((kept_idleUpdate _).trans
    (kept_starveUpdate _))))
theorem kept_lineUpdate (old s : State) : Kept s (lineUpdate old s) := by
  unfold lineUpdate; split
  · exact .refl s
  · exact kept_queueEvent _ s
theorem kept_attnUpdate (s : State) : Kept s (attnUpdate s) := by constructor <;> first | rfl | exact id
theorem kept_finish (old s : State) : Kept s (finish old s) :=
  (kept_pump _ s).trans ((kept_endStop _).trans ((kept_freeUpdate old _).trans ((kept_bringUp _).trans
    ((kept_lineUpdate old _).trans (kept_attnUpdate _)))))

end Sys2Proof.Machine
end

