-- ==== Sys2Proof/WellFormed.lean ====
section
/-!
DEFINITION. Which commands are well formed: the checks that a command as written can stand for one the part can be given.
-/
namespace Sys2Proof

/-- The body of a frame is at most 250 bytes, two of them kind and tag (R186, R199). -/
def payloadFits (payload : List Byte) : Bool := decide (payload.length ≤ 248)

/-- A command is well formed: a request's payload fits a frame; an unknown kind is none of the catalogue (R191, R192); a reception brings at least one
byte. -/
def Instr.wf : Instr → Bool
  | .sync _ p => payloadFits p
  | .status _ p => payloadFits p
  | .setAttention _ p => payloadFits p
  | .fetchEvents _ p => payloadFits p
  | .fetchDone _ p => payloadFits p
  | .plan _ p => payloadFits p
  | .cancel _ p => payloadFits p
  | .query _ p => payloadFits p
  | .thread _ p => payloadFits p
  | .run _ p => payloadFits p
  | .hold _ p => payloadFits p
  | .clear _ p => payloadFits p
  | .resume _ p => payloadFits p
  | .homeKnife _ p => payloadFits p
  | .teach _ p => payloadFits p
  | .setSpeed _ p => payloadFits p
  | .setHeat _ p => payloadFits p
  | .setRegister _ p => payloadFits p
  | .calRead _ p => payloadFits p
  | .calWrite _ p => payloadFits p
  | .unknownRequestKind k _ p => payloadFits p && decide (k ∉ Machine.catalogue)
  | .frameReceived bytes => !bytes.isEmpty
  | .frameGap => true
  | .replySent => true
  | .powerOn _ _ _ => true
  | .resetPin => true
  | .linkBreak => true
  | .supplyLow => true
  | .resetEnd => true
  | .encoderStep _ _ _ => true
  | .barLeadingEdge _ => true
  | .barTrailingEdge _ => true
  | .barMaxExceeded _ => true
  | .m1WindowExpiry => true
  | .spliceHoldRelease => true
  | .printSplice => true
  | .webEndReport => true
  | .teachSpanReached _ => true
  | .teachTimeout _ => true
  | .m2WindowExpiry => true
  | .conversionComplete _ => true
  | .settleTimer => true
  | .idleTimer => true
  | .dwellMark => true
  | .dwellMax => true
  | .nipTimeout => true
  | .nipConfirm _ => true
  | .nipConfirmLost _ => true
  | .filmSplice => true
  | .filmOut => true
  | .stackFull => true
  | .eStop => true
  | .inDrive => true
  | .outDrive => true
  | .moveEnded => true
  | .moveTimeout => true
  | .tailOut => true
  | .planStarved => true
  | .deviceConfirm _ _ => true
  | .gateTimeout => true
  | .bladeTimeout _ => true
  | .strokeComplete => true
  | .knifeTimeout => true
  | .homingComplete => true
  | .homeSwitchChange _ _ => true
  | .calWriteComplete => true
  | .eStopRelease => true
  | .inDriveClear => true
  | .outDriveClear => true
  | .filmOutClear => true
  | .stackFullClear => true
  | .webPresent => true
  | .spliceInputClear => true
  | .filmSpliceClear => true
  | .receiveLineMark => true

end Sys2Proof
end

