-- ==== Sys2Proof/Laws/PerInstr.lean ====
section
/-!
SUPPORT. One law of every command as it is written: a well-formed request fits a frame of the link (R186, R199).
-/
namespace Sys2Proof

/-- The kind, tag and payload of a request's frame (R192, R199); the other commands have none. -/
def Instr.frame : Instr → Option (Byte × Byte × List Byte)
  | .sync t p => some (0x01, t, p)
  | .status t p => some (0x02, t, p)
  | .setAttention t p => some (0x03, t, p)
  | .fetchEvents t p => some (0x04, t, p)
  | .fetchDone t p => some (0x05, t, p)
  | .plan t p => some (0x10, t, p)
  | .cancel t p => some (0x11, t, p)
  | .query t p => some (0x12, t, p)
  | .thread t p => some (0x20, t, p)
  | .run t p => some (0x21, t, p)
  | .hold t p => some (0x22, t, p)
  | .clear t p => some (0x23, t, p)
  | .resume t p => some (0x24, t, p)
  | .homeKnife t p => some (0x25, t, p)
  | .teach t p => some (0x26, t, p)
  | .setSpeed t p => some (0x30, t, p)
  | .setHeat t p => some (0x31, t, p)
  | .setRegister t p => some (0x32, t, p)
  | .calRead t p => some (0x40, t, p)
  | .calWrite t p => some (0x41, t, p)
  | .unknownRequestKind k t p => some (k, t, p)
  | .frameReceived _ => none
  | .frameGap => none
  | .replySent => none
  | .powerOn _ _ _ => none
  | .resetPin => none
  | .linkBreak => none
  | .supplyLow => none
  | .resetEnd => none
  | .encoderStep _ _ _ => none
  | .barLeadingEdge _ => none
  | .barTrailingEdge _ => none
  | .barMaxExceeded _ => none
  | .m1WindowExpiry => none
  | .spliceHoldRelease => none
  | .printSplice => none
  | .webEndReport => none
  | .teachSpanReached _ => none
  | .teachTimeout _ => none
  | .m2WindowExpiry => none
  | .conversionComplete _ => none
  | .settleTimer => none
  | .idleTimer => none
  | .dwellMark => none
  | .dwellMax => none
  | .nipTimeout => none
  | .nipConfirm _ => none
  | .nipConfirmLost _ => none
  | .filmSplice => none
  | .filmOut => none
  | .stackFull => none
  | .eStop => none
  | .inDrive => none
  | .outDrive => none
  | .moveEnded => none
  | .moveTimeout => none
  | .tailOut => none
  | .planStarved => none
  | .deviceConfirm _ _ => none
  | .gateTimeout => none
  | .bladeTimeout _ => none
  | .strokeComplete => none
  | .knifeTimeout => none
  | .homingComplete => none
  | .homeSwitchChange _ _ => none
  | .calWriteComplete => none
  | .eStopRelease => none
  | .inDriveClear => none
  | .outDriveClear => none
  | .filmOutClear => none
  | .stackFullClear => none
  | .webPresent => none
  | .spliceInputClear => none
  | .filmSpliceClear => none
  | .receiveLineMark => none

/-- A well-formed request's body, its kind, tag and payload, has a length that a frame's length byte can give (R186). -/
def Laws.EncFits.Statement (i : Instr) : Prop :=
  i.wf = true → ∀ k t p, i.frame = some (k, t, p) → 2 ≤ p.length + 2 ∧ p.length + 2 ≤ 250

theorem Laws.EncFits.of_payload {p q : List Byte} (h : payloadFits p = true) (e : p = q) : 2 ≤ q.length + 2 ∧ q.length + 2 ≤ 250 := by
  unfold payloadFits at h
  subst e
  exact ⟨Nat.le_add_left 2 _, Nat.add_le_add_right (of_decide_eq_true h) 2⟩

theorem Laws.EncFits.sync (t : Byte) (p : List Byte) : Laws.EncFits.Statement (.sync t p) := fun h _ _ _ e => by
  cases e; exact of_payload h rfl
theorem Laws.EncFits.status (t : Byte) (p : List Byte) : Laws.EncFits.Statement (.status t p) := fun h _ _ _ e => by
  cases e; exact of_payload h rfl
theorem Laws.EncFits.setAttention (t : Byte) (p : List Byte) : Laws.EncFits.Statement (.setAttention t p) := fun h _ _ _ e => by
  cases e; exact of_payload h rfl
theorem Laws.EncFits.fetchEvents (t : Byte) (p : List Byte) : Laws.EncFits.Statement (.fetchEvents t p) := fun h _ _ _ e => by
  cases e; exact of_payload h rfl
theorem Laws.EncFits.fetchDone (t : Byte) (p : List Byte) : Laws.EncFits.Statement (.fetchDone t p) := fun h _ _ _ e => by
  cases e; exact of_payload h rfl
theorem Laws.EncFits.plan (t : Byte) (p : List Byte) : Laws.EncFits.Statement (.plan t p) := fun h _ _ _ e => by
  cases e; exact of_payload h rfl
theorem Laws.EncFits.cancel (t : Byte) (p : List Byte) : Laws.EncFits.Statement (.cancel t p) := fun h _ _ _ e => by
  cases e; exact of_payload h rfl
theorem Laws.EncFits.query (t : Byte) (p : List Byte) : Laws.EncFits.Statement (.query t p) := fun h _ _ _ e => by
  cases e; exact of_payload h rfl
theorem Laws.EncFits.thread (t : Byte) (p : List Byte) : Laws.EncFits.Statement (.thread t p) := fun h _ _ _ e => by
  cases e; exact of_payload h rfl
theorem Laws.EncFits.run (t : Byte) (p : List Byte) : Laws.EncFits.Statement (.run t p) := fun h _ _ _ e => by
  cases e; exact of_payload h rfl
theorem Laws.EncFits.hold (t : Byte) (p : List Byte) : Laws.EncFits.Statement (.hold t p) := fun h _ _ _ e => by
  cases e; exact of_payload h rfl
theorem Laws.EncFits.clear (t : Byte) (p : List Byte) : Laws.EncFits.Statement (.clear t p) := fun h _ _ _ e => by
  cases e; exact of_payload h rfl
theorem Laws.EncFits.resume (t : Byte) (p : List Byte) : Laws.EncFits.Statement (.resume t p) := fun h _ _ _ e => by
  cases e; exact of_payload h rfl
theorem Laws.EncFits.homeKnife (t : Byte) (p : List Byte) : Laws.EncFits.Statement (.homeKnife t p) := fun h _ _ _ e => by
  cases e; exact of_payload h rfl
theorem Laws.EncFits.teach (t : Byte) (p : List Byte) : Laws.EncFits.Statement (.teach t p) := fun h _ _ _ e => by
  cases e; exact of_payload h rfl
theorem Laws.EncFits.setSpeed (t : Byte) (p : List Byte) : Laws.EncFits.Statement (.setSpeed t p) := fun h _ _ _ e => by
  cases e; exact of_payload h rfl
theorem Laws.EncFits.setHeat (t : Byte) (p : List Byte) : Laws.EncFits.Statement (.setHeat t p) := fun h _ _ _ e => by
  cases e; exact of_payload h rfl
theorem Laws.EncFits.setRegister (t : Byte) (p : List Byte) : Laws.EncFits.Statement (.setRegister t p) := fun h _ _ _ e => by
  cases e; exact of_payload h rfl
theorem Laws.EncFits.calRead (t : Byte) (p : List Byte) : Laws.EncFits.Statement (.calRead t p) := fun h _ _ _ e => by
  cases e; exact of_payload h rfl
theorem Laws.EncFits.calWrite (t : Byte) (p : List Byte) : Laws.EncFits.Statement (.calWrite t p) := fun h _ _ _ e => by
  cases e; exact of_payload h rfl
theorem Laws.EncFits.unknownRequestKind (k t : Byte) (p : List Byte) : Laws.EncFits.Statement (.unknownRequestKind k t p) := fun h _ _ _ e => by
  cases e; exact of_payload (Bool.and_eq_true_iff.mp h).1 rfl
theorem Laws.EncFits.frameReceived (bytes : List RxByte) : Laws.EncFits.Statement (.frameReceived bytes) := fun _ _ _ _ e => nomatch e
theorem Laws.EncFits.frameGap : Laws.EncFits.Statement (.frameGap) := fun _ _ _ _ e => nomatch e
theorem Laws.EncFits.replySent : Laws.EncFits.Statement (.replySent) := fun _ _ _ _ e => nomatch e
theorem Laws.EncFits.powerOn (blades : BitVec 3) (laminator baud : Bool) : Laws.EncFits.Statement (.powerOn blades laminator baud) := fun _ _ _ _ e => nomatch e
theorem Laws.EncFits.resetPin : Laws.EncFits.Statement (.resetPin) := fun _ _ _ _ e => nomatch e
theorem Laws.EncFits.linkBreak : Laws.EncFits.Statement (.linkBreak) := fun _ _ _ _ e => nomatch e
theorem Laws.EncFits.supplyLow : Laws.EncFits.Statement (.supplyLow) := fun _ _ _ _ e => nomatch e
theorem Laws.EncFits.resetEnd : Laws.EncFits.Statement .resetEnd := fun _ _ _ _ e => nomatch e
theorem Laws.EncFits.encoderStep (roll : Roll) (a b : Bool) : Laws.EncFits.Statement (.encoderStep roll a b) := fun _ _ _ _ e => nomatch e
theorem Laws.EncFits.barLeadingEdge (sensor : Sensor) : Laws.EncFits.Statement (.barLeadingEdge sensor) := fun _ _ _ _ e => nomatch e
theorem Laws.EncFits.barTrailingEdge (sensor : Sensor) : Laws.EncFits.Statement (.barTrailingEdge sensor) := fun _ _ _ _ e => nomatch e
theorem Laws.EncFits.barMaxExceeded (sensor : Sensor) : Laws.EncFits.Statement (.barMaxExceeded sensor) := fun _ _ _ _ e => nomatch e
theorem Laws.EncFits.m1WindowExpiry : Laws.EncFits.Statement (.m1WindowExpiry) := fun _ _ _ _ e => nomatch e
theorem Laws.EncFits.spliceHoldRelease : Laws.EncFits.Statement (.spliceHoldRelease) := fun _ _ _ _ e => nomatch e
theorem Laws.EncFits.printSplice : Laws.EncFits.Statement (.printSplice) := fun _ _ _ _ e => nomatch e
theorem Laws.EncFits.webEndReport : Laws.EncFits.Statement (.webEndReport) := fun _ _ _ _ e => nomatch e
theorem Laws.EncFits.teachSpanReached (sensor : Sensor) : Laws.EncFits.Statement (.teachSpanReached sensor) := fun _ _ _ _ e => nomatch e
theorem Laws.EncFits.teachTimeout (sensor : Sensor) : Laws.EncFits.Statement (.teachTimeout sensor) := fun _ _ _ _ e => nomatch e
theorem Laws.EncFits.m2WindowExpiry : Laws.EncFits.Statement (.m2WindowExpiry) := fun _ _ _ _ e => nomatch e
theorem Laws.EncFits.conversionComplete (result : BitVec 10) : Laws.EncFits.Statement (.conversionComplete result) := fun _ _ _ _ e => nomatch e
theorem Laws.EncFits.settleTimer : Laws.EncFits.Statement (.settleTimer) := fun _ _ _ _ e => nomatch e
theorem Laws.EncFits.idleTimer : Laws.EncFits.Statement (.idleTimer) := fun _ _ _ _ e => nomatch e
theorem Laws.EncFits.dwellMark : Laws.EncFits.Statement (.dwellMark) := fun _ _ _ _ e => nomatch e
theorem Laws.EncFits.dwellMax : Laws.EncFits.Statement (.dwellMax) := fun _ _ _ _ e => nomatch e
theorem Laws.EncFits.nipTimeout : Laws.EncFits.Statement (.nipTimeout) := fun _ _ _ _ e => nomatch e
theorem Laws.EncFits.nipConfirm (input : NipInput) : Laws.EncFits.Statement (.nipConfirm input) := fun _ _ _ _ e => nomatch e
theorem Laws.EncFits.nipConfirmLost (input : NipInput) : Laws.EncFits.Statement (.nipConfirmLost input) := fun _ _ _ _ e => nomatch e
theorem Laws.EncFits.filmSplice : Laws.EncFits.Statement (.filmSplice) := fun _ _ _ _ e => nomatch e
theorem Laws.EncFits.filmOut : Laws.EncFits.Statement (.filmOut) := fun _ _ _ _ e => nomatch e
theorem Laws.EncFits.stackFull : Laws.EncFits.Statement (.stackFull) := fun _ _ _ _ e => nomatch e
theorem Laws.EncFits.eStop : Laws.EncFits.Statement (.eStop) := fun _ _ _ _ e => nomatch e
theorem Laws.EncFits.inDrive : Laws.EncFits.Statement (.inDrive) := fun _ _ _ _ e => nomatch e
theorem Laws.EncFits.outDrive : Laws.EncFits.Statement (.outDrive) := fun _ _ _ _ e => nomatch e
theorem Laws.EncFits.moveEnded : Laws.EncFits.Statement (.moveEnded) := fun _ _ _ _ e => nomatch e
theorem Laws.EncFits.moveTimeout : Laws.EncFits.Statement (.moveTimeout) := fun _ _ _ _ e => nomatch e
theorem Laws.EncFits.tailOut : Laws.EncFits.Statement (.tailOut) := fun _ _ _ _ e => nomatch e
theorem Laws.EncFits.planStarved : Laws.EncFits.Statement (.planStarved) := fun _ _ _ _ e => nomatch e
theorem Laws.EncFits.deviceConfirm (input : StationInput) (active : Bool) : Laws.EncFits.Statement (.deviceConfirm input active) := fun _ _ _ _ e => nomatch e
theorem Laws.EncFits.gateTimeout : Laws.EncFits.Statement (.gateTimeout) := fun _ _ _ _ e => nomatch e
theorem Laws.EncFits.bladeTimeout (blade : Fin 6) : Laws.EncFits.Statement (.bladeTimeout blade) := fun _ _ _ _ e => nomatch e
theorem Laws.EncFits.strokeComplete : Laws.EncFits.Statement (.strokeComplete) := fun _ _ _ _ e => nomatch e
theorem Laws.EncFits.knifeTimeout : Laws.EncFits.Statement (.knifeTimeout) := fun _ _ _ _ e => nomatch e
theorem Laws.EncFits.homingComplete : Laws.EncFits.Statement (.homingComplete) := fun _ _ _ _ e => nomatch e
theorem Laws.EncFits.homeSwitchChange (home : Home) (active : Bool) : Laws.EncFits.Statement (.homeSwitchChange home active) := fun _ _ _ _ e => nomatch e
theorem Laws.EncFits.calWriteComplete : Laws.EncFits.Statement (.calWriteComplete) := fun _ _ _ _ e => nomatch e
theorem Laws.EncFits.eStopRelease : Laws.EncFits.Statement (.eStopRelease) := fun _ _ _ _ e => nomatch e
theorem Laws.EncFits.inDriveClear : Laws.EncFits.Statement (.inDriveClear) := fun _ _ _ _ e => nomatch e
theorem Laws.EncFits.outDriveClear : Laws.EncFits.Statement (.outDriveClear) := fun _ _ _ _ e => nomatch e
theorem Laws.EncFits.filmOutClear : Laws.EncFits.Statement (.filmOutClear) := fun _ _ _ _ e => nomatch e
theorem Laws.EncFits.stackFullClear : Laws.EncFits.Statement (.stackFullClear) := fun _ _ _ _ e => nomatch e
theorem Laws.EncFits.webPresent : Laws.EncFits.Statement (.webPresent) := fun _ _ _ _ e => nomatch e
theorem Laws.EncFits.spliceInputClear : Laws.EncFits.Statement (.spliceInputClear) := fun _ _ _ _ e => nomatch e
theorem Laws.EncFits.filmSpliceClear : Laws.EncFits.Statement (.filmSpliceClear) := fun _ _ _ _ e => nomatch e
theorem Laws.EncFits.receiveLineMark : Laws.EncFits.Statement (.receiveLineMark) := fun _ _ _ _ e => nomatch e

end Sys2Proof
end

