-- ==== Sys2Proof/Laws/Settling.lean ====
section
/-!
SUPPORT. How an event ends: what `finish` always leaves true, that it changes nothing of a settled state, and on which parts of the state being settled
depends.
-/
namespace Sys2Proof.Machine

/-! ### What every event leaves true -/

theorem attnUpdate_follows (s : State) : AttnFollows (attnUpdate s) := rfl

theorem finish_attn (old s : State) : AttnFollows (finish old s) := by unfold finish; exact attnUpdate_follows _

theorem loopAllowance_congr {s t : State} (a : t.drives.setpoint = s.drives.setpoint) (c : t.loop.zone = s.loop.zone) :
    t.loopAllowance = s.loopAllowance := by unfold State.loopAllowance; rw [a, c]
theorem lamAllowance_congr {s t : State} (a : t.drives.setpoint = s.drives.setpoint) (d : t.straps = s.straps)
    (f : t.lam.heat = s.lam.heat) (g : t.lam.nip = s.lam.nip) : t.lamAllowance = s.lamAllowance := by
  have h : t.lamReady = s.lamReady := by unfold State.lamReady; rw [d, f, g]
  unfold State.lamAllowance; rw [a, h]
theorem lineAllowance_congr {s t : State} (a : t.drives.setpoint = s.drives.setpoint) (b : t.drives.webSeq = s.drives.webSeq)
    (e : t.line = s.line) : t.lineAllowance = s.lineAllowance := by
  have h : t.feeding = s.feeding := by unfold State.feeding; rw [e]
  unfold State.lineAllowance; rw [a, b, h]
theorem infeedReference_congr {s t : State} (a : t.drives.setpoint = s.drives.setpoint) (b : t.drives.webSeq = s.drives.webSeq)
    (c : t.loop.zone = s.loop.zone) (d : t.straps = s.straps) (e : t.line = s.line) (f : t.lam.heat = s.lam.heat)
    (g : t.lam.nip = s.lam.nip) : t.infeedReference = s.infeedReference := by
  unfold State.infeedReference
  rw [a, loopAllowance_congr a c, lamAllowance_congr a d f g, lineAllowance_congr a b e]

theorem dwellUpdate_fields (s : State) : (dwellUpdate s).drives = s.drives ∧ (dwellUpdate s).loop = s.loop ∧
    (dwellUpdate s).straps = s.straps ∧ (dwellUpdate s).line = s.line ∧ (dwellUpdate s).lam.heat = s.lam.heat ∧
    (dwellUpdate s).lam.nip = s.lam.nip := by
  unfold dwellUpdate; repeat' split
  all_goals exact ⟨rfl, rfl, rfl, rfl, rfl, rfl⟩
theorem idleUpdate_fields (s : State) : (idleUpdate s).drives = s.drives ∧ (idleUpdate s).loop = s.loop ∧
    (idleUpdate s).straps = s.straps ∧ (idleUpdate s).line = s.line ∧ (idleUpdate s).lam.heat = s.lam.heat ∧
    (idleUpdate s).lam.nip = s.lam.nip := by
  unfold idleUpdate; repeat' split
  all_goals exact ⟨rfl, rfl, rfl, rfl, rfl, rfl⟩
theorem starveUpdate_fields (s : State) : (starveUpdate s).drives = s.drives ∧ (starveUpdate s).loop = s.loop ∧
    (starveUpdate s).straps = s.straps ∧ (starveUpdate s).line = s.line ∧ (starveUpdate s).lam = s.lam := by
  unfold starveUpdate; repeat' split
  all_goals exact ⟨rfl, rfl, rfl, rfl, rfl⟩
theorem queueEvent_fields (e : Event) (s : State) : (queueEvent e s).drives = s.drives ∧ (queueEvent e s).loop = s.loop ∧
    (queueEvent e s).straps = s.straps ∧ (queueEvent e s).line = s.line ∧ (queueEvent e s).lam = s.lam := by
  unfold queueEvent; split <;> exact ⟨rfl, rfl, rfl, rfl, rfl⟩

/-- The infeed reference follows its allowances, and goes on following them under a change that touches none of their terms. -/
theorem InfeedFollows.of_fields {s t : State} (h : InfeedFollows s) (a : t.drives = s.drives) (c : t.loop.zone = s.loop.zone)
    (d : t.straps = s.straps) (e : t.line = s.line) (f : t.lam.heat = s.lam.heat) (g : t.lam.nip = s.lam.nip) :
    InfeedFollows t := by
  unfold InfeedFollows at *
  rw [infeedReference_congr (s := s) (by rw [a]) (by rw [a]) c d e f g, a]; exact h

theorem infeedUpdate_follows (s : State) : InfeedFollows (infeedUpdate s) :=
  (infeedReference_congr (s := s) rfl rfl rfl rfl rfl rfl rfl).symm

theorem bringUp_follows (s : State) : InfeedFollows (bringUp s) := by
  unfold bringUp
  have h := infeedUpdate_follows (closeUpdate s)
  generalize infeedUpdate (closeUpdate s) = t at h
  obtain ⟨a, b, c, d, e, f⟩ := dwellUpdate_fields t
  have h := h.of_fields a (by rw [b]) c d e f
  generalize dwellUpdate t = t at h
  obtain ⟨a, b, c, d, e, f⟩ := idleUpdate_fields t
  have h := h.of_fields a (by rw [b]) c d e f
  generalize idleUpdate t = t at h
  obtain ⟨a, b, c, d, e⟩ := starveUpdate_fields t
  exact h.of_fields a (by rw [b]) c d (by rw [e]) (by rw [e])

theorem finish_infeed (old s : State) : InfeedFollows (finish old s) := by
  unfold finish
  generalize freeUpdate old (endStop (pump pumpBound s)) = u
  have h := bringUp_follows u
  generalize bringUp u = t at h
  have h : InfeedFollows (lineUpdate old t) := by
    unfold lineUpdate; split
    · exact h
    · obtain ⟨a, b, c, d, e⟩ := queueEvent_fields t.line.event t
      exact h.of_fields a (by rw [b]) c d (by rw [e]) (by rw [e])
  exact h.of_fields rfl rfl rfl rfl rfl rfl

/-! ### Nothing left to do -/

theorem pump_of_none {s : State} (n : Nat) (h : pumpStep s = none) : pump n s = s := by
  cases n with
  | zero => rfl
  | succ n => unfold pump; rw [h]

/-- What the station could do of itself depends on the station, the planner, the line and the outfeed. -/
theorem pumpStep_none_congr {s t : State} (a : t.station = s.station) (b : t.planner = s.planner) (c : t.line = s.line)
    (d : t.drives.outfeed = s.drives.outfeed) (h : pumpStep s = none) : pumpStep t = none := by
  have hc : t.current = s.current := by unfold State.current; rw [b]
  have hf : t.feeding = s.feeding := by unfold State.feeding; rw [c]
  have hp : ∀ e, t.prepared e = s.prepared e := fun e => by unfold State.prepared State.bladesConfirmed; rw [a]
  have hm : t.mayTraverse = s.mayTraverse := by unfold State.mayTraverse State.moving State.continuing; rw [a, c, d]
  unfold pumpStep at h ⊢
  rw [a, b, hc, hf, hm]
  simp only [hp]
  split at h
  · split at h
    · cases h
    · rename_i x; rw [if_neg x]
  · split at h
    · split at h
      · rename_i x; rw [if_pos x]
      · rename_i x; rw [if_neg x]
        split at h
        · cases h
        · rename_i y; rw [if_neg y]
          split at h
          · cases h
          · rename_i z; rw [if_neg z]
    · rfl
  · rfl

theorem endStop_of_stands {s : State} (h : s.stopEnds = false) : endStop s = s := by
  unfold State.stopEnds at h; unfold endStop
  by_cases a : s.line.state = .stopping
  · simp only [a, decide_true, Bool.true_and] at h
    rw [if_pos a]
    by_cases b : s.feeding = true
    · rw [if_pos b] at h ⊢
      rw [if_neg]
      rintro ⟨c, d⟩
      simp [c, d] at h
    · rw [if_neg b] at h ⊢
      rw [if_neg (by rw [h]; exact Bool.false_ne_true)]
  · rw [if_neg a]

theorem closeUpdate_of_none {s : State} (h : s.closeDemand = false) : closeUpdate s = s := by
  unfold closeUpdate; rw [if_neg (by rw [h]; exact Bool.false_ne_true)]
theorem infeedUpdate_of_follows {s : State} (h : InfeedFollows s) : infeedUpdate s = s := by
  unfold InfeedFollows at h; unfold infeedUpdate; rw [← h]
theorem dwellUpdate_of_stands {s : State} (h : s.lam.dwell.isSome = s.dwellRuns) : dwellUpdate s = s := by
  unfold dwellUpdate; split
  · rename_i a; rw [if_pos (by rw [h]; exact a)]
  · rename_i a; rw [if_neg (by rw [h]; exact a)]
theorem idleUpdate_of_stands {s : State} (h : s.lam.idle.isSome = s.idleRuns) : idleUpdate s = s := by
  unfold idleUpdate; split
  · rename_i a; rw [if_pos (by rw [h]; exact a)]
  · rename_i a; rw [if_neg (by rw [h]; exact a)]
theorem starveUpdate_of_stands {s : State} (h : s.watches.starve.map (·.limit) = s.starveLimit) : starveUpdate s = s := by
  unfold starveUpdate; rw [← h]
  cases a : s.watches.starve with
  | none => simp
  | some w => simp

theorem bringUp_of_settled {s : State} (h : Settled s) : bringUp s = s := by
  unfold bringUp
  rw [closeUpdate_of_none h.close, infeedUpdate_of_follows h.infeed, dwellUpdate_of_stands h.dwell, idleUpdate_of_stands h.idle,
    starveUpdate_of_stands h.starve]

theorem attnUpdate_of_follows {s : State} (h : AttnFollows s) : attnUpdate s = s := by
  unfold AttnFollows at h; unfold attnUpdate; rw [← h]

/-- An event that leaves a settled state, with the line and the free run as they were, changes nothing more. -/
theorem finish_of_settled {old s : State} (h : Settled s) (l : s.line = old.line) (f : s.freeCond = old.freeCond) :
    finish old s = s := by
  unfold finish
  rw [pump_of_none _ h.station, endStop_of_stands h.stop]
  have a : freeUpdate old s = s := by
    unfold freeUpdate; rw [if_neg]; rintro ⟨x, y, _⟩; rw [f] at x; exact y x
  rw [a, bringUp_of_settled h]
  have b : lineUpdate old s = s := by unfold lineUpdate; rw [l]; simp
  rw [b, attnUpdate_of_follows h.attn]

/-- An event that leaves a state settled but for ATTN brings ATTN to its level. -/
theorem finish_of_settled_attn {old s : State} (h : Settled (attnUpdate s)) (l : s.line = old.line)
    (f : s.freeCond = old.freeCond) : finish old s = attnUpdate s := by
  unfold finish
  rw [pump_of_none _ (pumpStep_none_congr (s := attnUpdate s) (t := s) rfl rfl rfl rfl h.station), endStop_of_stands (show s.stopEnds = false from h.stop)]
  have a : freeUpdate old s = s := by
    unfold freeUpdate; rw [if_neg]; rintro ⟨x, y, _⟩; rw [f] at x; exact y x
  have b : bringUp s = s := by
    unfold bringUp
    rw [closeUpdate_of_none (show s.closeDemand = false from h.close), infeedUpdate_of_follows (show InfeedFollows s from h.infeed),
      dwellUpdate_of_stands (show s.lam.dwell.isSome = s.dwellRuns from h.dwell),
      idleUpdate_of_stands (show s.lam.idle.isSome = s.idleRuns from h.idle),
      starveUpdate_of_stands (show s.watches.starve.map (·.limit) = s.starveLimit from h.starve)]
  rw [a, b]
  have c : lineUpdate old s = s := by unfold lineUpdate; rw [l]; simp
  rw [c]

/-! ### What being settled depends on -/

/-- A state that agrees with a settled one on the blocks that matter is settled once ATTN follows. -/
theorem Settled.congr {s t : State} (h : Settled s) (running : t.heldBy = s.heldBy) (station : t.station = s.station)
    (planner : t.planner = s.planner) (line : t.line = s.line) (drives : t.drives = s.drives) (lam : t.lam = s.lam)
    (zone : t.loop.zone = s.loop.zone) (straps : t.straps = s.straps) (cal : t.cal = s.cal)
    (cursor : t.cursor1.state = s.cursor1.state)
    (starve : t.watches.starve.map (·.limit) = s.watches.starve.map (·.limit)) (attn : AttnFollows t) : Settled t where
  running := running.trans h.running
  station := pumpStep_none_congr station planner line (by rw [drives]) h.station
  stop := by
    have f : t.feeding = s.feeding := by unfold State.feeding; rw [line]
    rw [← h.stop]; unfold State.stopEnds; rw [f, line, station, planner]
  close := by
    have f : t.feeding = s.feeding := by unfold State.feeding; rw [line]
    rw [← h.close]; unfold State.closeDemand
    rw [loopAllowance_congr (by rw [drives]) zone, lineAllowance_congr (by rw [drives]) (by rw [drives]) line, f, straps, lam, drives]
  infeed := h.infeed.of_fields drives zone straps line (by rw [lam]) (by rw [lam])
  dwell := by
    have e := h.dwell
    unfold State.dwellRuns at e ⊢; rw [straps, lam, drives]; exact e
  idle := by
    have e := h.idle
    unfold State.idleRuns at e ⊢; rw [straps, lam, line]; exact e
  starve := by
    have e := h.starve
    have f : t.feeding = s.feeding := by unfold State.feeding; rw [line]
    rw [starve, e]; unfold State.starveLimit State.work; rw [cursor, f, drives, cal]
  attn := attn

/-- ATTN follows still where the panels' states, the events, the mask and the line's state are as they were. -/
theorem AttnFollows.congr {s t : State} (h : AttnFollows s) (held : t.heldBy = s.heldBy) (done : t.donePending = s.donePending)
    (events : t.link.events.isEmpty = s.link.events.isEmpty) (mask : t.link.mask = s.link.mask)
    (line : t.line.state = s.line.state) (attn : t.link.attn = s.link.attn) : AttnFollows t := by
  unfold AttnFollows at *
  rw [attn, h]; unfold State.attnLevel State.inReset State.summary State.faultPresent
  rw [held, done, events, mask, line]

end Sys2Proof.Machine
end

