-- ==== Sys2Proof/Laws/Requests.lean ====
section
/-!
SUPPORT. How a request is answered on a free link: what the shared checks refuse, what a refusal leaves, and what a request taken leaves once its event has
been brought to its end (R190, R191).
-/
namespace Sys2Proof.Machine

/-- `s` with a frame alone in its buffer, as it stands while that frame's request is taken. -/
abbrev holding (f : Frame) (s : State) : State := { s with link := { s.link with buffer := [f] } }

theorem inReset_of_free {s : State} (h : LinkFree s) : s.inReset = false := by
  unfold State.inReset; rw [h.1]; rfl

/-- On a free link the request's frame arrives and is served. -/
theorem takeRequest_free {s : State} (h : LinkFree s) (f : Frame) (act : State → Answer) :
    takeRequest f act s = serve f act (holding f s) := by
  unfold takeRequest
  rw [if_neg (by rw [inReset_of_free h]; exact Bool.false_ne_true), h.2.2.1, h.2.2.2]
  simp only []
  rw [if_pos (show s.receives = true by unfold State.receives; rw [inReset_of_free h, h.2.1]; rfl)]
  unfold bufferFrame; rw [h.2.2.2]; rfl

/-- A refusal other than BAD_PLAN changes nothing but for its reply. -/
theorem serve_refused (f : Frame) (act : State → Answer) (st : Status) (s : State)
    (h : act (holding f s) = refuse st (holding f s)) (hs : st.taken = false) (hb : st ≠ .badPlan) :
    serve f act (holding f s) = answered f st [] s := by
  unfold serve; rw [h]
  have hs' : (refuse st (holding f s)).status.taken = false := hs
  dsimp only []
  rw [if_neg (by rw [hs']; exact Bool.false_ne_true)]
  unfold setReply replyFor answered
  simp only [refuse, hs, Bool.false_eq_true, hb, or_self, if_false]
  rfl

/-- A request taken whose event ends in `t` leaves `t` with the reply. -/
theorem serve_taken (f : Frame) (act : State → Answer) (s t : State) (a : Answer) (d : List Byte) (h : act (holding f s) = a)
    (hs : a.status.taken = true) (e : finish (holding f s) a.next = holding f t) (hd : a.data (holding f t) = d) :
    serve f act (holding f s) = answered f a.status d t := by
  unfold serve; rw [h]; simp only []; rw [if_pos hs, e]
  unfold setReply replyFor answered
  simp only [hs, true_or, if_true, hd]
  rfl

theorem settled_holding {s : State} (h : Settled s) (f : Frame) : Settled (holding f s) :=
  h.congr rfl rfl rfl rfl rfl rfl rfl rfl rfl rfl rfl (h.attn.congr rfl rfl rfl rfl rfl rfl)

/-- With the length right and the link synced where it must be, a request of fixed length goes to its own check. -/
theorem request_fits {s : State} (h : LinkFree s) (k tag : Byte) (p : List Byte) (n : Nat) (u : Bool) (act : State → Answer)
    (hn : p.length = n) (hu : u = true ∨ s.link.synced = true) :
    request k tag p n u act s = serve ⟨k, tag, p⟩ act (holding ⟨k, tag, p⟩ s) := by
  unfold request; rw [takeRequest_free h]
  unfold serve
  have : checked (decide (p.length = n)) u act (holding ⟨k, tag, p⟩ s) = act (holding ⟨k, tag, p⟩ s) := by
    unfold checked; rw [hn]
    rcases hu with hu | hu <;> simp [hu]
  rw [this]

end Sys2Proof.Machine
end

