-- ==== Sys2Proof/Tests/Slice0.lean ====
section
/-!
SUPPORT. Tests: ill-formed commands refused, figures of the spec's examples, and for every statement with hypotheses a state and operands that meet them, clause by
clause.
-/
namespace Sys2Proof.Tests
open Sys2Proof.Machine

-- The tests are elaborated one after another: together they would take more threads at once than the check allows.
set_option Elab.async false

/-! ### Helpers -/

/-- What `Settled` asks, as one computation. -/
def settles (s : State) : Bool :=
  s.heldBy.isEmpty && (pumpStep s).isNone && !s.stopEnds && !s.closeDemand && decide (s.drives.infeedRef = s.infeedReference)
    && decide (s.lam.dwell.isSome = s.dwellRuns) && decide (s.lam.idle.isSome = s.idleRuns)
    && decide (s.watches.starve.map (·.limit) = s.starveLimit) && decide (s.link.attn = s.attnLevel)

theorem settled {s : State} (h : settles s = true) : Settled s := by
  unfold settles at h
  simp only [Bool.and_eq_true, decide_eq_true_eq, Bool.not_eq_true', Option.isNone_iff_eq_none, List.isEmpty_iff] at h
  obtain ⟨⟨⟨⟨⟨⟨⟨⟨a, b⟩, c⟩, d⟩, e⟩, f⟩, g⟩, i⟩, j⟩ := h
  exact ⟨a, b, c, d, e, f, g, i, j⟩

theorem free {s : State} (h : (s.heldBy.isEmpty && s.link.breakArmed && s.link.reply.isNone && s.link.buffer.isEmpty) = true) :
    LinkFree s := by
  simp only [Bool.and_eq_true, Option.isNone_iff_eq_none, List.isEmpty_iff] at h
  exact ⟨h.1.1.1, h.1.1.2, h.1.2, h.2⟩

/-- The state after a command. -/
def after (c : Instr) (s : State) : State :=
  match exec c s with
  | .next t => t
  | _ => s

/-- A part after reset whose receive line has been at mark. -/
def atMark : State := { State.reset with link := { (State.reset.link) with breakArmed := true } }

/-- A part after reset with the link in use. -/
def ready : State := { State.reset with link := { (State.reset.link) with synced := true, breakArmed := true } }

/-- `ready` with a loop length in zone NORMAL and the knife at its left home. -/
def base : State :=
  { ready with
    loop := { (ready.loop) with length := some 1400978, zone := .normal }
    sampler := { (ready.sampler) with dancer := some 512 }
    station := { (ready.station) with knife := .homeL }
    inputs := { (ready.inputs) with homeL := true } }

/-- A state with its levels brought up. -/
def level (s : State) : State := attnUpdate (bringUp s)

/-- A line in a state. -/
def inLine (l : LineState) (s : State) : State := level { s with line := { s.line with state := l } }

/-- `base` on a part without laminator, so that the nip takes no part. -/
def plain : State := { base with straps := { laminator := false }, lam := { nip := .closed } }

/-- A line that runs, the outfeed at rest. -/
def running : State := inLine .running plain

/-- A panel for the list. -/
def panel (n : Nat) (st : PanelState) : Panel :=
  { serial := n, id := BitVec.ofNat 16 (n + 1), kind := .product, proof := false, lNom := 300000, gNom := 30000, lanes := 1
    cuts := [0, 150000, 300000], state := st, completion := if st = .done then some .delivered else none }

/-- Panels in the list. -/
def withPanels (ps : List Panel) (s : State) : State := level { s with panels := ps, nextSerial := ps.length }

/-- A PLAN payload (R200). -/
def planOf (id kind proof : Nat) (l g : Int) (lanes : Nat) (cuts : List Int) : List Byte :=
  leBytes 2 id ++ leBytes 1 kind ++ leBytes 1 proof ++ intBytes 4 l ++ intBytes 4 g ++ leBytes 1 lanes
    ++ leBytes 1 cuts.length ++ cuts.flatMap (intBytes 4)

/-- A move of the outfeed. -/
def move (k : MoveKind) (p : Purpose) (o : Owner) (e : Int) : Move :=
  { kind := k, purpose := p, owner := o, distance := e.natAbs, speed := 8, endPoint := some e, deadline := some 20000 }

/-- The outfeed under way with a move. -/
def moving (m : Move) (s : State) : State := setOutfeed (.moving m) s

/-! ### Ill-formed commands are refused (WellFormed) -/

theorem test_wf_long_payload : Instr.wf (.plan 1 (List.replicate 249 0)) = false ∧ Instr.wf (.plan 1 (List.replicate 248 0)) = true := by
  decide +kernel
theorem test_wf_known_kind : Instr.wf (.unknownRequestKind 0x21 1 []) = false ∧ Instr.wf (.unknownRequestKind 0x13 1 []) = true := by
  decide +kernel
theorem test_wf_no_bytes : Instr.wf (.frameReceived []) = false ∧ Instr.wf (.frameReceived [⟨0, true⟩]) = true := by decide +kernel

/-! ### Figures of the spec's examples -/

/-- R186: the check value of the CRC over "123456789". -/
theorem test_crc_check_value : crc16 [0x31, 0x32, 0x33, 0x34, 0x35, 0x36, 0x37, 0x38, 0x39] = 0x29B1 := by decide +kernel

/-- R65 and the example of section 4.4: halves go away from zero, and 41.625 goes to 42. -/
theorem test_rounding : roundDiv 84 8 = 11 ∧ roundDiv (-84) 8 = -11 ∧ roundDiv 333 8 = 42 ∧ roundDiv (2399400 * 4042) 1000000 = 9698 := by
  decide +kernel

/-- The example of section 2.8: loop lengths and zones as the dancer falls, and the fault at the result of 3. -/
theorem test_web_break :
    (after (.conversionComplete 600) running).loop.length = some 1573021
    ∧ (after (.conversionComplete 140) running).loop = { (running.loop) with length := some 673705, zone := .low }
    ∧ (after (.conversionComplete 30) running).loop.zone = .empty
    ∧ (after (.conversionComplete 2) running).loop.length = some 403910 := by decide +kernel
theorem test_web_break_faults :
    (after (.conversionComplete 3) { running with loop := { (running.loop) with watching := true } }).line.firstFault
      = some ⟨.dancer, 0, 0⟩ := by decide +kernel

/-- The unit of the example of section 4.4, before panel 310's head. -/
def follow : State :=
  { running with reg := { (running.reg) with
      anchor := some (12000000, 16250000), s := 4000, mode := .follow, register := .inRegister, lockCount := 4 } }

/-- The example of section 4.4: prediction, stretch, anchor and register of panel 310's head and tail. -/
theorem test_predict_310 : follow.predict 13500000 = 17756000 := by decide +kernel
theorem test_head_of_310 :
    (regMatch follow 13500000 17756500 17756000).reg
      = { follow.reg with s := 4042, anchor := some (13500000, 17756500), lockCount := 0 } := by decide +kernel
theorem test_tail_of_310 :
    (regMatch { follow with reg := { (follow.reg) with s := 4042, anchor := some (13500000, 17756500), lockCount := 0 } }
      15899400 20165800 20165598).reg = { follow.reg with s := 4053, anchor := some (15899400, 20165800), lockCount := 1 } := by
  decide +kernel

/-- R64 and the example of section 3.5: TAUGHT at the floor of (138 + 702) / 2, with a bar in progress judged at the old threshold. -/
def teaching : State :=
  { running with
    sensor1 := { (running.sensor1) with bar := .counting 5201300 false, teach := some ⟨5004000, some 138, some 702, ⟨0, 60000⟩⟩ }
    watches := { (running.watches) with teach1 := some { limit := 5204000, due := true } } }
theorem test_teach_ends :
    (after (.teachSpanReached .m1) teaching).work .threshM1 = 420 ∧ (after (.teachSpanReached .m1) teaching).sensor1.threshold = 512
    ∧ (after (.teachSpanReached .m1) teaching).link.events = [.teachEnd .m1 .taught (some 138) (some 702) 420] := by decide +kernel

/-- The first row of the example of chapter 10: a PLAN before SYNC is refused NOT_SYNCED with 48 credits. -/
theorem test_plan_before_sync :
    (after (.plan 7 (planOf 101 1 0 500000 50000 1 [0, 500000])) atMark).link.reply
      = some ⟨0x90, 7, .notSynced, 48, ⟨false, false, false⟩, []⟩ := by decide +kernel

/-- The example of chapter 10: the E-stop in UNTHREADED queues LINE_STATE with E_STOPPED, ESTOP and resume state UNTHREADED. -/
theorem test_estop_unthreaded :
    (after .eStop ready).link.events = [.lineState .eStopped none (some .estop) (some .unthreaded)]
    ∧ (after .eStop ready).link.attn = true := by decide +kernel

/-- R153, R158: 100.0 °C set, and the standby target 40.0 °C below it. -/
theorem test_standby_target : base.targetFor .standby 1000 = some 600 ∧ base.targetFor .standby 300 = some 0 := by decide +kernel

/-- R23: the completion codes of a panel of three cuts, by its delivered pieces. -/
theorem test_completion_codes :
    (strokeOn true 3 { panel 0 .cutting with cutsDone := 2, delivered := 1 }).completion = some .delivered
    ∧ (strokeOn false 3 { panel 0 .cutting with cutsDone := 2, delivered := 1, scrapped := 0 }).completion = some .partly
    ∧ (strokeOn false 3 { panel 0 .cutting with cutsDone := 2, scrapped := 1 }).completion = some .scrapped := by decide +kernel

/-- R25: one step forward of E1, count 1 at the default scale of 10,000 nm a count is 10 µm. -/
theorem test_encoder_step : (after (.encoderStep .e1 true false) running).p1 = 10 ∧ (after (.encoderStep .e1 false true) running).p1 = -10 := by
  decide +kernel

/-- R97, R98: a newcomer conflicts below CUT_MIN_SEP from an entry and not at it, and two cuts of different panels merge. -/
theorem test_cut_min_sep :
    (place none { cut := some ⟨⟨1, 2⟩, 1⟩, trigger := 1005000 }
      (setQueue [{ cut := some ⟨⟨0, 1⟩, 3⟩, trigger := 1000000 }] running)).planner.queue.map (·.trigger) = [1000000, 1005000]
    ∧ (place none { cut := some ⟨⟨1, 2⟩, 1⟩, trigger := 1004999 }
      (setQueue [{ cut := some ⟨⟨0, 1⟩, 3⟩, trigger := 1000000 }] running)).planner.queue.map (·.partner) = [some ⟨⟨1, 2⟩, 1⟩] := by
  decide +kernel

/-- R82: a point at a position held already is absorbed. -/
theorem test_point_absorbed :
    (addPoint .speedStep 5 (addPoint .printSplice 5 running)).reg.points = [⟨.printSplice, 5⟩] := by decide +kernel

/-- R204: a blank store loads the defaults and reports every entry defaulted. -/
theorem test_blank_store :
    (after .resetEnd (after .resetPin State.reset)).cal.working = calDefaults
    ∧ (after .resetEnd (after .resetPin State.reset)).cal.defaulted = 0x03FFFFFFFFFFFFFF := by decide +kernel

/-- R31: a watch that passes fires on the step that leaves its limit behind, one that reaches on the step to it, and one set behind on the next forward step. -/
theorem test_watches_fire :
    (watchAfter true 0 10 ⟨0, false, false⟩).due = true ∧ (watchAfter true 0 10 ⟨10, false, false⟩).due = false
    ∧ (watchAfter false 0 10 ⟨10, false, false⟩).due = true ∧ (watchAfter false 0 10 ⟨0, false, false⟩).due = false
    ∧ (watchAfter true 0 10 ⟨-5, true, false⟩).due = true ∧ (watchAfter true 10 0 ⟨-5, true, false⟩).due = false := by decide +kernel

/-- R198: the codes the rule names. -/
theorem test_named_codes :
    LineState.unthreaded.code = [1] ∧ LineState.endOfWeb.code = [8] ∧ FaultCause.encoder1.code = [1] ∧ FaultCause.moveTimeout.code = [12]
    ∧ FaultCause.estop.code = [13] ∧ StopClass.cycleEnd.code = [1] ∧ StopCause.proof.code = [1] ∧ StopCause.webEnd.code = [6]
    ∧ PanelState.queued.code = [1] ∧ PanelState.done.code = [6] ∧ Completion.partly.code = [2] ∧ Completion.aborted.code = [4]
    ∧ PanelKind.leader.code = [2] ∧ Basis.m2.code = [3] ∧ Mode.follow.code = [3] ∧ LockMode.manual.code = [2]
    ∧ RegState.none.code = [3] ∧ KnifeState.homing.code = [6] ∧ Mark.tail.code = [2] := by decide +kernel

/-! ### Witnesses: for each statement, states and operands that meet its hypotheses, clause by clause -/

theorem witness_StepTakesFront : { base with pending := [.frameGap] }.pending = .frameGap :: [] ∧ base.pending = [] := by decide +kernel

theorem witness_RequestsCheckLengthThenSync : LinkFree atMark
    ∧ ⟨.thread, 0x20, 0, false⟩ ∈ fixedRows ∧ [(1 : Byte)].length ≠ 0 ∧ ([] : List Byte).length = 0 ∧ atMark.link.synced = false
    ∧ ¬ (14 ≤ (List.replicate 14 (1 : Byte)).length ∧ 14 = 14 + 4 * natAt 13 1 (List.replicate 14 (1 : Byte)))
    ∧ (14 ≤ (planOf 1 1 0 300000 30000 0 []).length ∧ (planOf 1 1 0 300000 30000 0 []).length = 14 + 4 * natAt 13 1 (planOf 1 1 0 300000 30000 0 [])) :=
  ⟨free rfl, by simp [fixedRows], by decide +kernel⟩

/-- A reply being sent, with `n` frames in the buffer. -/
def busy (n : Nat) : State :=
  { base with link := { (base.link) with
    buffer := List.replicate n ⟨0x02, 1, [0]⟩, reply := some ⟨0x82, 1, .ok, 48, ⟨false, false, false⟩, []⟩ } }

/-- A frame that waits in the buffer with no reply being sent. -/
def stalled (f : Frame) : State := { base with link := { (base.link) with buffer := [f] } }

theorem witness_RequestsWaitTheirTurn : RequestRow ⟨.run, 0x21, 0, false⟩ ∧ RequestRow ⟨.plan, 0x10, 0, false⟩
    ∧ RequestRow ⟨.unknownRequestKind 0x13, 0x13, 0, false⟩ ∧ (busy 1).heldBy = [] ∧ (busy 1).link.breakArmed = true
    ∧ (busy 1).link.reply.isSome = true ∧ (busy 1).link.buffer.length < 2 ∧ (busy 2).heldBy = [] ∧ (busy 2).link.breakArmed = true
    ∧ (busy 2).link.reply.isSome = true ∧ 2 ≤ (busy 2).link.buffer.length ∧ (after .resetPin base).heldBy ≠ []
    ∧ { (busy 1).link with breakArmed := false }.reply.isSome = true
    ∧ State.reset.link.breakArmed = false ∧ State.reset.link.reply = none ∧ State.reset.link.buffer = []
    ∧ (stalled ⟨0x21, 1, []⟩).heldBy = [] ∧ (stalled ⟨0x21, 1, []⟩).link.breakArmed = true ∧ (stalled ⟨0x21, 1, []⟩).link.reply = none
    ∧ (stalled ⟨0x21, 1, []⟩).link.buffer = [⟨0x21, 1, []⟩] ∧ (⟨0x21, 1, []⟩ : Frame) ≠ ⟨0x21, 2, []⟩ :=
  ⟨.inl (by simp [fixedRows]), .inr (.inl ⟨rfl, rfl⟩), .inr (.inr ⟨by decide, rfl⟩), by decide +kernel⟩

theorem witness_UnknownKindRefused : LinkFree atMark ∧ (0x13 : Byte) ∉ catalogue ∧ (0x80 : Byte) ∉ catalogue ∧ (0x7F : Byte) ∉ catalogue :=
  ⟨free rfl, by decide +kernel⟩

theorem witness_SyncOpensSession : LinkFree atMark ∧ Settled atMark := ⟨free rfl, settled (by decide +kernel)⟩

/-- Two panels, the second DONE. -/
def listed : State := withPanels [panel 0 .queued, panel 1 .done] base

theorem witness_ReportsChangeNothing : LinkFree listed ∧ Settled listed
    ∧ (0 : Byte).toNat < 7 ∧ (6 : Byte).toNat < 7 ∧ 8 ≤ (8 : Byte).toNat ∧ listed.link.synced = true
    ∧ (listed.byId? (idAt [1, 0])).isSome = true ∧ listed.byId? (idAt [9, 0]) = none
    ∧ (0 : Byte).toNat = CalEntry.e1Scale.index ∧ (57 : Byte).toNat = CalEntry.contrastMin.index ∧ 58 ≤ (58 : Byte).toNat := by
  and_intros <;> first | exact settled (by decide +kernel) | exact free rfl | decide +kernel

theorem witness_SetAttentionSetsMask : LinkFree listed ∧ Settled listed ∧ listed.link.synced = true ∧ (0 : Byte).toNat < 8
    ∧ (7 : Byte).toNat < 8 ∧ 8 ≤ (8 : Byte).toNat := by
  and_intros <;> first | exact settled (by decide +kernel) | exact free rfl | decide +kernel

/-- Events in the queue. -/
def events (n : Nat) (s : State) : State := level { s with link := { s.link with events := List.replicate n (.knifeHomed .left) } }

theorem witness_FetchEventsTakesOldest : LinkFree (events 20 base) ∧ Settled (events 20 base) ∧ 1 ≤ (1 : Byte).toNat ∧ (16 : Byte).toNat ≤ 16
    ∧ (0 : Byte).toNat = 0 ∧ 16 < (17 : Byte).toNat := by
  and_intros <;> first | exact settled (by decide +kernel) | exact free rfl | decide +kernel

/-- A line that has been threaded: the M1 cursor is IDLE. -/
def threaded : State := inLine .threaded { plain with cursor1 := { (plain.cursor1) with state := .idle } }

/-- A good plan. -/
def goodPlan : List Byte := planOf 5 1 0 300000 30000 1 [-200000, 500000]

theorem witness_PlanAppendsPanel : LinkFree base ∧ Settled base ∧ base.link.synced = true ∧ planFits goodPlan = true ∧ base.panels.length < 48
    ∧ idAt goodPlan ≠ 0 ∧ (∀ q ∈ base.panels, q.id ≠ idAt goodPlan) ∧ PlanInRange base.straps.blades (planFields goodPlan)
    ∧ PlanFollows base.lastPlan (planFields goodPlan) ∧ base.cursor1.state ≠ .idle := by
  and_intros <;> first | exact settled (by decide +kernel) | exact free rfl | decide +kernel

theorem witness_PlanAppendsPanel_idle : LinkFree threaded ∧ Settled threaded ∧ threaded.link.synced = true
    ∧ (∀ q ∈ threaded.panels, q.id ≠ idAt goodPlan) ∧ PlanInRange threaded.straps.blades (planFields goodPlan)
    ∧ PlanFollows threaded.lastPlan (planFields goodPlan) ∧ (∀ q ∈ threaded.panels, q.state ≠ .queued) ∧ threaded.cursor1.state = .idle
    ∧ threaded.cursor1.lastHead = none ∧ threaded.cursor1.holdLimit = none ∧ threaded.cursor1.seekPending = true := by
  and_intros <;> first | exact settled (by decide +kernel) | exact free rfl | decide +kernel

/-- A threaded line whose M1 cursor has resolved a tail at 0, and one under a hold. -/
def tailSeen : State := { threaded with cursor1 := { (threaded.cursor1) with lastTail := some 0, seekPending := false } }
def holding : State := { threaded with cursor1 := { (threaded.cursor1) with holdLimit := some 5000 } }

theorem witness_PlanAppendsPanel_window : LinkFree tailSeen ∧ Settled tailSeen ∧ tailSeen.cursor1.state = .idle ∧ tailSeen.cursor1.lastHead = none
    ∧ tailSeen.cursor1.holdLimit = none ∧ tailSeen.cursor1.seekPending = false ∧ tailSeen.cursor1.lastTail = some 0
    ∧ tailSeen.p1 ≤ 0 + (planFields goodPlan).gNom + tailSeen.work .w1 ∧ PlanFollows tailSeen.lastPlan (planFields goodPlan)
    ∧ LinkFree holding ∧ Settled holding ∧ holding.cursor1.state = .idle ∧ holding.cursor1.holdLimit.isSome = true := by
  and_intros <;> first | exact settled (by decide +kernel) | exact free rfl | decide +kernel

/-- A part whose list is full, and one with a last plan. -/
def full : State := withPanels (List.replicate 48 (panel 0 .done)) base
def planned : State := { listed with lastPlan := some ⟨300000, 500001⟩ }

theorem witness_PlanRefusedInOrder : LinkFree full ∧ LinkFree planned ∧ full.link.synced = true ∧ planned.link.synced = true
    ∧ 48 ≤ full.panels.length ∧ (∀ p ∈ [planOf 0 1 0 300000 30000 1 [0, 10000], planOf 1 1 0 300000 30000 1 [0, 10000],
        planOf 5 3 0 300000 30000 1 [0, 10000], planOf 5 1 2 300000 30000 1 [0, 10000], planOf 5 1 0 299999 30000 1 [0, 10000],
        planOf 5 1 0 300000 29999 1 [0, 10000], planOf 5 1 0 300000 30000 1 [0, 9999], planOf 5 1 0 300000 30000 1 [-200001, 0],
        planOf 5 1 0 300000 30000 64 [0, 10000], planOf 5 1 0 300000 30000 1 [170000, 180000]], planFits p = true)
    ∧ (planFields (planOf 0 1 0 300000 30000 1 [0, 10000])).id = 0
    ∧ (∃ q ∈ planned.panels, q.id = (planFields (planOf 1 1 0 300000 30000 1 [0, 10000])).id)
    ∧ 1 < (planFields (planOf 5 1 2 300000 30000 1 [0, 10000])).proof ∧ (planFields (planOf 5 1 0 299999 30000 1 [0, 10000])).lNom < 300000
    ∧ (planFields (planOf 5 1 0 300000 29999 1 [0, 10000])).gNom < 30000
    ∧ (∃ x ∈ (planFields (planOf 5 1 0 300000 30000 1 [-200001, 0])).cuts.head?, x < -200000)
    ∧ 2 ^ planned.straps.blades ≤ (planFields (planOf 5 1 0 300000 30000 64 [0, 10000])).lanes.toNat
    ∧ (∃ l ∈ planned.lastPlan, ∃ x ∈ (planFields (planOf 5 1 0 300000 30000 1 [170000, 180000])).cuts.head?,
        l.lNom + 30000 + x < l.lastCut) := by
  and_intros <;> first | exact settled (by decide +kernel) | exact free rfl | decide +kernel

theorem witness_CancelFlagsPanel : LinkFree listed ∧ Settled listed ∧ listed.link.synced = true
    ∧ listed.byId? (idAt [1, 0]) = some (panel 0 .queued) ∧ (panel 0 .queued).state ≠ .done
    ∧ listed.byId? (idAt [2, 0]) = some (panel 1 .done) ∧ (panel 1 .done).state = .done ∧ listed.byId? (idAt [3, 0]) = none := by
  and_intros <;> first | exact settled (by decide +kernel) | exact free rfl | decide +kernel

theorem witness_FetchDoneFreesOldest : LinkFree listed ∧ Settled listed ∧ 1 ≤ (1 : Byte).toNat ∧ (8 : Byte).toNat ≤ 8 ∧ (0 : Byte).toNat = 0
    ∧ 8 < (9 : Byte).toNat := by
  and_intros <;> first | exact settled (by decide +kernel) | exact free rfl | decide +kernel

/-- A fault on the line, its cause present or gone. -/
def faulted (c : FaultCause) (l : LineState) (r : LineState) : State :=
  inLine l { plain with line := { (plain.line) with firstFault := some ⟨c, 0, 0⟩, resume := some r } }

theorem witness_LineRequestsRefused : LinkFree running ∧ running.link.synced = true
    ∧ ¬ (running.line.state = .unthreaded ∨ running.line.state = .threaded ∨ running.line.state = .endOfWeb)
    ∧ (∃ p ∈ listed.panels, p.state ≠ .done) ∧ ready.sampler.dancer = none
    ∧ ¬ (running.line.state = .threaded ∨ running.line.state = .holding) ∧ base.line.state ≠ .running
    ∧ ¬ (running.line.state = .faulted ∨ running.line.state = .eStopped)
    ∧ (faulted .moveTimeout .faulted .holding).line.state = .faulted
    ∧ { faulted .inDrive .faulted .holding with inputs := { (base.inputs) with inDrive := true } }.present .inDrive = true
    ∧ { faulted .estop .eStopped .holding with inputs := { (base.inputs) with eStop := true } }.present .estop = true :=
  ⟨free rfl, by decide +kernel⟩

theorem witness_ThreadBeginsWeb : LinkFree base ∧ Settled base ∧ base.link.synced = true ∧ base.line.state = .unthreaded
    ∧ (∀ p ∈ base.panels, p.state = .done) ∧ base.station.knife = .homeL ∧ base.sampler.dancer.isSome = true ∧ base.loop.faulted = false := by
  and_intros <;> first | exact settled (by decide +kernel) | exact free rfl | decide +kernel

theorem witness_RunStartsLine : LinkFree threaded ∧ Settled threaded ∧ threaded.link.synced = true ∧ threaded.line.state = .threaded
    ∧ threaded.station.cycle = .idle ∧ threaded.planner.target = none ∧ threaded.drives.webSeq = .none
    ∧ threaded.drives.outfeed = .stopped ∧ threaded.inputs.web1 = true ∧ threaded.inputs.filmOut = false
    ∧ threaded.inputs.stackFull = false ∧ 0 < threaded.work .dMk := by
  and_intros <;> first | exact settled (by decide +kernel) | exact free rfl | decide +kernel

/-- A threaded line with laminator, its nip opening. -/
def opened : State := inLine .threaded { base with cursor1 := { (base.cursor1) with state := .idle } }

theorem witness_RunStartsLine_close : LinkFree opened ∧ Settled opened ∧ opened.line.state = .threaded ∧ opened.straps.laminator = true
    ∧ opened.inputs.filmOut = false ∧ opened.lam.heat = .off ∧ opened.lam.nip = .opening ∧ 0 < opened.drives.setpoint
    ∧ opened.loop.zone = .normal ∧ opened.drives.outfeed = .stopped ∧ opened.inputs.nipClosed = false := by
  and_intros <;> first | exact settled (by decide +kernel) | exact free rfl | decide +kernel

theorem witness_HoldStopsLine : LinkFree running ∧ Settled running ∧ running.link.synced = true ∧ running.line.state = .running := by
  and_intros <;> first | exact settled (by decide +kernel) | exact free rfl | decide +kernel

theorem witness_ClearWritesOff : LinkFree threaded ∧ Settled threaded ∧ threaded.link.synced = true ∧ threaded.line.state = .threaded
    ∧ LinkFree (faulted .inDrive .faulted .holding) ∧ Settled (faulted .inDrive .faulted .holding)
    ∧ (faulted .inDrive .faulted .holding).line.state = .faulted := by
  and_intros <;> first | exact settled (by decide +kernel) | exact free rfl | decide +kernel

theorem witness_ResumeReturns : LinkFree (faulted .inDrive .faulted .holding) ∧ Settled (faulted .inDrive .faulted .holding)
    ∧ (faulted .inDrive .faulted .holding).link.synced = true ∧ (faulted .inDrive .faulted .holding).line.resume = some .holding
    ∧ (faulted .inDrive .faulted .holding).line.firstFault = some ⟨.inDrive, 0, 0⟩
    ∧ (faulted .inDrive .faulted .holding).line.state = .faulted ∧ (faulted .inDrive .faulted .holding).present .inDrive = false := by
  and_intros <;> first | exact settled (by decide +kernel) | exact free rfl | decide +kernel
theorem witness_ResumeReturns_estop : Settled (faulted .estop .eStopped .threaded) ∧ (faulted .estop .eStopped .threaded).present .estop = false
    ∧ Settled (faulted .inDrive .eStopped .threaded) ∧ (faulted .inDrive .eStopped .threaded).present .estop = false
    ∧ (faulted .inDrive .eStopped .threaded).line.firstFault.map (·.cause) ≠ some .estop
    ∧ Settled (faulted .inDrive .faulted .endOfWeb) ∧ (faulted .inDrive .faulted .endOfWeb).line.resume = some .endOfWeb
    ∧ Settled (faulted .inDrive .faulted .unthreaded) ∧ (faulted .inDrive .faulted .unthreaded).line.resume = some .unthreaded
    ∧ Settled (faulted .inDrive .eStopped .endOfWeb) ∧ (faulted .inDrive .eStopped .endOfWeb).present .estop = false := by
  and_intros <;> first | exact settled (by decide +kernel) | exact free rfl | decide +kernel

/-- A knife in a state. -/
def knife (k : KnifeState) (s : State) : State := { s with station := { s.station with knife := k, knifeTimer := some ⟨0, 4000⟩ } }

theorem witness_HomeKnifeHomes : LinkFree base ∧ Settled base ∧ base.link.synced = true
    ∧ base.line.state ≠ .running ∧ base.line.state ≠ .stopping ∧ base.inputs.eStop = false ∧ base.moving = false
    ∧ running.line.state = .running ∧ Settled (knife .homing base) ∧ (knife .homing base).station.knife = .homing
    ∧ Settled (knife .unhomed base) ∧ (knife .unhomed base).station.knife = .unhomed ∧ base.station.knife = .homeL := by
  and_intros <;> first | exact settled (by decide +kernel) | exact free rfl | decide +kernel

theorem witness_TeachBegins : LinkFree base ∧ Settled base ∧ base.link.synced = true ∧ base.sensor1.teach = none ∧ base.sensor2.teach = none
    ∧ LinkFree teaching ∧ Settled teaching ∧ teaching.sensor1.teach.isSome = true ∧ (0 : Byte) ≠ 1 ∧ (3 : Byte) ≠ 2 := by
  and_intros <;> first | exact settled (by decide +kernel) | exact free rfl | decide +kernel

/-- A running line whose outfeed goes back to -500. -/
def turned : State := moving (move .reverse .approach .station (-500)) running

theorem witness_SetSpeedSetsSetpoint : LinkFree running ∧ Settled running ∧ running.link.synced = true ∧ 5 ≤ running.drives.setpoint
    ∧ running.drives.outfeed = .stopped ∧ running.reg.points = []
    ∧ LinkFree turned ∧ Settled turned ∧ turned.link.synced = true ∧ 5 ≤ turned.drives.setpoint ∧ turned.reg.points = []
    ∧ turned.drives.outfeed = .moving (move .reverse .approach .station (-500)) := by
  and_intros <;> first | exact settled (by decide +kernel) | exact free rfl | decide +kernel

/-- A list of `n` points 10 mm apart from 0 on, in AUTO and FOLLOW, in register. -/
def pointed (n : Nat) (s : State) : State :=
  { s with reg := { s.reg with
    lock := .auto, mode := .follow, register := .inRegister
    points := (List.range n).map (fun k => ⟨.speedStep, 10000 * (k : Int)⟩) } }

theorem pointed_ordered : PointsOrdered (pointed 16 running) ∧ PointsOrdered (pointed 3 running) ∧ PointsOrdered base := by
  unfold PointsOrdered; decide +kernel

theorem witness_SetSpeedSetsSetpoint_points : LinkFree (pointed 16 running) ∧ Settled (pointed 16 running) ∧ Settled (pointed 3 running)
    ∧ (pointed 16 running).drives.setpoint < 4 * (((400 : Nat) : Int) - (pointed 16 running).drives.setpoint).natAbs
    ∧ (∀ p ∈ (pointed 16 running).reg.points, p.pos ≠ (pointed 16 running).p1 - (pointed 16 running).work .dNip) := by
  and_intros <;> first | exact settled (by decide +kernel) | exact free rfl | decide +kernel

/-- R82: a point finds its place in the order, is absorbed by one at its position, and is lost as a seventeenth, which takes FOLLOW and the verdict. -/
theorem test_points :
    (addPoint .filmSplice 15000 (pointed 3 running)).reg.points.map (fun p => (p.kind, p.pos))
        = [(.speedStep, 0), (.speedStep, 10000), (.filmSplice, 15000), (.speedStep, 20000)]
    ∧ addPoint .filmSplice 20000 (pointed 16 running) = pointed 16 running
    ∧ (addPoint .filmSplice 15000 (pointed 16 running)).reg.points = (pointed 16 running).reg.points
    ∧ (addPoint .filmSplice 15000 (pointed 16 running)).reg.mode = .capture
    ∧ (addPoint .filmSplice 15000 (pointed 16 running)).reg.register = .outOfRegister := by decide +kernel

/-- A hot laminator in a heat state. -/
def heated (h : Heat) (s : State) : State :=
  level { s with lam := { s.lam with heat := h, setpoint := 1000, target := s.targetFor h 1000 } }

theorem witness_SetHeatSetsTarget : LinkFree base ∧ Settled base ∧ base.link.synced = true ∧ base.straps.laminator = true
    ∧ base.lam.setpoint = 0 ∧ LinkFree plain ∧ Settled plain ∧ plain.straps.laminator = false
    ∧ Settled (heated .standby base) ∧ (heated .standby base).lam.heat = .standby ∧ (heated .standby base).lam.setpoint ≠ 400
    ∧ Settled (inLine .holding base) ∧ LinkFree (inLine .holding base) ∧ (inLine .holding base).lam.heat = .off
    ∧ (inLine .holding base).line.state = .holding ∧ Settled (heated .ready base) ∧ (heated .ready base).lam.target = some 1000 := by
  and_intros <;> first | exact settled (by decide +kernel) | exact free rfl | decide +kernel

/-- The unit in MANUAL. -/
def manual : State := { base with reg := { (base.reg) with lock := .manual, register := .none, mode := .capture } }

theorem witness_SetRegisterSetsLock : LinkFree base ∧ Settled base ∧ base.link.synced = true ∧ (2 : Byte) = 2 ∧ base.reg.lock = .auto
    ∧ LinkFree manual ∧ Settled manual ∧ manual.reg.lock = .manual ∧ (0 : Byte) ≠ 1 ∧ (3 : Byte) ≠ 2 := by
  and_intros <;> first | exact settled (by decide +kernel) | exact free rfl | decide +kernel

theorem witness_CalWriteChecksAndWrites : LinkFree base ∧ Settled base ∧ base.link.synced = true ∧ base.cal.working.length = 58 ∧ 58 ≤ (58 : Byte).toNat
    ∧ CalEntry.loopFullFrom.index = (11 : Byte).toNat ∧ base.line.state ≠ .running ∧ base.cal.write.isSome = false
    ∧ ¬ (leInt [0xC0, 0x91, 0x21, 0x00] < CalEntry.loopFullFrom.row.lo) ∧ loopOrders (base.cal.working.set 11 2200000) = true
    ∧ loopOrders (base.cal.working.set 11 0) = false ∧ running.line.state = .running
    ∧ Settled { base with cal := { (base.cal) with write := some (11, 2200000) } } := by
  and_intros <;> first | exact settled (by decide +kernel) | exact free rfl | decide +kernel

/-- A stretch of 4000 ppm on a line that stands: the least S_MAX clamps it. -/
def stretched : State := { base with reg := { (base.reg) with s := 4000 } }

theorem witness_CalWriteChecksAndWrites_follow : LinkFree stretched ∧ Settled stretched ∧ stretched.link.synced = true
    ∧ clampInt (-CalEntry.sMax.row.lo) CalEntry.sMax.row.lo stretched.reg.s ≠ stretched.reg.s ∧ stretched.link.events.length < 64
    ∧ stretched.sensor1.bar.inProgress = false ∧ stretched.sensor2.bar.inProgress = false := by
  and_intros <;> first | exact settled (by decide +kernel) | exact free rfl | decide +kernel

theorem witness_IntactFrameReceived : base.heldBy = [] ∧ base.link.breakArmed = true ∧ base.link.rx = .hunt ∧ ([] : List Byte).length ≤ 248
    ∧ (List.replicate 248 (0 : Byte)).length ≤ 248 ∧ base.link.buffer.length < 2 ∧ 2 ≤ (busy 2).link.buffer.length := by decide +kernel

/-- The receiver in a state. -/
def receiving (r : Rx) : State := { base with link := { (base.link) with rx := r } }

theorem witness_ReceiverTakesByte : State.reset.link.breakArmed = false ∧ base.heldBy = [] ∧ base.link.breakArmed = true ∧ base.link.rx = .hunt
    ∧ (receiving .length).link.rx = .length ∧ (receiving (.body 2 [1])).link.rx = .body 2 [1]
    ∧ (receiving (.check 2 [1, 2] [])).link.rx = .check 2 [1, 2] [] ∧ (receiving (.check 2 [1, 2] [3])).link.rx = .check 2 [1, 2] [3]
    ∧ (crc16 (BitVec.ofNat 8 2 :: [1, 2])).toNat ≠ (3 : Byte).toNat + 256 * (4 : Byte).toNat := by decide +kernel

theorem witness_LinkLineEvents : base.heldBy = [] ∧ (receiving .length).link.rx ≠ .hunt ∧ base.link.rx = .hunt
    ∧ (busy 1).link.reply.isSome = true := by decide +kernel

theorem witness_ResetsTakeHold : base.link.breakArmed = true ∧ State.reset.link.breakArmed = false ∧ .powerOn ∉ base.heldBy
    ∧ .powerOn ∈ (after (.powerOn 6 true false) base).heldBy := by decide +kernel

theorem witness_ResetsTakeHold_write :
    { base with cal := { (base.cal) with write := some (11, 2200000) } }.cal.write = some (11, 2200000)
    ∧ (after .resetPin { base with cal := { (base.cal) with
        store := calDefaults.map (fun v => ⟨v, true⟩), write := some (11, 2200000) } }).cal.store[11]?.map (·.checkOk) = some false := by
  decide +kernel

/-- Held by the reset pin, both home switches and the E-stop active; and held by a low supply as well. -/
def held : State := after .resetPin { base with inputs := { (base.inputs) with homeR := true, eStop := true } }
def heldTwice : State := after .supplyLow held
def heldPower : State := after (.powerOn 6 true false) held

/-- R209: the power-on ramp over and the reset pin still holding, a supply that falls low adds its cause. -/
theorem test_supply_low_after_ramp :
    (after .supplyLow heldPower).causes = [.powerOn] ∧ (after .supplyLow (after .resetEnd heldPower)).causes = [.powerOn, .supplyLow]
    ∧ (after .resetEnd heldPower).heldBy = [.resetPin] := by decide +kernel

theorem witness_ResetEndStarts : base.heldBy = [] ∧ ResetKind.resetPin ∈ held.heldBy ∧ (∀ j ∈ held.heldBy, j = ResetKind.resetPin)
    ∧ held.cal.store.length = 58 ∧ held.inputs.homeL = true ∧ held.inputs.homeR = true ∧ held.inputs.eStop = true
    ∧ heldTwice.heldBy.head? = some .resetPin ∧ ResetKind.powerOn ∉ heldTwice.heldBy ∧ ResetKind.powerOn ∈ heldPower.heldBy
    ∧ (∃ j ∈ heldPower.heldBy, j ≠ ResetKind.powerOn) ∧ (∃ j ∈ heldTwice.heldBy, j ≠ ResetKind.resetPin) ∧ loopOrders (loadedAll held) = true := by decide +kernel

/-- Counts of the encoders. -/
def counts (n : Int) (s : State) : State := { s with roll1 := { s.roll1 with count := n }, roll2 := { s.roll2 with count := n } }

theorem witness_EncoderStepMovesRoll : Settled running ∧ (true, false) = nextPair (running.inputs.e1A, running.inputs.e1B)
    ∧ nextPair (false, true) = (running.inputs.e2A, running.inputs.e2B) ∧ (running.roll1.count + 1).natAbs ≤ 549755813887
    ∧ (running.roll2.count + -1).natAbs ≤ 549755813887 ∧ ((counts 549755813886 running).roll1.count + 1).natAbs ≤ 549755813887 := by
  and_intros <;> first | exact settled (by decide +kernel) | exact free rfl | decide +kernel

theorem witness_CountStopsAtLimit : Settled (counts 549755813887 running) ∧ Settled (counts (-549755813887) running) ∧ Settled base
    ∧ (true, false) = nextPair (running.inputs.e1A, running.inputs.e1B) ∧ nextPair (false, true) = (running.inputs.e2A, running.inputs.e2B)
    ∧ (counts 549755813887 running).roll1.count = 549755813887 ∧ (counts (-549755813887) running).roll2.count = -549755813887
    ∧ true = !running.inputs.e1A ∧ base.line.state = .unthreaded := by
  and_intros <;> first | exact settled (by decide +kernel) | exact free rfl | decide +kernel

/-- A dark bar at both sensors, begun at `l`. -/
def dark (l : Int) (s : State) : State :=
  { s with
    inputs := { s.inputs with dark1 := true, dark2 := true }
    sensor1 := { s.sensor1 with bar := .counting l false }, sensor2 := { s.sensor2 with bar := .counting l false } }

/-- Every position watch has fired. -/
def due : Option Watch := some { limit := 0, due := true }

theorem witness_BarsBeginAndEnd : Settled base ∧ base.inputs.dark1 = false ∧ base.sensor1.bar = .none ∧ base.inputs.dark2 = false
    ∧ base.sensor2.bar = .none ∧ Settled (dark 0 base) ∧ (dark 0 base).inputs.dark1 = true ∧ (dark 0 base).cursor1.deciding = false
    ∧ (dark 0 base).sensor1.bar = .counting 0 false ∧ ¬ ((dark 0 base).work .markMin ≤ (dark 0 base).p1 - 0)
    ∧ Settled { base with watches := { bar1 := due, bar2 := due } } ∧ watchDue due = true := by
  and_intros <;> first | exact settled (by decide +kernel) | exact free rfl | decide +kernel

/-- A bar from -5 mm to 0 that is to resolve the head of panel 0, which the M1 cursor seeks or expects, the M2 cursor expecting an earlier mark. -/
def seeking (w : Option Window1) : State :=
  dark (-5000) { listed with
    cursor1 :=
      { (listed.cursor1) with
        state := if w.isSome then .window else .seek
        expect := some { panel := ⟨0, 1⟩, mark := .head, takeUp := -10000, window := w } }
    cursor2 := { (listed.cursor2) with state := .window } }

/-- A window around 0. -/
def window1 : Window1 := { expected := 0, lower := -5000, upper := 5000 }

theorem witness_BarResolvesHead : Settled (seeking none) ∧ Settled (seeking (some window1)) ∧ (seeking none).inputs.dark1 = true
    ∧ (seeking none).sensor1.bar = .counting (-5000) false ∧ (seeking none).work .markMin ≤ (seeking none).p1 - -5000
    ∧ (seeking none).p1 - -5000 ≤ (seeking none).work .markMax ∧ (seeking none).cursor1.state = .seek
    ∧ (seeking (some window1)).cursor1.state = .window ∧ window1.lower ≤ -5000 ∧ -5000 ≤ window1.upper
    ∧ (seeking none).panel? ⟨0, 1⟩ = some (panel 0 .queued) ∧ (panel 0 .queued).state = .queued ∧ (panel 0 .queued).aTail = none
    ∧ (panel 0 .queued).completion ≠ some .aborted ∧ (seeking none).cursor2.state = .window
    ∧ (seeking none).p1 ≤ -5000 + (panel 0 .queued).lNom + (seeking none).work .w1 := by
  and_intros <;> first | exact settled (by decide +kernel) | exact free rfl | decide +kernel

/-- The list with its first panel in INFEED. -/
def infeed : State := withPanels [panel 0 .infeed, panel 1 .done] base

/-- Expecting panel 0's tail at M1, the watch fired. -/
def tail1 : State :=
  { infeed with
    cursor1 :=
      { (infeed.cursor1) with
        state := .window, expect := some { panel := ⟨0, 1⟩, mark := .tail, takeUp := 0, window := some window1 } }
    cursor2 := { (infeed.cursor2) with state := .window }
    watches := { m1Window := due } }

/-- Expecting panel 0's tail at M1 with a bar from -5 mm to 0, with no panel QUEUED and with panel 1 QUEUED. -/
def barAtTail (ps : List Panel) : State :=
  let s := withPanels ps { base with cursor1 :=
    { (base.cursor1) with
      state := .window, seekPending := false
      expect := some { panel := ⟨0, 1⟩, mark := .tail, takeUp := 0, window := some window1 } } }
  dark (-5000) { s with cursor2 := { s.cursor2 with state := .window } }

theorem witness_BarResolvesHead_tail : Settled (barAtTail [panel 0 .infeed]) ∧ (barAtTail [panel 0 .infeed]).inputs.dark1 = true
    ∧ (barAtTail [panel 0 .infeed]).panel? ⟨0, 1⟩ = some (panel 0 .infeed) ∧ (panel 0 .infeed).bHead = none
    ∧ (∀ q ∈ (barAtTail [panel 0 .infeed]).panels, q.state ≠ .queued) ∧ (barAtTail [panel 0 .infeed]).cursor1.state = .window
    ∧ Settled (barAtTail [panel 0 .infeed, panel 1 .queued])
    ∧ (barAtTail [panel 0 .infeed, panel 1 .queued]).panels.find? (fun q => decide (q.state = .queued)) = some (panel 1 .queued)
    ∧ (barAtTail [panel 0 .infeed, panel 1 .queued]).cursor1.holdLimit = none
    ∧ (barAtTail [panel 0 .infeed, panel 1 .queued]).cursor1.seekPending = false
    ∧ (barAtTail [panel 0 .infeed]).p1 ≤ -5000 + (panel 1 .queued).gNom + base.work .w1 := by
  and_intros <;> first | exact settled (by decide +kernel) | exact free rfl | decide +kernel

/-- A window at M2. -/
def window2 : Window2 := { a := 0, takeUp := 0, predicted := 0, half := 5000, lower := -5000, upper := 5000 }

/-- Expecting panel 0's tail at M2, the watch fired. -/
def tail2 : State :=
  withPanels [panel 0 .committed, panel 1 .done] { base with
    cursor2 := { (base.cursor2) with state := .window, expect := some ⟨⟨0, 1⟩, .tail, some window2⟩ }
    watches := { m2Window := due } }

theorem witness_WindowsExpire : Settled tail1 ∧ watchDue tail1.watches.m1Window = true ∧ tail1.cursor1.state = .window
    ∧ tail1.cursor1.expect = some { panel := ⟨0, 1⟩, mark := .tail, takeUp := 0, window := some window1 } ∧ tail1.sensor1.bar = .none
    ∧ tail1.panel? ⟨0, 1⟩ = some (panel 0 .infeed) ∧ (panel 0 .infeed).bHead = none ∧ (∀ q ∈ tail1.panels, q.state ≠ .queued)
    ∧ tail1.cursor2.state = .window ∧ Settled (dark (-5000) tail1) ∧ window1.lower ≤ -5000 ∧ -5000 ≤ window1.upper := by
  and_intros <;> first | exact settled (by decide +kernel) | exact free rfl | decide +kernel
theorem witness_WindowsExpire_m2 : Settled tail2 ∧ watchDue tail2.watches.m2Window = true ∧ tail2.cursor2.state = .window
    ∧ tail2.cursor2.expect = some ⟨⟨0, 1⟩, .tail, some window2⟩ ∧ tail2.sensor2.bar = .none
    ∧ tail2.panel? ⟨0, 1⟩ = some (panel 0 .committed) ∧ (∀ q ∈ tail2.panels, q.state ≠ .infeed) ∧ tail2.reg.points = []
    ∧ Settled (dark 5000 tail2) ∧ (dark 5000 tail2).sensor2.bar = .counting 5000 false ∧ window2.lower ≤ 5000 ∧ 5000 ≤ window2.upper := by
  and_intros <;> first | exact settled (by decide +kernel) | exact free rfl | decide +kernel

/-- Expecting panel 0's head at M1, the watch fired. -/
def head1 : State :=
  let s := withPanels [panel 0 .queued] base
  { s with
    cursor1 := { (s.cursor1) with
      state := .window, expect := some { panel := ⟨0, 1⟩, mark := .head, takeUp := 0, window := some window1 } }
    cursor2 := { (s.cursor2) with state := .window }
    watches := { m1Window := due } }

theorem witness_WindowsExpire_head1 : Settled head1 ∧ watchDue head1.watches.m1Window = true ∧ head1.sensor1.bar = .none
    ∧ head1.panel? ⟨0, 1⟩ = some (panel 0 .queued) ∧ (panel 0 .queued).aTail = none ∧ (panel 0 .queued).completion ≠ some .aborted
    ∧ head1.cursor2.state = .window ∧ head1.p1 ≤ window1.expected + (panel 0 .queued).lNom + head1.work .w1 := by
  and_intros <;> first | exact settled (by decide +kernel) | decide +kernel

/-- A panel whose head M2 expects, with its tail seen at M1 or not. -/
def headed (tail : Option Coord) : Panel := { panel 0 .infeed with aHead := some ⟨0, false⟩, aTail := tail }

/-- Expecting that panel's head at M2, the watch fired, the queue too full for the panel. -/
def head2 (tail : Option Coord) : State :=
  withPanels [headed tail] { base with
    reg := { (base.reg) with anchor := some (-100000, -100000) }
    planner := { queue := List.replicate 30 { cut := some ⟨⟨0, 1⟩, 1⟩, trigger := 400 } }
    cursor2 := { (base.cursor2) with state := .window, expect := some ⟨⟨0, 1⟩, .head, some window2⟩ }
    watches := { m2Window := due } }

theorem witness_WindowsExpire_head2 : Settled (head2 none) ∧ Settled (head2 (some ⟨300000, false⟩))
    ∧ watchDue (head2 none).watches.m2Window = true ∧ (head2 none).panel? ⟨0, 1⟩ = some (headed none) ∧ (head2 none).sensor2.bar = .none
    ∧ (∀ q ∈ (head2 none).panels, q.serial = 0 → q = headed none) ∧ (headed none).bTail = none ∧ (headed none).completion = none
    ∧ 32 < (headed none).cuts.length + (head2 none).planner.queue.length ∧ (head2 none).reg.anchor = some (-100000, -100000)
    ∧ (head2 none).p2 ≤ -100000 + (300000 - -100000) := by
  and_intros <;> first | exact settled (by decide +kernel) | decide +kernel

/-- A held head, the hold watch fired. -/
def heldHead : State :=
  { listed with cursor1 := { (listed.cursor1) with state := .spliceHold, holdLimit := some 0 }, watches := { hold := due } }

theorem witness_SplicesAndHold : Settled (seeking none) ∧ (seeking none).inputs.splice = false ∧ (seeking none).cursor1.state = .seek
    ∧ (seeking none).cursor1.holdLimit = none ∧ (seeking none).reg.points = [] ∧ (seeking none).link.events.length ≤ 61
    ∧ Settled (inLine .threaded base) ∧ (inLine .threaded base).straps.laminator = true ∧ (inLine .threaded base).inputs.filmSplice = false
    ∧ (inLine .threaded base).line.state ≠ .unthreaded ∧ Settled heldHead ∧ watchDue heldHead.watches.hold = true
    ∧ heldHead.cursor1.state = .spliceHold ∧ heldHead.cursor1.lastHead = none ∧ heldHead.cursor1.seekPending = true
    ∧ heldHead.panels.find? (fun q => decide (q.state = .queued)) = some (panel 0 .queued)
    ∧ Settled { base with watches := { hold := due } } ∧ base.cursor1.state ≠ .spliceHold := by
  and_intros <;> first | exact settled (by decide +kernel) | exact free rfl | decide +kernel

theorem witness_WebEndReported : Settled running ∧ running.inputs.web1 = true ∧ running.webEnd = false ∧ running.feeding = true
    ∧ running.drives.webSeq = .none ∧ Settled base ∧ base.inputs.web1 = true ∧ base.webEnd = false ∧ base.feeding = false := by
  and_intros <;> first | exact settled (by decide +kernel) | exact free rfl | decide +kernel

/-- A teach at the second sensor that has seen little contrast. -/
def faint : State :=
  { running with
    sensor2 := { (running.sensor2) with teach := some ⟨0, some 400, some 479, ⟨0, 60000⟩⟩ }, watches := { teach2 := due } }

theorem witness_TeachEnds : Settled teaching ∧ teaching.sensor1.teach = some ⟨5004000, some 138, some 702, ⟨0, 60000⟩⟩
    ∧ teaching.link.events.length < 64 ∧ watchDue teaching.watches.teach1 = true ∧ teaching.cal.working.length = 58
    ∧ teaching.work .contrastMin ≤ 702 - 138 ∧ Settled faint ∧ faint.sensor2.teach = some ⟨0, some 400, some 479, ⟨0, 60000⟩⟩
    ∧ watchDue faint.watches.teach2 = true ∧ ¬ (faint.work .contrastMin ≤ 479 - 400) := by
  and_intros <;> first | exact settled (by decide +kernel) | exact free rfl | decide +kernel

theorem witness_DancerGivesLoopLength : ready.heldBy = [] ∧ ready.sampler.channel = .dancer ∧ ready.work .loopAt0 < ready.work .loopAt1023 := by
  decide +kernel

/-- The Loop of a running line, watching. -/
def watching : State := { running with loop := { (running.loop) with watching := true } }

/-- The same with the free run under way. -/
def freeRun : State := moving (move .forward .freeRun .free 1500000) running

/-- A running line in a zone, its outfeed as given. -/
def zoned (z : Zone) (o : Outfeed) : State :=
  level { running with loop := { (running.loop) with zone := z }, drives := { (running.drives) with outfeed := o } }

/-- The zone of a result. -/
def zoneOf (r : BitVec 10) : Zone :=
  zoneFrom running (running.work .loopAt0 + roundDiv (r.toNat * (running.work .loopAt1023 - running.work .loopAt0)) 1023)

theorem witness_DancerZoneAndFault_moves : Settled freeRun ∧ freeRun.loop.zone = .normal ∧ zoneOf 140 = .low ∧ freeRun.drives.webSeq ≠ .draining
    ∧ Settled (zoned .empty (.held (.station .approach 400))) ∧ (400 : Int) ≠ (zoned .empty (.held (.station .approach 400))).p2
    ∧ zoneOf 600 = .normal ∧ Settled (zoned .low (.held .free)) ∧ (zoned .low (.held .free)).feeding = true
    ∧ (zoned .low (.held .free)).station.cycle = .idle ∧ (zoned .low (.held .free)).planner.target = none ∧ 0 ≤ running.work .dMk
    ∧ Settled (zoned .low (.held .nothing)) ∧ (zoned .low (.held .nothing)).station.cycle ≠ .preparing := by
  and_intros <;> first | exact settled (by decide +kernel) | exact free rfl | decide +kernel

theorem witness_DancerZoneAndFault : Settled running ∧ running.sampler.channel = .dancer
    ∧ running.drives.outfeed = .stopped ∧ running.loop.watching = false ∧ running.inputs.nipClosed = false
    ∧ Settled watching ∧ watching.loop.watching = true ∧ (7 : BitVec 10).toNat < 8 ∧ 1015 < (1016 : BitVec 10).toNat
    ∧ watching.loop.faulted = false ∧ Settled freeRun ∧ freeRun.drives.outfeed = .moving (move .forward .freeRun .free 1500000)
    ∧ (move .forward .freeRun .free 1500000).kind ≠ .stopNow ∧ freeRun.station.cycle ≠ .preparing ∧ freeRun.drives.webSeq ≠ .draining
    ∧ zoneFrom freeRun (freeRun.work .loopAt0 + roundDiv ((8 : BitVec 10).toNat * (freeRun.work .loopAt1023 - freeRun.work .loopAt0)) 1023) = .empty
    ∧ freeRun.loop.zone ≠ .empty := by
  and_intros <;> first | exact settled (by decide +kernel) | exact free rfl | decide +kernel

/-- A round that stands at a channel. -/
def sampling (c : Channel) (s : State) : State := { s with sampler := { s.sampler with round := [(c, 2), (.dancer, 4)] } }

theorem witness_TempAndLevelResults : Settled (sampling .temp (heated .warming base)) ∧ (sampling .temp base).sampler.channel = .temp
    ∧ (0 : BitVec 10) = 0 ∧ (heated .ready base).lam.target = some ((heated .ready base).lam.setpoint : Int)
    ∧ (1 : BitVec 10) ≠ 0 ∧ (1 : BitVec 10) ≠ 1023 ∧ 2 * ((749 : BitVec 10).toNat : Int) < 1500 ∧ 1500 ≤ 2 * ((750 : BitVec 10).toNat : Int)
    ∧ (∀ g, (heated .warming base).lam.target = some g → 2 * ((480 : BitVec 10).toNat : Int) < g + (heated .warming base).work .tOver)
    ∧ ((heated .warming base).lam.heat = .off ↔ (heated .warming base).lam.target = none)
    ∧ Settled (sampling .temp base) ∧ base.lam.lockout = false ∧ base.lam.heat = .off ∧ base.lam.armed = false ∧ base.inputs.nipClosed = false := by
  and_intros <;> first | exact settled (by decide +kernel) | exact free rfl | decide +kernel
/-- A READY roller with its relative test armed, and a teach that has seen nothing. -/
def armed : State := sampling .temp (level { heated .ready base with lam := { (heated .ready base).lam with armed := true } })
def unseen : State := sampling .level1 { running with sensor1 := { (running.sensor1) with teach := some ⟨0, none, none, ⟨0, 60000⟩⟩ } }

theorem witness_TempAndLevelResults_relative : Settled armed ∧ armed.sampler.channel = .temp ∧ (armed.lam.heat = .off ↔ armed.lam.target = none) ∧ armed.lam.armed = true
    ∧ armed.lam.heat = .ready ∧ armed.lam.lockout = false ∧ armed.lam.target = some 1000
    ∧ (1000 : Int) + armed.work .tOver ≤ 2 * (745 : BitVec 10).toNat ∧ 2 * (745 : BitVec 10).toNat < 1500
    ∧ (armed.lam.setpoint : Int) - armed.work .tBand ≤ 2 * (745 : BitVec 10).toNat
    ∧ Settled unseen ∧ unseen.sensor1.teach = some ⟨0, none, none, ⟨0, 60000⟩⟩ := by
  and_intros <;> first | exact settled (by decide +kernel) | exact free rfl | decide +kernel
theorem witness_TempAndLevelResults_level : Settled (sampling .level1 teaching) ∧ (sampling .level1 teaching).sampler.channel = .level1
    ∧ (sampling .level1 teaching).sensor1.teach = some ⟨5004000, some 138, some 702, ⟨0, 60000⟩⟩ ∧ Settled (sampling .level2 faint)
    ∧ (sampling .level2 faint).sensor2.teach = some ⟨0, some 400, some 479, ⟨0, 60000⟩⟩ ∧ (sampling .level1 running).sensor1.teach = none := by
  and_intros <;> first | exact settled (by decide +kernel) | exact free rfl | decide +kernel

/-- R33: with its turn's last conversion a channel gives way to the next, and the last turn to a new round. -/
theorem test_turns :
    (after (.conversionComplete 400) { (sampling .temp base) with sampler := { round := [(.temp, 1)] } }).sampler.round
        = [(.dancer, (base.work .grantDancer).toNat), (.temp, (base.work .grantTemp).toNat)]
    ∧ (after (.conversionComplete 400) { base with sampler := { round := [(.dancer, 1), (.temp, 3)] } }).sampler.round = [(.temp, 3)] := by
  decide +kernel

/-- A warming roller with its settle timer, on a threaded line, and a hot roller in a closed nip on a line that stands. -/
def settling : State :=
  level { heated .warming (inLine .threaded base) with lam := { (heated .warming (inLine .threaded base)).lam with settle := some ⟨0, 60000⟩ } }
def dwelling : State := level { heated .ready base with lam := { (heated .ready base).lam with nip := .closed } }

theorem witness_HeatAndDwellTimers : Settled settling ∧ settling.lam.settle = some ⟨0, 60000⟩ ∧ settling.lam.heat = .warming
    ∧ settling.lam.target = some (settling.lam.setpoint : Int) ∧ settling.feeding = false ∧ settling.lam.idle = some ⟨0, 600000⟩
    ∧ Settled dwelling ∧ dwelling.lam.dwell = some { start := 0, mark := 3000, max := 8000 } := by
  and_intros <;> first | exact settled (by decide +kernel) | exact free rfl | decide +kernel

/-- The same on a running line, the nip lifted and to close again. -/
def settlingFed : State :=
  let s := inLine .running base
  level { s with
    lam := { s.lam with heat := .warming, setpoint := 1000, target := some 1000, settle := some ⟨0, 60000⟩, nip := .opened, reclose := true }
    inputs := { s.inputs with nipOpen := true } }

theorem witness_HeatAndDwellTimers_fed : Settled settlingFed ∧ settlingFed.feeding = true ∧ settlingFed.lam.settle = some ⟨0, 60000⟩
    ∧ settlingFed.lam.heat = .warming ∧ settlingFed.lam.target = some (settlingFed.lam.setpoint : Int) ∧ nipCloses settlingFed = true
    ∧ 0 < feedBesideNip settlingFed ∧ settlingFed.lam.reclose = true ∧ settlingFed.reg.points = [] := by
  and_intros <;> first | exact settled (by decide +kernel) | exact free rfl | decide +kernel

/-- A nip in a state. -/
def nip (n : Nip) (s : State) : State := level { s with lam := { s.lam with nip := n, reclose := true, nipTimer := some ⟨0, 3000⟩ } }

theorem witness_NipConfirms : Settled (nip .closing base) ∧ (nip .closing base).straps.laminator = true ∧ (nip .closing base).lam.nip = .closing
    ∧ (nip .closing base).reg.points = [] ∧ Settled (nip .opening base) ∧ (nip .opening base).lam.nip = .opening
    ∧ Settled (nip .closed base) ∧ (nip .closed base).lam.nip = .closed ∧ Settled (nip .opened base) ∧ (nip .opened base).lam.nip = .opened := by
  and_intros <;> first | exact settled (by decide +kernel) | exact free rfl | decide +kernel

/-- A laminating line that runs, its nip closed; and one whose starvation watch has fired. -/
def laminating : State := inLine .running (nip .closed base)
def starved : State :=
  let s := inLine .running
    { plain with cursor1 := { (plain.cursor1) with state := .idle }, drives := { (plain.drives) with starveBase := some 0 } }
  { s with watches := { s.watches with starve := s.watches.starve.map (fun w => { w with due := true }) } }

theorem witness_StopsBegin : Settled laminating ∧ laminating.inputs.filmOut = false ∧ laminating.straps.laminator = true
    ∧ laminating.feeding = true ∧ plain.straps.laminator = false ∧ base.feeding = false ∧ Settled base
    ∧ Settled starved ∧ watchDue starved.watches.starve = true ∧ Settled running ∧ running.inputs.stackFull = false
    ∧ running.line.state = .running ∧ running.station.cycle = .idle ∧ running.planner.target = none ∧ base.line.state ≠ .running := by
  and_intros <;> first | exact settled (by decide +kernel) | exact free rfl | decide +kernel

/-- An entry for the first cut of panel 0. -/
def entry (st : EntryState) : Entry := { cut := some ⟨⟨0, 1⟩, 1⟩, trigger := 400, state := st }

/-- The station in a cycle state with that entry first in the queue. -/
def atEntry (c : Cycle) (st : EntryState) (s : State) : State :=
  { s with planner := { s.planner with queue := [entry st], target := some 400 }, station := { s.station with cycle := c } }

theorem witness_StopsBegin_stroke : Settled (atEntry .stroke .executing running) ∧ ¬ ((atEntry .stroke .executing running).station.cycle = .idle) := by
  and_intros <;> first | exact settled (by decide +kernel) | exact free rfl | decide +kernel

theorem witness_EStopStopsLine : Settled (atEntry .stroke .executing running) ∧ (atEntry .stroke .executing running).inputs.eStop = false
    ∧ (atEntry .stroke .executing running).line.state ≠ .eStopped ∧ Settled (faulted .estop .eStopped .threaded)
    ∧ (faulted .estop .eStopped .threaded).line.state = .eStopped := by
  and_intros <;> first | exact settled (by decide +kernel) | exact free rfl | decide +kernel

/-- Every device MOVING under its timer. -/
def devices (s : State) : State :=
  { s with station := { s.station with
    gate := { commanded := .delivery, timer := some ⟨0, 1000⟩ }, blades := List.replicate 6 { timer := some ⟨0, 1500⟩ } } }

theorem witness_FaultsRaised : Settled running ∧ running.inputs.inDrive = false ∧ running.inputs.outDrive = false
    ∧ Settled freeRun ∧ freeRun.drives.outfeed = .moving (move .forward .freeRun .free 1500000)
    ∧ (move .forward .freeRun .free 1500000).deadline = some 20000 ∧ Settled (devices running)
    ∧ (devices running).station.gate.timer = some ⟨0, 1000⟩ ∧ (devices running).station.blades[(5 : Fin 6).val]? = some { timer := some ⟨0, 1500⟩ }
    ∧ Settled (nip .opening base) ∧ (nip .opening base).lam.nipTimer = some ⟨0, 3000⟩ ∧ Settled (knife .homing base)
    ∧ (knife .homing base).station.knifeTimer = some ⟨0, 4000⟩ ∧ Settled (knife .traversingLR (atEntry .stroke .executing running))
    ∧ (knife .traversingLR (atEntry .stroke .executing running)).current = some (entry .executing) := by
  and_intros <;> first | exact settled (by decide +kernel) | exact free rfl | decide +kernel

/-- An approach whose move ends at P2, `d` beyond the trigger. -/
def approach (d : Int) : State :=
  let s := moving (move .forward .approach .station 400) (atEntry .approach .active running)
  knife .unhomed { s with roll2 := { s.roll2 with pos := 400 + d } }

/-- An arrival by `d` on a line that has stopped for a fault. -/
def lateArrival (d : Int) : State :=
  { approach d with line := { (running.line) with state := .faulted }, drives := { (approach d).drives with infeedRef := 0 } }

/-- R117, R119: an overshoot beyond BACK_MAX is judged in the arrival event also where the line does not let the entry go on. -/
theorem test_miss_judged_before_pause :
    let t := after .moveEnded (withPanels [panel 0 .committed] (lateArrival 100001))
    t.station.cycle = .paused ∧ t.panels.map (·.flags) = [[.cutFault]] := by decide +kernel

theorem witness_MovesEnd_paused : Settled (level (lateArrival 100001)) ∧ (level (lateArrival 100001)).continuing = false
    ∧ (level (lateArrival 100001)).drives.outfeed = .moving (move .forward .approach .station 400)
    ∧ (level (lateArrival 100001)).station.cycle = .approach ∧ (level (lateArrival 100001)).planner.queue = [entry .active] := by
  and_intros <;> first | exact settled (by decide +kernel) | decide +kernel

theorem witness_MovesEnd : Settled running ∧ running.moving = false
    ∧ Settled (moving { move .stopNow .freeRun .free 0 with reports := false } threaded) ∧ threaded.freeCond = false
    ∧ threaded.station.cycle ≠ .preparing ∧ Settled freeRun ∧ (move .forward .freeRun .free 1500000).reports = true
    ∧ freeRun.feeding = true ∧ freeRun.station.cycle = .idle ∧ freeRun.planner.target = none ∧ freeRun.drives.webSeq ≠ .draining
    ∧ 0 < freeRun.work .dMk := by
  and_intros <;> first | exact settled (by decide +kernel) | exact free rfl | decide +kernel
theorem witness_MovesEnd_approach : Settled (approach 500) ∧ (approach 500).station.cycle = .approach
    ∧ (approach 500).planner.queue = entry .active :: [] ∧ (approach 500).continuing = true ∧ (approach 500).station.recut = false
    ∧ ((approach 500).p2 - 400).natAbs ≤ (approach 500).work .cutTol ∧ (entry .active).cut.isSome = true ∧ severedBy (entry .active) = []
    ∧ (approach 500).station.knife.atHome = false ∧ Settled (approach 501) ∧ (approach 501).work .cutTol < ((approach 501).p2 - 400).natAbs
    ∧ (approach 501).p2 - 400 ≤ (approach 501).work .backMax ∧ (approach 501).station.corrections < 2 ∧ (approach 501).zoneHolds = false := by
  and_intros <;> first | exact settled (by decide +kernel) | exact free rfl | decide +kernel

/-- The same with cut 2 of a panel that may be delivered, after `n` corrections, the inspect reject active or not, the move the end of a free run's STOP-NOW. -/
def severing (d : Int) (n : Nat) (reject : Bool) : State :=
  let s := approach d
  withPanels [panel 0 .committed] { moving (move .stopNow .approach .free 0) s with
    planner := { s.planner with queue := [{ entry .active with cut := some ⟨⟨0, 1⟩, 2⟩ }] }
    station := { s.station with corrections := n }
    inputs := { s.inputs with inspectReject := reject }
    cal := { s.cal with working := s.cal.working.set CalEntry.inspectEnable.index 1 } }

/-- A correction that ends 501 µm beyond its trigger, in a zone. -/
def corrected (z : Zone) : State :=
  level { approach 501 with
    loop := { (approach 501).loop with zone := z }
    planner := { (approach 501).planner with queue := [entry .settling] }
    station := { (approach 501).station with cycle := .correct, corrections := 1 }
    drives := { (approach 501).drives with outfeed := .moving (move .forward .creep .station 901) } }

theorem witness_MovesEnd_gate : Settled (severing 500 0 false) ∧ Settled (severing 501 2 true) ∧ Settled (severing 1501 2 false)
    ∧ (move .stopNow .approach .free 0).reports = true ∧ (move .stopNow .approach .free 0).owner = .free
    ∧ severedBy { entry .active with cut := some ⟨⟨0, 1⟩, 2⟩ } = [0] ∧ deliverable [panel 0 .committed] 0
    ∧ (severing 501 2 true).work .inspectEnable = 1 ∧ (severing 501 2 true).inputs.inspectReject = true
    ∧ 2 ≤ (severing 501 2 true).station.corrections ∧ (severing 501 2 true).work .cutTol < ((severing 501 2 true).p2 - 400).natAbs
    ∧ ¬ deliverable (flagged .cutFault true [0] [panel 0 .committed]) 0
    ∧ Settled (corrected .normal) ∧ Settled (corrected .empty) ∧ (corrected .empty).station.cycle = .correct
    ∧ (corrected .empty).drives.webSeq ≠ .draining ∧ (corrected .empty).loop.zone = .empty :=
  ⟨settled (by decide +kernel), settled (by decide +kernel), settled (by decide +kernel), by decide +kernel, by decide +kernel,
    by decide +kernel, ⟨panel 0 .committed, by decide +kernel, by decide +kernel, nofun⟩, by decide +kernel, by decide +kernel, by decide +kernel,
    by decide +kernel, fun ⟨_, h, _, f⟩ => by cases h; exact absurd rfl (f .cutFault (by decide +kernel)).2.2.2.2.2.2.1,
    settled (by decide +kernel), settled (by decide +kernel), by decide +kernel⟩

/-- The tail-out watch has fired on a line with anchor (0, 0) and the web's end at `a`. -/
def tailedOut (a : Int) : State :=
  { freeRun with
    drives := { (freeRun.drives) with webSeq := .feedingOut, aEnd := some a }, watches := { tailOut := due }
    reg := { (freeRun.reg) with anchor := some (0, 0) } }

theorem witness_TailOutDrains : Settled (tailedOut 0) ∧ watchDue (tailedOut 0).watches.tailOut = true ∧ (tailedOut 0).drives.aEnd = some 0
    ∧ (tailedOut 0).drives.outfeed = .moving (move .forward .freeRun .free 1500000) ∧ (tailedOut 0).station.cycle ≠ .approach
    ∧ (∀ p ∈ (tailedOut 0).panels, p.state ≠ .atOutfeed)
    ∧ (tailedOut 0).planner.target = (tailedOut 0).planner.queue.head?.map (·.trigger)
    ∧ (tailedOut 0).p2 < (tailedOut 0).predict 0 + (tailedOut 0).work .dMk
    ∧ Settled (tailedOut (-1500000)) ∧ (tailedOut (-1500000)).predict (-1500000) + (tailedOut (-1500000)).work .dMk ≤ (tailedOut (-1500000)).p2
    ∧ (tailedOut (-1500000)).line.state = .running ∧ (tailedOut (-1500000)).station.cycle = .idle ∧ (tailedOut (-1500000)).planner.queue = [] := by
  and_intros <;> first | exact settled (by decide +kernel) | exact free rfl | decide +kernel

/-- A cut prepared but for the gate's confirm. -/
def prepared : State :=
  let s := atEntry .preparing .executing running
  { s with station := { s.station with gate := { commanded := .delivery }, blades := List.replicate 6 { confirmed := true } } }

theorem witness_DevicesAndHomeSwitches : Settled (devices running) ∧ (devices running).station.cycle ≠ .preparing
    ∧ (devices running).station.gate.commanded = .delivery ∧ (devices running).station.gate.confirmed = false
    ∧ (devices running).station.blades[(0 : Fin 6).val]? = some { timer := some ⟨0, 1500⟩ }
    ∧ running.station.gate.commanded = .scrap ∧ running.station.gate.confirmed = false
    ∧ Settled prepared ∧ prepared.planner.queue = entry .executing :: [] ∧ (∀ b ∈ prepared.station.blades, b.confirmed = true)
    ∧ prepared.station.knife = .homeL ∧ prepared.moving = false ∧ prepared.continuing = true
    ∧ Settled base ∧ false ≠ base.inputs.homeL ∧ true ≠ base.inputs.homeR ∧ Settled (knife .homing base) := by
  and_intros <;> first | exact settled (by decide +kernel) | exact free rfl | decide +kernel

/-- A LANE entry prepared but for its last blade. -/
def laneAlmost : State :=
  let s := atEntry .preparing .executing running
  { s with
    planner := { s.planner with queue := [{ cut := none, lane := some ⟨1, ⟨0, 1⟩⟩, trigger := 400, state := .executing }] }
    station := { s.station with blades := { down := true, timer := some ⟨0, 1500⟩ } :: List.replicate 5 { confirmed := true } } }

theorem witness_DevicesAndHomeSwitches_lane : Settled laneAlmost ∧ laneAlmost.station.cycle = .preparing
    ∧ laneAlmost.planner.queue = [{ cut := none, lane := some ⟨1, ⟨0, 1⟩⟩, trigger := 400, state := .executing }]
    ∧ laneAlmost.station.blades[(0 : Fin 6).val]? = some { down := true, timer := some ⟨0, 1500⟩ }
    ∧ (laneAlmost.station.blades.set 0 { down := true, timer := some ⟨0, 1500⟩, confirmed := true }).all (·.confirmed) = true
    ∧ laneAlmost.line.state = .running ∧ laneAlmost.drives.outfeed = .stopped ∧ (∀ p ∈ laneAlmost.panels, p.state ≠ .atOutfeed)
    ∧ laneAlmost.drives.webSeq ≠ .draining ∧ 0 < laneAlmost.work .dMk := by
  and_intros <;> first | exact settled (by decide +kernel) | exact free rfl | decide +kernel

/-- A stroke under way, its panel in the list with `n` cuts done. -/
def stroking (l : LineState) (n : Nat) (proof : Bool) : State :=
  withPanels [{ panel 0 .committed with cutsDone := n, proof := proof }]
    (knife .traversingLR (atEntry .stroke .executing (inLine l plain)))

theorem witness_StrokeCompletes : Settled (stroking .faulted 0 false) ∧ (stroking .faulted 0 false).station.knife = .traversingLR
    ∧ (stroking .faulted 0 false).station.cycle = .stroke ∧ (∀ p ∈ (stroking .faulted 0 false).panels, p.state ≠ .atOutfeed)
    ∧ (stroking .faulted 0 false).drives.webSeq ≠ .draining ∧ (stroking .faulted 0 false).planner.queue = entry .executing :: []
    ∧ Settled (stroking .running 0 false) ∧ (stroking .running 0 false).drives.outfeed = .stopped
    ∧ (∀ p ∈ (stroking .running 0 false).panels, p.proof = false)
    ∧ Settled (stroking .running 2 true) ∧ (stroking .running 2 true).panel? ⟨0, 1⟩ = some { panel 0 .committed with cutsDone := 2, proof := true }
    ∧ (strokeOn false 1 { panel 0 .committed with cutsDone := 2, proof := true }).state = .done
    ∧ Settled { stroking .threaded 0 false with planner := {} } := by
  and_intros <;> first | exact settled (by decide +kernel) | exact free rfl | decide +kernel

/-- A stroke under way while a stop waits for it. -/
def stopping (k : StopClass) (c : StopCause) : State :=
  let l := running.line
  let s := stroking .running 0 false
  level { s with line := { l with state := .stopping, stop := some ⟨k, c⟩ } }

theorem witness_StrokeCompletes_stop : Settled (stopping .controlled .hold) ∧ Settled (stopping .controlled .webEnd)
    ∧ Settled (stopping .cycleEnd .stackFull) ∧ (stopping .cycleEnd .stackFull).drives.outfeed = .stopped
    ∧ (stopping .controlled .hold).planner.queue = entry .executing :: [] ∧ (stopping .controlled .hold).station.cycle = .stroke
    ∧ (stopping .controlled .hold).link.events.length ≤ 63 := by
  and_intros <;> first | exact settled (by decide +kernel) | decide +kernel

/-- A stroke that serves a partner's cut too, with a further entry ahead. -/
def merged : State :=
  let s := stroking .running 0 false
  withPanels [panel 0 .committed, panel 1 .committed] { s with planner := { s.planner with
    queue := [{ entry .executing with partner := some ⟨⟨1, 2⟩, 1⟩ }, { entry .pending with trigger := 50000 }] } }

theorem witness_StrokeCompletes_next : Settled merged ∧ merged.line.state = .running ∧ merged.drives.outfeed = .stopped
    ∧ merged.planner.queue.tail = { entry .pending with trigger := 50000 } :: [] ∧ merged.p2 < 50000
    ∧ (strokeCuts { entry .executing with partner := some ⟨⟨1, 2⟩, 1⟩ }).length = 2 ∧ (∀ p ∈ merged.panels, p.proof = false) := by
  and_intros <;> first | exact settled (by decide +kernel) | exact free rfl | decide +kernel

theorem witness_InputsClear : Settled running ∧ Settled { running with inputs := { (running.inputs) with stackFull := true, filmOut := true } } :=
  ⟨settled (by decide +kernel), settled (by decide +kernel)⟩

theorem witness_SeekMatchSetsAnchor : base.reg.mode = .seek ∧ base.reg.lock = .auto ∧ { (manual.reg) with mode := .seek }.lock = .manual := by
  decide +kernel

theorem witness_MatchesAndCoasts : follow.reg.mode = .follow ∧ follow.reg.anchor = some (12000000, 16250000) ∧ follow.reg.lock = .auto
    ∧ manual.reg.mode ≠ .seek ∧ manual.reg.lock = .manual ∧ 0 < 12200000 - 12000000 ∧ follow.work .spanMin ≤ 12200000 - 12000000 := by
  decide +kernel

/-- 4.6, panel 404's tail: s becomes 2,012, the anchor is taken, and the point at 5,500,000 costs FOLLOW and the verdict. -/
theorem test_disturbance_consumed :
    let s : State := { follow with reg := { (follow.reg) with
      anchor := some (4920000, 9508240), s := 1924, register := .inRegister, lockCount := 4, points := [⟨.nipReclose, 5500000⟩] } }
    let r := consumed 6480000 (regMatch s 6480000 11072340 11071241).reg
    r.s = 2012 ∧ r.anchor = some (6480000, 11072340) ∧ r.mode = .capture ∧ r.register = .outOfRegister ∧ r.lockCount = 0 ∧ r.points = []
    ∧ (consumePoints 6480000 (regMatch s 6480000 11072340 11071241)).reg = r := by decide +kernel

/-- Panel 0 AT_OUTFEED with its head seen, too large for what is left of the queue. -/
def waiting : Panel := { panel 0 .atOutfeed with aHead := some ⟨0, false⟩, bHead := some ⟨4600000, false⟩ }
def crowded : State := withPanels [waiting] { follow with planner := { queue := List.replicate 30 (entry .pending) } }

/-- R94: a refresh places a panel's moved cuts in cut order, wherever they stood in the queue: cut 1 at its new trigger, and cut 2, wanted 3 mm after it, pushed to
CUT_MIN_SEP (5 mm) after it. -/
theorem test_refresh_in_cut_order :
    (applyTriggers ⟨0, 1⟩ [240000, 243000, 500000] (panel 0 .committed) (withPanels [panel 0 .committed] { running with
      planner := { queue := [{ cut := some ⟨⟨0, 1⟩, 2⟩, trigger := 100000 }, { cut := some ⟨⟨0, 1⟩, 1⟩, trigger := 105000 }] } })).planner.queue.map
        (fun e => (e.cut.map (·.index), e.trigger)) = [(some 1, 240000), (some 2, 245000)] := by decide +kernel

/-- R89: with D_MK raised by more than the cuts' spacing, a refresh moves all of a panel's entries by the difference, its LANE entry too. -/
theorem test_refresh_after_new_dMk :
    (applyTriggers ⟨0, 1⟩ [1500000, 1520000, 1540000] (panel 0 .committed) (withPanels [panel 0 .committed] { running with
      planner := { queue := [{ cut := none, lane := some ⟨1, ⟨0, 1⟩⟩, trigger := 1200000 }]
        ++ [(1, 1400000), (2, 1420000), (3, 1440000)].map (fun x => { cut := some ⟨⟨0, 1⟩, x.1⟩, trigger := x.2 }) } })).planner.queue.map
        (fun e => (e.cut.map (·.index), e.trigger)) = [(none, 1300000), (some 1, 1500000), (some 2, 1520000), (some 3, 1540000)] := by
  decide +kernel

/-- R94, R106: with cut 1 stroked, the panel's LANE entry stays; a cut whose move would pass it is merged into it, and its displacement of 30 mm judged. -/
theorem test_refresh_across_kept_lane :
    let t := applyTriggers ⟨0, 1⟩ [1000000, 1330000, 1500000] (panel 0 .cutting) (withPanels [panel 0 .cutting] { running with
      planner := { queue := [{ cut := some ⟨⟨0, 1⟩, 2⟩, trigger := 1250000 }, { cut := none, lane := some ⟨1, ⟨0, 1⟩⟩, trigger := 1300000 }] } })
    t.planner.queue.map (fun e => (e.cut.map (·.index), e.lane.isSome, e.trigger)) = [(some 2, true, 1300000)]
    ∧ t.panels.map (·.flags) = [[.cutFault]] := by decide +kernel

theorem witness_PredictionsAndTriggers : (withPanels [{ panel 0 .infeed with aHead := some ⟨0, false⟩ }] follow).next2 = some (⟨0, 1⟩, .head, some 0)
    ∧ follow.reg.anchor = some (12000000, 16250000)
    ∧ (withPanels [{ panel 0 .infeed with aHead := some ⟨0, false⟩ }] { base with loop := { (base.loop) with k := some 4600978 } }).next2.isSome = true
    ∧ base.reg.anchor = none ∧ crowded.panel? waiting.ref = some waiting ∧ 32 < waiting.cuts.length + crowded.planner.queue.length
    ∧ crowded.panels.find? (fun q => decide (q.state.rank < 3)) = some waiting
    ∧ (∀ q ∈ crowded.panels, q.serial = waiting.serial → q = waiting) := by decide +kernel

/-- A bar from -5 mm to 0 at M2 in the window of panel 0's head, the queue too full for it, and of its tail. -/
def barAtHead2 : State :=
  let s := withPanels [{ panel 0 .infeed with aHead := some ⟨0, false⟩ }] { base with planner := { queue := List.replicate 30 (entry .pending) } }
  dark (-5000) { s with cursor2 := { s.cursor2 with state := .window, expect := some ⟨⟨0, 1⟩, .head, some window2⟩ } }
def tailed : Panel :=
  { panel 0 .atOutfeed with aHead := some ⟨0, false⟩, aTail := some ⟨300000, false⟩, bHead := some ⟨-305000, false⟩, l2 := some ⟨300000, .m1⟩ }
def barAtTail2 (p : Panel) : State :=
  let s := withPanels [p] base
  dark (-5000) { s with cursor2 := { s.cursor2 with state := .window, expect := some ⟨⟨0, 1⟩, .tail, some window2⟩ } }

theorem witness_MatchesAndCoasts_points :
    Settled { barAtHead2 with reg := { (barAtHead2.reg) with points := [⟨.nipReclose, window2.a⟩, ⟨.printSplice, window2.a + 1⟩] } }
    ∧ Settled { tail2 with reg := { (tail2.reg) with points := [⟨.nipReclose, window2.a⟩] } } :=
  ⟨settled (by decide +kernel), settled (by decide +kernel)⟩

theorem witness_MatchesAndCoasts_bar : Settled barAtHead2 ∧ barAtHead2.inputs.dark2 = true ∧ barAtHead2.sensor2.bar = .counting (-5000) false
    ∧ barAtHead2.work .markMin ≤ barAtHead2.p2 - -5000 ∧ barAtHead2.p2 - -5000 ≤ barAtHead2.work .markMax
    ∧ barAtHead2.panel? ⟨0, 1⟩ = some { panel 0 .infeed with aHead := some ⟨0, false⟩ } ∧ window2.lower ≤ -5000 ∧ -5000 ≤ window2.upper
    ∧ (∀ q ∈ barAtHead2.panels, q.serial = 0 → q = { panel 0 .infeed with aHead := some ⟨0, false⟩ }) ∧ barAtHead2.reg.points = []
    ∧ 32 < (panel 0 .infeed).cuts.length + barAtHead2.planner.queue.length
    ∧ Settled (barAtTail2 tailed) ∧ ((-5000 - -305000) - 300000 : Int).natAbs ≤ (barAtTail2 tailed).work .tailTol
    ∧ (∀ q ∈ (barAtTail2 tailed).panels, q.state ≠ .infeed)
    ∧ Settled (barAtTail2 { tailed with l2 := some ⟨298499, .m1⟩ }) ∧ base.work .tailTol < ((-5000 - -305000) - 298499 : Int).natAbs := by
  and_intros <;> first | exact settled (by decide +kernel) | exact free rfl | decide +kernel

/-- An entry for a cut of panel `n`. -/
def cutAt (n i : Nat) (x : Int) : Entry := { cut := some ⟨⟨n, BitVec.ofNat 16 (n + 1)⟩, i⟩, trigger := x }

/-- A LANE entry of panel 1, whose first trigger is at 1,200,000. -/
def laneAt (x : Int) : Entry := { cut := none, lane := some ⟨2, ⟨1, 2⟩⟩, trigger := x }
def owner : Panel := { panel 1 .committed with triggers := some [1200000, 1350000, 1500000] }

/-- One entry in the queue of a line at rest. -/
def queued (e : Entry) : State := setQueue [e] (withPanels [panel 0 .committed, owner] plain)

theorem witness_PredictionsAndTriggers_place : QueueStrict (queued (cutAt 0 1 1000000)) ∧ 0 < plain.work .cutMinSep
    ∧ plain.work .cutMinSep ≤ ((cutAt 0 1 1000000).trigger - 1005000).natAbs ∧ plain.planner.limit = none
    ∧ ((cutAt 0 1 1000000).trigger - 1004999).natAbs < plain.work .cutMinSep ∧ (cutAt 0 1 1000000).partner = none
    ∧ (cutAt 0 1 1000000).lane = none ∧ (laneAt 1000000).cut = none ∧ (laneAt 1000000).lane.isSome = true
    ∧ (queued (cutAt 0 1 1000000)).panel? ⟨1, 2⟩ = some owner ∧ { cutAt 0 1 1000000 with state := .settling }.state = .settling
    ∧ plain.work .cutMinSep ≤ ((cutAt 0 1 1000000).trigger - (1000000 + plain.work .cutMinSep)).natAbs
    ∧ (∃ l ∈ { (queued (cutAt 0 1 1000000)).planner with limit := some 1004999 }.limit, l < 1005000) :=
  ⟨⟨by decide +kernel, by decide +kernel⟩, by decide +kernel⟩

/-- A panel whose head has reached M2, to be committed, with its lane set in force or not; and committed, its cuts queued. -/
def ready2 (st : PanelState) : Panel :=
  { panel 0 st with bHead := some ⟨0, false⟩, l2 := some ⟨300000, .m1⟩, triggers := some [1500000, 1650000, 1800000] }
def toCommit (lanes : Byte) (q : List Entry) : State :=
  setQueue q (withPanels [ready2 .atOutfeed] { plain with station := { (plain.station) with laneSet := lanes } })

theorem witness_PredictionsAndTriggers_commit : QueueStrict (toCommit 1 [cutAt 7 3 1300000]) ∧ 0 < plain.work .dSk
    ∧ (toCommit 1 []).panels.find? (fun q => decide (q.state.rank < 3)) = some (ready2 .atOutfeed)
    ∧ [1650000, 1800000].length + 1 = (ready2 .atOutfeed).cuts.length
    ∧ ([1500000, 1650000, 1800000] : List Int).Pairwise (fun a b => a + plain.work .cutMinSep ≤ b)
    ∧ (toCommit 1 []).station.cycle ≠ .approach ∧ (ready2 .atOutfeed).cuts.length + 1 + 1 ≤ 32
    ∧ 1300000 + plain.work .cutMinSep ≤ (1500000 : Int) ∧ (toCommit 1 []).planner.limit = none
    ∧ (ready2 .atOutfeed).lanes = (toCommit 1 []).station.laneSet ∧ (ready2 .atOutfeed).lanes ≠ (toCommit 0 []).station.laneSet
    ∧ (1300000 : Int) ≤ 1500000 - plain.work .dSk ∧ plain.work .cutMinSep ≤ plain.work .dSk :=
  ⟨⟨by decide +kernel, by decide +kernel⟩, by decide +kernel⟩

theorem witness_PredictionsAndTriggers_refresh :
    let s := setQueue [cutAt 0 1 1500000, cutAt 0 2 1650000, cutAt 0 3 1800000] (withPanels [ready2 .committed] plain)
    s.panel? ⟨0, 1⟩ = some (ready2 .committed) ∧ (∀ q ∈ s.panels, q.serial = 0 → q = ready2 .committed) ∧ s.planner.limit = none
    ∧ s.station.cycle ≠ .approach
    ∧ (ready2 .committed).cuts.map (fun x => 0 + roundDiv (x * 301000) (ready2 .committed).lNom.toNat + s.work .dMk) = [1500000, 1650500, 1801000]
    ∧ ([1500000, 1650500, 1801000] : List Int).Pairwise (fun a b => a + s.work .cutMinSep ≤ b)
    ∧ s.work .cutMinSep ≤ s.work .dSk ∧ { cutAt 0 3 1800000 with partner := some ⟨⟨1, 2⟩, 1⟩ }.partner.isSome = true
    ∧ { cutAt 0 3 1800000 with state := .executing }.state = .executing := by decide +kernel

theorem witness_PredictionsAndTriggers_target : (approach 0).station.cycle = .approach ∧ (approach 0).planner.target = some (entry .active).trigger
    ∧ plain.station.cycle ≠ .approach ∧ (approach (-5000)).drives.outfeed = .moving (move .forward .approach .station 400)
    ∧ (approach (-5000)).p2 < 400 ∧ (approach (-5000)).loop.zone = .normal ∧ 400 - (approach (-5000)).p2 < (approach (-5000)).work .stopMin
    ∧ (approach (-600000)).work .stopMin ≤ 400 - (approach (-600000)).p2 := by decide +kernel

/-- `s` with the silence that ends a frame waiting to be taken. -/
def asked (s : State) : State := { s with pending := [.frameGap] }

theorem witness_LevelsKept : InfeedFollows (asked running) ∧ AttnFollows (asked running) ∧ EnablesFollow (asked running)
    ∧ ∃ t, step (asked running) = .next t :=
  ⟨by unfold InfeedFollows; decide +kernel, by unfold AttnFollows; decide +kernel, ⟨by decide +kernel, by decide +kernel⟩, _, rfl⟩

theorem witness_CapacitiesKept : LinkFits (asked (busy 2)) ∧ SlotsFit (asked listed) ∧ (∃ t, step (asked (busy 2)) = .next t)
    ∧ ∃ t, step (asked listed) = .next t :=
  ⟨⟨by decide +kernel, by decide +kernel, by decide +kernel⟩, by unfold SlotsFit; decide +kernel, ⟨_, rfl⟩, _, rfl⟩

/-- A panel done, one with two cuts queued, and one still to come to M1, which the M1 cursor seeks. -/
def inOrder : State :=
  asked (withPanels [panel 0 .done, { panel 1 .cutting with cutsDone := 1 }, panel 2 .queued] { base with
    planner := { queue := [cutAt 1 2 1000000, cutAt 1 3 1150000], target := some 1000000 }
    cursor1 := { (base.cursor1) with state := .seek, expect := some { panel := ⟨2, 3⟩, mark := .head, takeUp := 0 } } })

theorem inOrder_calSound : CalSound inOrder :=
  ⟨by decide +kernel, by decide +kernel, fun e => by cases e <;> decide +kernel, by decide +kernel, nofun, nofun⟩
theorem inOrder_panelsSound : PanelsSound inOrder := ⟨by unfold Panel.Sound; decide +kernel, by decide +kernel⟩
theorem inOrder_queueStrict : QueueStrict inOrder := ⟨by decide +kernel, by decide +kernel⟩
theorem inOrder_piecesCounted : PiecesCounted inOrder := by
  refine ⟨fun p h => ?_, by decide +kernel⟩
  have h : p = panel 0 .done ∨ p = { panel 1 .cutting with cutsDone := 1 } ∨ p = panel 2 .queued := by
    have h : p ∈ [panel 0 .done, { panel 1 .cutting with cutsDone := 1 }, panel 2 .queued] := h
    simpa only [List.mem_cons, List.not_mem_nil, or_false] using h
  rcases h with rfl | rfl | rfl <;> exact ⟨by decide +kernel, nofun, by decide +kernel, by decide +kernel⟩

theorem witness_PanelsSoundKept : PanelsSound inOrder ∧ CalSound inOrder ∧ QueueStrict inOrder ∧ PiecesCounted inOrder ∧ InPlanOrder inOrder
    ∧ ∃ t, step inOrder = .next t :=
  ⟨inOrder_panelsSound, inOrder_calSound, inOrder_queueStrict, inOrder_piecesCounted,
    ⟨by decide +kernel, fun e h _ => by cases h; decide +kernel, nofun⟩, _, rfl⟩

theorem witness_RegistrationKept : StretchHeld (asked follow) ∧ PointsOrdered (asked follow) ∧ ∃ t, step (asked follow) = .next t :=
  ⟨⟨by decide +kernel, by decide +kernel⟩, ⟨by decide +kernel, by decide +kernel⟩, _, rfl⟩

theorem witness_QueueAscendingKept : QueueAscending (asked prepared) ∧ (∃ t, step (asked prepared) = .next t) ∧ CalSound inOrder
    ∧ PanelsSound inOrder ∧ PiecesCounted inOrder ∧ QueueStrict inOrder ∧ ∃ t, step inOrder = .next t :=
  ⟨by unfold QueueAscending; decide +kernel, ⟨_, rfl⟩, inOrder_calSound, inOrder_panelsSound, inOrder_piecesCounted, inOrder_queueStrict, _, rfl⟩

theorem witness_CalSoundKept : CalSound (asked teaching) ∧ CalSound (asked follow) ∧ ∃ t, step (asked teaching) = .next t := by
  refine ⟨⟨by decide +kernel, by decide +kernel, fun e => by cases e <;> decide +kernel, by decide +kernel, ?_, ?_⟩,
    ⟨by decide +kernel, by decide +kernel, fun e => by cases e <;> decide +kernel, by decide +kernel, nofun, nofun⟩, _, rfl⟩
  · intro t h; cases h; exact ⟨fun v h => by cases h; decide, fun v h => by cases h; decide⟩
  · intro t h; cases h

end Sys2Proof.Tests
end

section
/-!
A DANCER result (R33, R35, R37): what the outfeed's answer to a change of zone, the fault and the end of the event leave alone, and the loop length as a
number between the two calibration values.
-/
namespace Sys2Proof.Machine

/-! ### What a conversion leaves alone -/

theorem kept_zoneChange (old : Zone) (s : State) : Kept s (zoneChange old s) := by
  unfold zoneChange
  split
  case isTrue => exact .refl s
  split
  case isTrue => exact kept_loopHold s
  split
  case isTrue =>
    split
    · exact (kept_releaseHold s).trans (kept_thenArrive _)
    · exact .refl s
  split
  · exact kept_reissue s
  · exact .refl s

/-- The state changed by a DANCER result in the Loop block alone, before anything answers it (R37, R38, R40). -/
def withLoopResult (r : Nat) (s : State) : State :=
  { s with loop := { s.loop with length := some (s.loopLength r), zone := s.zoneOf (s.loopLength r), faulted := outOfRange r } }

/-- Past the Loop block, a DANCER result does no more than the shared operations do. -/
theorem kept_dancerResult (r : Nat) (s : State) : Kept (withLoopResult r s) (dancerResult r s) := by
  have answered : Kept (withLoopResult r s) (zoneChange s.loop.zone (withLoopResult r s)) := kept_zoneChange _ _
  unfold dancerResult
  extract_lets was l old block t
  change Kept (withLoopResult r s) t at answered
  split
  · exact answered.trans (kept_raiseFault _ t)
  · exact answered

/-- An event outside a reset does what it does and is then brought to its end. -/
theorem event_of_running {f : State → State} {s : State} (running : s.heldBy = []) : event f s = finish s (f s) := by
  simp [event, State.inReset, running]

theorem exec_conversionComplete {s : State} (r : BitVec 10) (running : s.heldBy = []) :
    exec (.conversionComplete r) s = .next (finish s (convert r.toNat s)) :=
  congrArg Host.Outcome.next (event_of_running running)

/-- The conversion of the DANCER channel: the result is kept and given to the Loop, and the round goes on (R33, R35). -/
theorem convert_dancer {s : State} (r : Nat) (channel : s.sampler.channel = .dancer) :
    convert r s = advanceRound (dancerResult r { s with sampler := { s.sampler with dancer := some r } }) := by
  simp only [convert, channel, handResult, Sampler.latest]

theorem convert_dancer_length {s : State} (r : Nat) (channel : s.sampler.channel = .dancer) :
    (convert r s).loop.length = some (s.loopLength r) := by
  rw [convert_dancer r channel]
  exact congrArg LoopBlock.length (kept_dancerResult r _).loop

theorem convert_dancer_latest {s : State} (r : Nat) (channel : s.sampler.channel = .dancer) :
    (convert r s).sampler.dancer = some r := by
  rw [convert_dancer r channel]
  exact congrArg Sampler.dancer (kept_dancerResult r _).sampler

/-! ### The loop length (R37, R65) -/

/-- Halves go away from zero: up for a dividend that is not negative, down for a negative one (R65). -/
theorem roundDiv_1023 (x : Int) : roundDiv x 1023 = if 0 ≤ x then (2 * x + 1023) / 2046 else -((1023 - 2 * x) / 2046) := by
  unfold roundDiv
  extract_lets q
  have hq : q = (2 * x.natAbs + 1023) / 2046 := by omega
  clear_value q
  split <;> split <;> omega

theorem loopLength_eq (s : State) (r : Nat) :
    s.loopLength r =
      let x := r * (s.work .loopAt1023 - s.work .loopAt0)
      if 0 ≤ x then s.work .loopAt0 + (2 * x + 1023) / 2046 else s.work .loopAt0 - (1023 - 2 * x) / 2046 := by
  extract_lets x
  change s.work .loopAt0 + roundDiv x 1023 = _
  rw [roundDiv_1023]
  split
  · rfl
  · exact Int.sub_eq_add_neg.symm

/-- The share `r / 1023` of a length that is not negative, rounded, is no more than the length. -/
theorem roundDiv_share_bounds {d : Int} (hd : 0 ≤ d) {r : Nat} (hr : r ≤ 1023) :
    0 ≤ roundDiv (r * d) 1023 ∧ roundDiv (r * d) 1023 ≤ d := by
  have low : 0 ≤ (r : Int) * d := Int.mul_nonneg (Int.natCast_nonneg r) hd
  have high : (r : Int) * d ≤ 1023 * d := Int.mul_le_mul_of_nonneg_right (by omega) hd
  rw [roundDiv_1023, if_pos low]
  omega

theorem loopLength_bounds {s : State} (h : s.work .loopAt0 < s.work .loopAt1023) {r : Nat} (hr : r ≤ 1023) :
    s.work .loopAt0 ≤ s.loopLength r ∧ s.loopLength r ≤ s.work .loopAt1023 := by
  have share := roundDiv_share_bounds (d := s.work .loopAt1023 - s.work .loopAt0) (by omega) hr
  unfold State.loopLength
  omega

/-- Settles O38: the conversion sets the length and the latest result, and everything after it leaves the Loop and the Sampler as they are. -/
theorem dancerGivesLoopLength : Obligations.DancerGivesLoopLength := by
  intro s r running channel a b x l
  have length_eq : s.loopLength r.toNat = l := loopLength_eq s r.toNat
  have ended := kept_finish s (convert r.toNat s)
  refine ⟨_, exec_conversionComplete r running, ?_, fun ordered => ?_, ?_⟩
  · rw [ended.loop, convert_dancer_length _ channel, length_eq]
  · rw [← length_eq]
    exact loopLength_bounds ordered (by have := r.isLt; omega)
  · rw [ended.sampler, convert_dancer_latest _ channel]

end Sys2Proof.Machine
end

section
/-!
A match made in SEEK (R74): leaving SEEK takes no register verdict, so the anchor, the mode and coast_count are all that change.
-/
namespace Sys2Proof.Machine

theorem regMatch_of_seek {s : State} (seek : s.reg.mode = .seek) (a b bHat : Int) :
    regMatch s a b bHat = seekMatch a b { reg := s.reg } :=
  if_pos seek

/-- R81 takes the register state out only where FOLLOW is left; any other change of mode changes the mode alone. -/
theorem changeMode_reg_of_ne_follow {x : RegStep} (h : x.reg.mode ≠ .follow) (m : Mode) (c : ModeCause) :
    (changeMode m c x).reg = { x.reg with mode := m } := by
  unfold changeMode
  by_cases same : x.reg.mode = m
  · rw [if_pos same, ← same]
  · rw [if_neg same, if_neg h]

theorem seekMatch_reg {x : RegStep} (seek : x.reg.mode = .seek) (a b : Int) :
    (seekMatch a b x).reg = { x.reg with
      anchor := some (a, b), mode := if x.reg.lock = .auto then .capture else x.reg.choice.mode, coastCount := 0 } :=
  changeMode_reg_of_ne_follow (by simp [seek]) _ _

/-- Settles O51: in SEEK the match is R74's, and lock and choice pick the mode it leaves SEEK for. -/
theorem seekMatchSetsAnchor : Obligations.SeekMatchSetsAnchor := by
  intro s a b bHat seek
  rw [regMatch_of_seek seek, seekMatch_reg seek]
  refine ⟨fun auto => ?_, fun c manual choice => ?_⟩
  · rw [if_pos auto]
  · have notAuto : s.reg.lock ≠ .auto := by simp [manual]
    rw [if_neg notAuto, choice]
    cases c <;> rfl

end Sys2Proof.Machine
end

section
/-!
FETCH-EVENTS (R197): the events taken leave a settled part settled but for ATTN, so the request ends with ATTN brought to its level over the events that stay.
-/
namespace Sys2Proof.Machine

theorem natAt_singleton (n : Byte) : natAt 0 1 [n] = n.toNat := by
  simp [natAt, part, leNat]

/-- Outside a reset ATTN's level is its three terms under the mask (R196). -/
theorem attnLevel_of_running {s : State} (running : s.heldBy = []) :
    s.attnLevel = ((s.donePending && s.link.mask.done) || (!s.link.events.isEmpty && s.link.mask.event)
      || (s.faultPresent && s.link.mask.fault)) := by
  simp [State.attnLevel, State.inReset, State.summary, running]

/-- `s` without its `n` oldest events and without EVENTS_LOST, ATTN not yet brought to its level (R197). -/
def eventsFetched (n : Nat) (s : State) : State :=
  { s with link := { s.link with events := s.link.events.drop n, eventsLost := false } }

/-- What FETCH-EVENTS replies: the lost marker, the count and the records of the `n` oldest events (R197, R202). -/
def fetchedData (n : Nat) (s : State) : List Byte :=
  flagField s.link.eventsLost ++ byteField (s.link.events.take n).length ++ (s.link.events.take n).flatMap eventRecord

theorem fetchEventsAct_of_count {n : Nat} (low : 1 ≤ n) (high : n ≤ 16) (s : State) :
    fetchEventsAct n s = ⟨.ok, eventsFetched n s, fun _ => fetchedData n s⟩ :=
  if_neg (by omega)

theorem fetchEventsAct_of_bad_count {n : Nat} (bad : n = 0 ∨ 16 < n) (s : State) :
    fetchEventsAct n s = refuse .badValue s :=
  if_pos bad

/-- On a free link FETCH-EVENTS is served at once, synced or not (R190, R197). -/
theorem exec_fetchEvents_free {s : State} (free : LinkFree s) (tag n : Byte) :
    exec (.fetchEvents tag [n]) s =
      .next (serve ⟨0x04, tag, [n]⟩ (fetchEventsAct n.toNat) (holding ⟨0x04, tag, [n]⟩ s)) := by
  have served := request_fits free 0x04 tag [n] 1 true (fetchEventsAct n.toNat) rfl (.inl rfl)
  rw [← served, ← natAt_singleton n]
  rfl

/-- The queue of events bears on nothing that an event brings to its end, but for ATTN. -/
theorem settled_eventsFetched {s : State} (h : Settled s) (n : Nat) : Settled (attnUpdate (eventsFetched n s)) :=
  h.congr rfl rfl rfl rfl rfl rfl rfl rfl rfl rfl rfl (attnUpdate_follows _)

theorem finish_eventsFetched {s : State} (h : Settled s) (n : Nat) :
    finish s (eventsFetched n s) = attnUpdate (eventsFetched n s) :=
  finish_of_settled_attn (settled_eventsFetched h n) rfl rfl

/-- Settles O8: within the count the events go and the request ends with ATTN at its level; outside it the request is refused. -/
theorem fetchEventsTakesOldest : Obligations.FetchEventsTakesOldest := by
  intro s tag n free settled
  rw [exec_fetchEvents_free free]
  refine ⟨fun low high => ?_, fun bad => ?_⟩
  · intro es rest t
    have level : (eventsFetched n.toNat s).attnLevel = t.link.attn :=
      attnLevel_of_running (s := eventsFetched n.toNat s) settled.running
    have ended : finish (holding ⟨0x04, tag, [n]⟩ s) (eventsFetched n.toNat (holding ⟨0x04, tag, [n]⟩ s)) =
        holding ⟨0x04, tag, [n]⟩ t :=
      calc
        _ = holding ⟨0x04, tag, [n]⟩ (attnUpdate (eventsFetched n.toNat s)) :=
          finish_eventsFetched (settled_holding settled _) n.toNat
        _ = holding ⟨0x04, tag, [n]⟩ t := by unfold attnUpdate; rw [level]; rfl
    exact congrArg Host.Outcome.next
      (serve_taken _ _ s t _ _ (fetchEventsAct_of_count low high _) rfl ended rfl)
  · exact congrArg Host.Outcome.next
      (serve_refused _ _ .badValue s (fetchEventsAct_of_bad_count bad _) rfl (by decide))

end Sys2Proof.Machine
end

section
/-!
The statement of O57 does not hold: InPlanOrder says nothing of an M2 expectation whose panel is still QUEUED, and the head that M1 resolves next makes that panel
INFEED behind another one.
-/
namespace Sys2Proof.Machine

/-- A panel with two cuts, as its plan and its state leave it. -/
def plannedPanel (n : Nat) (st : PanelState) : Panel :=
  { serial := n, id := BitVec.ofNat 16 (n + 1), kind := .product, proof := false, lNom := 300000, gNom := 30000, lanes := 1
    cuts := [0, 300000], state := st }

/-- The first panel INFEED and the second QUEUED, a bar at M1 about to resolve the second one's head, and the M2 cursor holding an expectation of that same head. -/
def expectedEarly : State :=
  { State.reset with
    pending := [.barTrailingEdge .m1]
    nextSerial := 2
    inputs := { dark1 := true }
    panels := [plannedPanel 0 .infeed, plannedPanel 1 .queued]
    roll1 := { scale := 10000, count := 500, pos := 5000, high := 5000 }
    sensor1 := { threshold := 512, bar := .counting 0 false }
    cursor1 := { state := .seek, expect := some ⟨⟨1, 2⟩, .head, 0, none⟩ }
    cursor2 := { state := .window, expect := some ⟨⟨1, 2⟩, .head, none⟩ } }

/-- The state after the bar's end. -/
def headResolved : State := inputEvent (setDark .m1 false) (trailingEdge .m1) { expectedEarly with pending := [] }

theorem step_expectedEarly : step expectedEarly = .next headResolved := rfl

theorem panelsSound_expectedEarly : PanelsSound expectedEarly := by
  unfold PanelsSound Panel.Sound; decide +kernel

theorem piecesCounted_expectedEarly : PiecesCounted expectedEarly := by
  refine ⟨?_, nofun⟩
  intro p hp
  simp only [expectedEarly, List.mem_cons, List.not_mem_nil, or_false] at hp
  rcases hp with rfl | rfl
  · exact ⟨by decide, nofun, by decide, by decide⟩
  · exact ⟨by decide, nofun, by decide, by decide⟩

theorem inPlanOrder_expectedEarly : InPlanOrder expectedEarly := by
  refine ⟨by decide +kernel, ?_, ?_⟩ <;> rintro e he -
  · cases he
    exact ⟨by decide, by decide +kernel⟩
  · cases he
    exact ⟨by decide, by decide +kernel⟩

theorem headResolved_expect : headResolved.cursor2.expect = some ⟨⟨1, 2⟩, .head, none⟩ := by decide +kernel

theorem not_inPlanOrder_headResolved : ¬ InPlanOrder headResolved := by
  rintro ⟨-, -, order⟩
  obtain ⟨-, first⟩ := order _ headResolved_expect rfl
  have late : ∃ p ∈ headResolved.panels, p.serial = 1 ∧ p.state = .infeed
      ∧ headResolved.panels.find? (fun q => decide (q.state = .infeed)) ≠ some p := by decide +kernel
  obtain ⟨p, mem, serial, state, other⟩ := late
  exact other (first p mem serial state)

/-- Refutes O57: its last clause fails where the M2 cursor expects the head of a panel still QUEUED behind an INFEED one, and M1 resolves that head. -/
theorem not_panelsSoundKept : ¬ Obligations.PanelsSoundKept := by
  intro kept
  obtain ⟨-, -, -, ordered⟩ := kept _ _ panelsSound_expectedEarly step_expectedEarly
  exact not_inPlanOrder_headResolved (ordered piecesCounted_expectedEarly inPlanOrder_expectedEarly)

end Sys2Proof.Machine
end

section
/-!
What the shared operations do to the triggers of the Cut Queue and of the panels. `State.tracks` is all that the strictness of the queue (R97) and the room for a
commit (R99) depend on: CUT_MIN_SEP, each panel's serial number, cuts and triggers, and the triggers queued. The operations of this part leave it as it is.
-/
namespace Sys2Proof.Machine

/-- What of a panel bears on the room it needs in the queue. -/
def Panel.track (p : Panel) : Nat × List Int × Option (List Int) := (p.serial, p.cuts, p.triggers)

/-- What of a state bears on the strictness and the length of the Cut Queue. -/
def State.tracks (s : State) : Int × List (Nat × List Int × Option (List Int)) × List Int :=
  (s.work .cutMinSep, s.panels.map Panel.track, s.planner.queue.map (·.trigger))

/-- A change of other blocks leaves the tracks. -/
theorem tracks_of_eq {s t : State} (cal : t.cal = s.cal) (panels : t.panels = s.panels) (queue : t.planner.queue = s.planner.queue) :
    t.tracks = s.tracks := by
  unfold State.tracks State.work; rw [cal, panels, queue]

theorem tracks_panels {s : State} {f : Panel → Panel} (h : ∀ p, (f p).track = p.track) :
    State.tracks { s with panels := s.panels.map f } = s.tracks := by
  have e : (s.panels.map f).map Panel.track = s.panels.map Panel.track := by
    rw [List.map_map]; exact List.map_congr_left fun p _ => h p
  exact congrArg (fun x => (s.work .cutMinSep, x, s.planner.queue.map (·.trigger))) e

theorem tracks_foldl {α : Type} {f : State → α → State} (h : ∀ s a, (f s a).tracks = s.tracks) (l : List α) (s : State) :
    (l.foldl f s).tracks = s.tracks := by
  induction l generalizing s with
  | nil => rfl
  | cons a l ih => exact (ih _).trans (h s a)

/-! ### Shared operations -/

@[simp] theorem tracks_queueEvent (e : Event) (s : State) : (queueEvent e s).tracks = s.tracks :=
  tracks_of_eq (queueEvent_cal e s) (queueEvent_panels e s) (congrArg Planner.queue (queueEvent_planner e s))
@[simp] theorem tracks_queueEvents (es : List Event) (s : State) : (queueEvents es s).tracks = s.tracks :=
  tracks_foldl (fun s e => tracks_queueEvent e s) es s

theorem track_ite {f : Panel → Panel} (c : Prop) [Decidable c] {p : Panel} (h : (f p).track = p.track) :
    (if c then f p else p).track = p.track := by split <;> trivial

theorem tracks_updPanel {f : Panel → Panel} (h : ∀ p, (f p).track = p.track) (r : PanelRef) (s : State) :
    (updPanel r f s).tracks = s.tracks := tracks_panels fun p => track_ite _ (h p)

@[simp] theorem track_raise (f : Flag) (p : Panel) : (p.raise f).track = p.track := by unfold Panel.raise; split <;> rfl
@[simp] theorem track_raiseAll (fs : List Flag) (p : Panel) : (fs.foldl (fun p f => p.raise f) p).track = p.track := by
  induction fs generalizing p with
  | nil => rfl
  | cons f fs ih => exact (ih _).trans (track_raise f p)
@[simp] theorem track_raiseScale (l : LockMode) (p : Panel) : (p.raiseScale l).track = p.track := by
  unfold Panel.raiseScale; split
  · rfl
  · exact track_raise .scaleFault p
@[simp] theorem track_abort (p : Panel) : p.abort.track = p.track := by unfold Panel.abort Panel.finish; split <;> rfl
@[simp] theorem track_creditPanel (d : Bool) (i : Nat) (p : Panel) : (creditPanel d i p).track = p.track := by
  unfold creditPanel Panel.finish; split
  · rfl
  · dsimp only; split <;> rfl
@[simp] theorem track_writeMark1 (m : Mark) (c : Coord) (p : Panel) : (writeMark1 m c p).track = p.track := by cases m <;> rfl
@[simp] theorem track_writeMark2 (m : Mark) (c : Coord) (p : Panel) : (writeMark2 m c p).track = p.track := by cases m <;> rfl

@[simp] theorem tracks_raiseFlag (f : Flag) (r : PanelRef) (s : State) : (raiseFlag f r s).tracks = s.tracks :=
  tracks_updPanel (track_raise f) r s
@[simp] theorem tracks_raiseFlags (f : Flag) (rs : List PanelRef) (s : State) : (raiseFlags f rs s).tracks = s.tracks :=
  tracks_foldl (fun s r => tracks_raiseFlag f r s) rs s
@[simp] theorem tracks_raiseWhere (f : Flag) (test : Panel → Bool) (s : State) : (raiseWhere f test s).tracks = s.tracks :=
  tracks_panels fun p => track_ite _ (track_raise f p)
@[simp] theorem tracks_abortPanels (s : State) : (abortPanels s).tracks = s.tracks := tracks_panels track_abort
@[simp] theorem tracks_creditCuts (cs : List CutRef) (s : State) : (creditCuts cs s).tracks = s.tracks :=
  tracks_foldl (fun s (c : CutRef) => tracks_updPanel (track_creditPanel _ c.index) c.panel s) cs s

/-! ### Drives -/

@[simp] theorem tracks_setOutfeed (o : Outfeed) (s : State) : (setOutfeed o s).tracks = s.tracks := rfl
@[simp] theorem tracks_issueMove (p : Purpose) (o : Owner) (e : Int) (s : State) : (issueMove p o e s).tracks = s.tracks := rfl
@[simp] theorem tracks_askStation (p : Purpose) (e : Int) (s : State) : (askStation p e s).tracks = s.tracks := by
  unfold askStation; repeat' split
  all_goals rfl
@[simp] theorem tracks_stationStop (s : State) : (stationStop s).1.tracks = s.tracks := by unfold stationStop; split <;> rfl
@[simp] theorem tracks_reissue (s : State) : (reissue s).tracks = s.tracks := by
  unfold reissue; repeat' split
  all_goals rfl
@[simp] theorem tracks_startFreeRun (s : State) : (startFreeRun s).tracks = s.tracks := by
  unfold startFreeRun; repeat' split
  all_goals rfl
@[simp] theorem tracks_takeOverMove (s : State) : (takeOverMove s).tracks = s.tracks := by unfold takeOverMove; split <;> rfl
@[simp] theorem tracks_loopHold (s : State) : (loopHold s).tracks = s.tracks := by
  unfold loopHold; repeat' split
  all_goals rfl
@[simp] theorem tracks_releaseHold (s : State) : (releaseHold s).1.tracks = s.tracks := by
  unfold releaseHold; repeat' split
  all_goals first | rfl | (dsimp only; split <;> simp)
@[simp] theorem tracks_freeLeave (s : State) : (freeLeave s).tracks = s.tracks := by
  unfold freeLeave; repeat' split
  all_goals rfl
@[simp] theorem tracks_outfeedFault (s : State) : (outfeedFault s).tracks = s.tracks := by unfold outfeedFault; split <;> rfl
@[simp] theorem tracks_outfeedEStop (s : State) : (outfeedEStop s).tracks = s.tracks := rfl

/-! ### Station -/

@[simp] theorem tracks_setEntry (e : EntryState) (s : State) : (setEntry e s).tracks = s.tracks := by
  unfold setEntry updFirst; split
  · rename_i x xs h
    unfold State.tracks State.work; rw [h]; rfl
  · rfl
@[simp] theorem tracks_setCycle (c : Cycle) (s : State) : (setCycle c s).tracks = s.tracks := rfl
@[simp] theorem tracks_clearRecords (s : State) : (clearRecords s).tracks = s.tracks := rfl
@[simp] theorem tracks_station (s : State) (x : Station) : State.tracks { s with station := x } = s.tracks := rfl
@[simp] theorem tracks_commandGate (p : GatePos) (s : State) : (commandGate p s).tracks = s.tracks := by
  unfold commandGate; dsimp only; split <;> rfl
@[simp] theorem tracks_commandBlades (l : Byte) (s : State) : (commandBlades l s).tracks = s.tracks := rfl
@[simp] theorem tracks_raiseRecut (e : Entry) (s : State) : (raiseRecut e s).tracks = s.tracks := by
  unfold raiseRecut; split <;> simp
@[simp] theorem tracks_prepareGate (e : Entry) (s : State) : (prepareGate e s).tracks = s.tracks := by
  unfold prepareGate; split
  · rfl
  · dsimp only; split <;> simp
@[simp] theorem tracks_prepare (e : Entry) (s : State) : (prepare e s).tracks = s.tracks := by unfold prepare; simp
@[simp] theorem tracks_judgeMiss (e : Entry) (err : Int) (s : State) : (judgeMiss e err s).tracks = s.tracks := by
  unfold judgeMiss; dsimp only
  cases s.cutFlag err <;> cases e.lane <;> dsimp only <;> first | rfl | simp | (split <;> simp)
@[simp] theorem tracks_correct (e : Entry) (s : State) : (correct e s).tracks = s.tracks := by unfold correct; simp
theorem tracks_goOn {f : State → State} {s : State} (h : (f s).tracks = s.tracks) : (goOn f s).tracks = s.tracks := by
  unfold goOn; split
  · exact h
  · rfl
@[simp] theorem tracks_arrive (s : State) : (arrive s).tracks = s.tracks := by
  unfold arrive; split
  · rfl
  · extract_lets err x t
    have h : t.tracks = s.tracks := by simp [t]
    clear_value t
    rw [← h]
    repeat' split
    · exact tracks_goOn (tracks_prepare _ _)
    · rw [tracks_goOn (tracks_prepare _ _), tracks_judgeMiss]
    · exact tracks_goOn (tracks_correct _ _)
@[simp] theorem tracks_thenArrive (r : State × Bool) : (thenArrive r).tracks = r.1.tracks := by unfold thenArrive; split <;> simp
@[simp] theorem tracks_takeUp (s : State) : (takeUp s).tracks = s.tracks := by
  unfold takeUp; split
  · rfl
  · dsimp only; repeat' split
    all_goals simp
@[simp] theorem tracks_startTraverse (s : State) : (startTraverse s).tracks = s.tracks := rfl
@[simp] theorem tracks_endApproach (s : State) : (endApproach s).tracks = s.tracks := by unfold endApproach; split <;> simp
@[simp] theorem tracks_stationLeave (s : State) : (stationLeave s).tracks = s.tracks := by
  unfold stationLeave; repeat' split
  all_goals simp
@[simp] theorem tracks_pauseSequence (s : State) : (pauseSequence s).tracks = s.tracks := by unfold pauseSequence; split <;> simp
@[simp] theorem tracks_stationFault (s : State) : (stationFault s).tracks = s.tracks := by unfold stationFault; simp
@[simp] theorem tracks_interruptTraverse (s : State) : (interruptTraverse s).tracks = s.tracks := by
  unfold interruptTraverse; dsimp only; split <;> simp
@[simp] theorem tracks_stopHoming (s : State) : (stopHoming s).tracks = s.tracks := by unfold stopHoming; split <;> rfl
@[simp] theorem tracks_stationEStop (s : State) : (stationEStop s).tracks = s.tracks := by
  unfold stationEStop; dsimp only; split <;> simp
@[simp] theorem tracks_dropEntry (s : State) : (dropEntry s).tracks = s.tracks := by unfold dropEntry; split <;> simp
@[simp] theorem tracks_knifeAt (h : Home) (s : State) : (knifeAt h s).tracks = s.tracks := rfl

/-! ### The unit, the laminator and the line -/

@[simp] theorem tracks_applyReg (x : RegStep) (s : State) : (applyReg x s).tracks = s.tracks := by
  unfold applyReg; rw [tracks_queueEvents]; rfl
@[simp] theorem tracks_addPoint (k : PointKind) (p : Int) (s : State) : (addPoint k p s).tracks = s.tracks := by
  unfold addPoint; repeat' split
  all_goals first | rfl | simp
@[simp] theorem tracks_updLam (f : Laminator → Laminator) (s : State) : (updLam f s).tracks = s.tracks := rfl
@[simp] theorem tracks_setHeat (h : Heat) (v : Nat) (s : State) : (setHeat h v s).tracks = s.tracks := rfl
@[simp] theorem tracks_confirmNip (s : State) : (confirmNip s).tracks = s.tracks := by
  unfold confirmNip; dsimp only; repeat' split
  all_goals simp
@[simp] theorem tracks_commandClose (s : State) : (commandClose s).tracks = s.tracks := by unfold commandClose; split <;> simp
@[simp] theorem tracks_commandOpen (s : State) : (commandOpen s).tracks = s.tracks := by
  unfold commandOpen; dsimp only; repeat' split
  all_goals simp
@[simp] theorem tracks_setLine (l : LineBlock) (s : State) : (setLine l s).tracks = s.tracks := rfl
@[simp] theorem tracks_leaveFeeding (s : State) : (leaveFeeding s).tracks = s.tracks := by unfold leaveFeeding; simp
@[simp] theorem tracks_raiseFault (c : FaultCause) (s : State) : (raiseFault c s).tracks = s.tracks := by
  unfold raiseFault enterFaulted; split <;> simp
@[simp] theorem tracks_enterEStop (s : State) : (enterEStop s).tracks = s.tracks := by
  unfold enterEStop; split <;> simp
@[simp] theorem tracks_starvedEffects (c : StopCause) (s : State) : (starvedEffects c s).tracks = s.tracks := by
  unfold starvedEffects; split <;> rfl
@[simp] theorem tracks_beginControlled (c : StopCause) (s : State) : (beginControlled c s).tracks = s.tracks := by
  unfold beginControlled; simp
@[simp] theorem tracks_handCycleEnd (c : StopCause) (s : State) : (handCycleEnd c s).tracks = s.tracks := by
  unfold handCycleEnd; split <;> simp
@[simp] theorem tracks_endCycleEnd (s : State) : (endCycleEnd s).tracks = s.tracks := by unfold endCycleEnd; simp
@[simp] theorem tracks_strokeReported (s : State) : (strokeReported s).tracks = s.tracks := by
  unfold strokeReported; split <;> simp
@[simp] theorem tracks_bringUp (s : State) : (bringUp s).tracks = s.tracks := by
  have close : (closeUpdate s).tracks = s.tracks := by unfold closeUpdate; split <;> simp
  have infeed (s : State) : (infeedUpdate s).tracks = s.tracks := rfl
  have dwell (s : State) : (dwellUpdate s).tracks = s.tracks := by unfold dwellUpdate; (repeat' split) <;> rfl
  have idle (s : State) : (idleUpdate s).tracks = s.tracks := by unfold idleUpdate; (repeat' split) <;> rfl
  have starve (s : State) : (starveUpdate s).tracks = s.tracks := by unfold starveUpdate; (repeat' split) <;> rfl
  unfold bringUp; rw [starve, idle, dwell, infeed, close]
@[simp] theorem tracks_freeUpdate (old s : State) : (freeUpdate old s).tracks = s.tracks := by
  unfold freeUpdate; split <;> simp
@[simp] theorem tracks_lineUpdate (old s : State) : (lineUpdate old s).tracks = s.tracks := by
  unfold lineUpdate; split <;> simp
@[simp] theorem tracks_attnUpdate (s : State) : (attnUpdate s).tracks = s.tracks := rfl

end Sys2Proof.Machine
end

section
/-!
The Cut Queue stays strictly ascending and within its 32 entries (R97, R99): a placement adds one entry at most and keeps CUT_MIN_SEP, a commit has its room
tested first, and a refresh places no more entries than it has taken out.
-/
namespace Sys2Proof.Machine

/-- Entries in strictly ascending order of their triggers. -/
abbrev StrictlyAscending (q : List Entry) : Prop := q.Pairwise (fun d e => d.trigger < e.trigger)

/-- What the operations need, and keep, for the queue to stay strict and within its places. -/
structure QueueGood (s : State) : Prop where
  apart : 0 < s.work .cutMinSep
  serials : (s.panels.map (·.serial)).Nodup
  room : ∀ p ∈ s.panels, ∀ ts, p.triggers = some ts → ts.length ≤ p.cuts.length
  ascending : StrictlyAscending s.planner.queue
  fits : s.planner.queue.length ≤ 32

/-- The panels of `t` have the tracks of those of `s`, and CUT_MIN_SEP is the same. -/
def SameTracks (s t : State) : Prop := t.work .cutMinSep = s.work .cutMinSep ∧ t.panels.map Panel.track = s.panels.map Panel.track

theorem SameTracks.serials {s t : State} (h : SameTracks s t) : t.panels.map (·.serial) = s.panels.map (·.serial) := by
  have e := congrArg (List.map (·.1)) h.2
  rwa [List.map_map, List.map_map] at e

theorem SameTracks.room {s t : State} (h : SameTracks s t)
    (room : ∀ p ∈ s.panels, ∀ ts, p.triggers = some ts → ts.length ≤ p.cuts.length) :
    ∀ p ∈ t.panels, ∀ ts, p.triggers = some ts → ts.length ≤ p.cuts.length := by
  intro p hp ts hts
  have mem : p.track ∈ s.panels.map Panel.track := h.2 ▸ List.mem_map_of_mem hp
  obtain ⟨q, hq, e⟩ := List.mem_map.mp mem
  have cuts : q.cuts = p.cuts := congrArg (·.2.1) e
  have triggers : q.triggers = p.triggers := congrArg (·.2.2) e
  rw [← cuts]
  exact room q hq ts (triggers.trans hts)

theorem strictlyAscending_of_triggers {q r : List Entry} (h : r.map (·.trigger) = q.map (·.trigger)) (a : StrictlyAscending q) :
    StrictlyAscending r := by
  have e : (r.map (·.trigger)).Pairwise (· < ·) := h ▸ List.pairwise_map.mpr a
  exact List.pairwise_map.mp e

theorem sameTracks_of_tracks {s t : State} (h : t.tracks = s.tracks) : SameTracks s t :=
  ⟨congrArg (·.1) h, congrArg (·.2.1) h⟩

theorem QueueGood.of_tracks {s t : State} (g : QueueGood s) (h : t.tracks = s.tracks) : QueueGood t where
  apart := (sameTracks_of_tracks h).1.symm ▸ g.apart
  serials := (sameTracks_of_tracks h).serials ▸ g.serials
  room := (sameTracks_of_tracks h).room g.room
  ascending := strictlyAscending_of_triggers (congrArg (·.2.2) h) g.ascending
  fits := by
    have e := congrArg (List.length ∘ (·.2.2)) h
    simp only [Function.comp, State.tracks, List.length_map] at e
    rw [e]; exact g.fits

/-! ### Placements -/

/-- `t` comes from `s` by placements that add at most `n` entries. -/
structure Adds (n : Nat) (s t : State) : Prop where
  same : SameTracks s t
  ascending : 0 < s.work .cutMinSep → StrictlyAscending s.planner.queue → StrictlyAscending t.planner.queue
  length : t.planner.queue.length ≤ s.planner.queue.length + n

theorem Adds.of_tracks {s t : State} (h : t.tracks = s.tracks) : Adds 0 s t where
  same := sameTracks_of_tracks h
  ascending _ := strictlyAscending_of_triggers (congrArg (·.2.2) h)
  length := by
    have e := congrArg (List.length ∘ (·.2.2)) h
    simp only [Function.comp, State.tracks, List.length_map] at e
    exact Nat.le_of_eq e

theorem Adds.trans {m n : Nat} {s t u : State} (h : Adds m s t) (g : Adds n t u) : Adds (m + n) s u where
  same := ⟨g.same.1.trans h.same.1, g.same.2.trans h.same.2⟩
  ascending p a := g.ascending (h.same.1.symm ▸ p) (h.ascending p a)
  length := by have := h.length; have := g.length; omega

theorem Adds.mono {m n : Nat} {s t : State} (h : Adds m s t) (le : m ≤ n) : Adds n s t :=
  ⟨h.same, h.ascending, h.length.trans (Nat.add_le_add_left le _)⟩

theorem adds_foldl {α : Type} {f : State → α → State} (h : ∀ s a, Adds 1 s (f s a)) (l : List α) (s : State) :
    Adds l.length s (l.foldl f s) := by
  induction l generalizing s with
  | nil => exact .of_tracks rfl
  | cons a l ih => exact ((h s a).trans (ih _)).mono (by rw [List.length_cons]; omega)

theorem QueueGood.of_adds {n : Nat} {s t : State} (g : QueueGood s) (h : Adds n s t) (room : s.planner.queue.length + n ≤ 32) :
    QueueGood t where
  apart := h.same.1.symm ▸ g.apart
  serials := h.same.serials ▸ g.serials
  room := h.same.room g.room
  ascending := h.ascending g.apart g.ascending
  fits := h.length.trans room

theorem length_insertEntry (e : Entry) (q : List Entry) : (insertEntry e q).length = q.length + 1 := by
  induction q with
  | nil => rfl
  | cons y q ih => unfold insertEntry; split <;> simp [ih]

theorem strictlyAscending_insertEntry {e : Entry} {q : List Entry} (new : ∀ d ∈ q, d.trigger ≠ e.trigger) (a : StrictlyAscending q) :
    StrictlyAscending (insertEntry e q) := by
  induction q with
  | nil => exact .cons (by simp) .nil
  | cons y q ih =>
    cases a with
    | cons ahead rest =>
      have hy := new y (by simp)
      unfold insertEntry; split
      · refine .cons (fun w hw => ?_) (.cons ahead rest)
        rcases List.mem_cons.mp hw with rfl | hw
        · assumption
        · have := ahead w hw; omega
      · refine .cons (fun w hw => ?_) (ih (fun w hw => new w (by simp [hw])) rest)
        rcases mem_insertEntry hw with rfl | hw
        · omega
        · exact ahead w hw

theorem nearest_eq_none {x : Int} {q : List Entry} (h : nearest x q = none) : q = [] := by
  cases q with
  | nil => rfl
  | cons e es =>
    unfold nearest at h
    cases hn : nearest x es with
    | none => simp [hn] at h
    | some f => simp only [hn] at h; split at h <;> cases h

theorem firstMet_eq_none {o x : Int} {q : List Entry} (h : firstMet o x q = none) : q = [] := by
  unfold firstMet at h
  split at h
  · exact List.getLast?_eq_none_iff.mp (Option.or_eq_none_iff.mp h).2
  · exact List.head?_eq_none_iff.mp (Option.or_eq_none_iff.mp h).2

/-- Where no entry conflicts, none is nearer than CUT_MIN_SEP. -/
theorem trigger_ne_of_no_conflict {sep : Int} (pos : 0 < sep) {old : Option Int} {x : Int} {e : Entry} {q : List Entry}
    (h : conflictOf sep old x e q = none) : ∀ d ∈ q, d.trigger ≠ x := by
  have none_conflicts : q.filter (conflicts sep old x e) = [] := by
    unfold conflictOf at h
    cases old with
    | none => exact nearest_eq_none h
    | some o => exact firstMet_eq_none h
  intro d hd same
  have free := List.filter_eq_nil_iff.mp none_conflicts d hd
  refine free ?_
  unfold conflicts
  simp only [Bool.or_eq_true, decide_eq_true_eq]
  exact .inl (.inl (by rw [same]; omega))

@[simp] theorem tracks_judgeCut (r : PanelRef) (a b : Int) (s : State) : (judgeCut r a b s).tracks = s.tracks := by
  unfold judgeCut; split <;> simp
@[simp] theorem tracks_judgeLane (r : PanelRef) (a : Int) (s : State) : (judgeLane r a s).tracks = s.tracks := by
  unfold judgeLane; repeat' split
  all_goals simp
@[simp] theorem tracks_judgeNewcomer (n : Entry) (a b : Int) (s : State) : (judgeNewcomer n a b s).tracks = s.tracks := by
  unfold judgeNewcomer; dsimp only
  cases n.cut <;> cases n.lane <;> simp
@[simp] theorem tracks_flagMerged (c n : Entry) (s : State) : (flagMerged c n s).tracks = s.tracks := by
  unfold flagMerged; split <;> simp

/-- A change of the queue that leaves its triggers leaves the tracks. -/
theorem tracks_setQueue_map {f : Entry → Entry} (h : ∀ e, (f e).trigger = e.trigger) (s : State) :
    (setQueue (s.planner.queue.map f) s).tracks = s.tracks := by
  have e : (s.planner.queue.map f).map (·.trigger) = s.planner.queue.map (·.trigger) := by
    rw [List.map_map]; exact List.map_congr_left fun d _ => h d
  exact congrArg (fun x => (s.work .cutMinSep, s.panels.map Panel.track, x)) e

theorem adds_insert {s : State} {e : Entry} {x : Int} (new : 0 < s.work .cutMinSep → ∀ d ∈ s.planner.queue, d.trigger ≠ x) :
    Adds 1 s (setQueue (insertEntry { e with trigger := x } s.planner.queue) s) where
  same := ⟨rfl, rfl⟩
  ascending p a := strictlyAscending_insertEntry (new p) a
  length := Nat.le_of_eq (length_insertEntry _ _)

theorem adds_placeEntry (fuel : Nat) (old : Option Int) (pushed : Bool) (w : Int) (e : Entry) (x : Int) (s : State) :
    Adds 1 s (placeEntry fuel old pushed w e x s) := by
  induction fuel generalizing old pushed x with
  | zero => exact (Adds.of_tracks rfl).mono (by omega)
  | succ n ih =>
    unfold placeEntry; split
    · rename_i free
      split
      · exact (Adds.of_tracks rfl).mono (by omega)
      · extract_lets t
        have placed : Adds 1 s t := adds_insert fun pos => trigger_ne_of_no_conflict pos free
        clear_value t
        split
        · exact placed.trans (.of_tracks (tracks_judgeNewcomer _ _ _ _))
        · exact placed
    · rename_i c _
      split
      · extract_lets t
        have joined : t.tracks = s.tracks := tracks_setQueue_map (fun q => by
          split
          · rename_i hq; rw [hq]; rfl
          · rfl) s
        exact (Adds.of_tracks ((tracks_judgeNewcomer _ _ _ _).trans ((tracks_flagMerged _ _ _).trans joined))).mono (by omega)
      · exact ih _ _ _

theorem adds_place (old : Option Int) (e : Entry) (s : State) : Adds 1 s (place old e s) := adds_placeEntry _ _ _ _ _ _ s

theorem adds_placeLane (l : LaneChange) (a : Option Int) (b : Int) (s : State) : Adds 1 s (placeLane l a b s) := by
  unfold placeLane; extract_lets at'
  split
  · exact (Adds.of_tracks (tracks_setQueue_map (fun q => by split <;> rfl) s)).mono (by omega)
  · exact adds_place _ _ s

theorem adds_placeCuts (r : PanelRef) (ts : List Int) (s : State) : Adds ts.length s (placeCuts r ts s) := by
  have h := adds_foldl (f := fun s (ti : Int × Nat) => place none { cut := some ⟨r, ti.2 + 1⟩, trigger := ti.1 } s)
    (fun s _ => adds_place _ _ s) ts.zipIdx s
  rwa [List.length_zipIdx] at h

theorem adds_placeMoved (m : List (Entry × Int)) (s : State) : Adds m.length s (placeMoved m s) :=
  adds_foldl (f := fun s (m : Entry × Int) => place (some m.1.trigger) { m.1 with trigger := m.2 } s) (fun s _ => adds_place _ _ s) m s

/-! ### The target and the commits -/

@[simp] theorem tracks_remark (s : State) : (remark s).tracks = s.tracks := by
  unfold remark; split
  · split
    · rfl
    · rename_i e es h
      have same : (es.map fun x : Entry => if x.state = .active then { x with state := .pending } else x).map (·.trigger)
          = es.map (·.trigger) := by
        rw [List.map_map]; exact List.map_congr_left fun d _ => by simp only [Function.comp]; split <;> rfl
      unfold State.tracks
      simp only [setQueue_planner, setQueue_panels, List.map_cons, same, h]
      rfl
  · rfl
@[simp] theorem tracks_approachTarget (o n : Option Int) (s : State) : (approachTarget o n s).tracks = s.tracks := by
  unfold approachTarget; repeat' split
  all_goals simp
@[simp] theorem tracks_targetUpdate (s : State) : (targetUpdate s).tracks = s.tracks := by
  unfold targetUpdate; extract_lets t n old x u
  have h : t.tracks = s.tracks := tracks_remark s
  have g : u.tracks = t.tracks := rfl
  clear_value t u
  repeat' split
  · exact h
  · rw [tracks_approachTarget, g, h]
  · rw [g, h]

theorem good_commitPanel {p : Panel} {s : State} (mem : p ∈ s.panels) (room : s.hasRoom p = true) (g : QueueGood s) :
    QueueGood (commitPanel p s) := by
  have triggers : (p.triggers.getD []).length ≤ p.cuts.length := by
    cases h : p.triggers with
    | none => simp
    | some ts => exact g.room p mem ts h
  have needs : p.cuts.length + (if p.lanes = s.lanesToBe then 0 else 1) + s.planner.queue.length ≤ 32 := by
    unfold State.hasRoom State.needs at room
    exact of_decide_eq_true room
  unfold commitPanel; extract_lets ts told change t u
  have cuts : Adds ts.length s t := by
    have h := (Adds.of_tracks (tracks_updPanel (f := fun q => { q with state := .committed }) (fun _ => rfl) p.ref s)).trans
      (adds_placeCuts p.ref ts _)
    rwa [Nat.zero_add] at h
  have lane : Adds (if p.lanes = s.lanesToBe then 0 else 1) t u := by
    show Adds _ t (match decide (p.lanes ≠ s.lanesToBe), ts.head? with
      | true, some tNew => placeLane ⟨p.lanes, p.ref⟩ told tNew t
      | _, _ => t)
    by_cases same : p.lanes = s.lanesToBe
    · rw [if_pos same, decide_eq_false (not_not.mpr same)]
      exact .of_tracks rfl
    · rw [if_neg same]
      split
      · exact adds_placeLane _ _ _ _
      · exact (Adds.of_tracks rfl).mono (Nat.zero_le _)
  have placed : QueueGood u := g.of_adds (cuts.trans lane) (by
    have : ts.length ≤ p.cuts.length := triggers
    omega)
  exact placed.of_tracks (tracks_targetUpdate u)

theorem good_commitLoop (n : Nat) {s : State} (g : QueueGood s) : QueueGood (commitLoop n s) := by
  induction n generalizing s with
  | zero => exact g
  | succ n ih =>
    unfold commitLoop; split
    · rename_i p hp
      obtain ⟨mem, -, room⟩ := nextCommit_spec hp
      exact ih (good_commitPanel mem room g)
    · exact g
theorem good_tryCommits {s : State} (g : QueueGood s) : QueueGood (tryCommits s) := good_commitLoop _ g

/-! ### Heads and refreshes -/

/-- A panel's triggers are written, no more of them than it has cuts. -/
theorem good_writeTriggers {s : State} (r : PanelRef) (f : Panel → Panel) (same : ∀ p, (f p).serial = p.serial ∧ (f p).cuts = p.cuts)
    (room : ∀ p ∈ s.panels, p.serial = r.serial → ∀ ts, (f p).triggers = some ts → ts.length ≤ p.cuts.length) (g : QueueGood s) :
    QueueGood (updPanel r f s) where
  apart := g.apart
  serials := by
    have e : (s.panels.map fun p => if p.serial = r.serial then f p else p).map (·.serial) = s.panels.map (·.serial) := by
      rw [List.map_map]
      exact List.map_congr_left fun p _ => by simp only [Function.comp]; split <;> simp [(same p).1]
    exact e.symm ▸ g.serials
  room := by
    intro q hq ts hts
    obtain ⟨p, hp, rfl⟩ := List.mem_map.mp hq
    split at hts
    · rename_i hs
      rw [if_pos hs, (same p).2]
      exact room p hp hs ts hts
    · rename_i hs
      rw [if_neg hs]
      exact g.room p hp ts hts
  ascending := g.ascending
  fits := g.fits

theorem length_triggersOf {s : State} {p : Panel} {ts : List Int} (h : s.triggersOf p = some ts) : ts.length = p.cuts.length := by
  unfold State.triggersOf at h; split at h
  · cases h; rw [List.length_map]
  · cases h

theorem good_planHead (r : PanelRef) {s : State} (g : QueueGood s) : QueueGood (planHead r s) := by
  unfold planHead; extract_lets t
  have ht : QueueGood t := g.of_tracks (tracks_updPanel (f := fun p => { p with l2 := some (headLength s.reg.s p) }) (fun _ => rfl) r s)
  exact good_tryCommits (good_writeTriggers r (fun p => { p with triggers := t.triggersOf p }) (fun _ => ⟨rfl, rfl⟩)
    (fun p _ _ ts hts => Nat.le_of_eq (length_triggersOf hts)) ht)

@[simp] theorem tracks_judgeHeld (r : PanelRef) (e : Option Entry) (n : Int) (s : State) : (judgeHeld r e n s).tracks = s.tracks := by
  unfold judgeHeld; repeat' split
  all_goals simp

theorem planner_judgeHeld (r : PanelRef) (e : Option Entry) (n : Int) (s : State) : (judgeHeld r e n s).planner = s.planner := by
  unfold judgeHeld judgeCut; repeat' split
  all_goals rfl

theorem planner_judgeAllHeld (r : PanelRef) (l : List (Option Entry × Int)) (s : State) :
    (l.foldl (fun s x => judgeHeld r x.1 x.2 s) s).planner = s.planner := by
  induction l generalizing s with
  | nil => rfl
  | cons x l ih => exact (ih _).trans (planner_judgeHeld r x.1 x.2 s)

/-- The entry found for a cut stands in the queue, and where it is free to move it is that cut's own. -/
theorem entryOf_spec {s : State} {r : PanelRef} {i : Nat} {e : Entry} (h : s.entryOf r i = some e) (free : movesWith r e = true) :
    e ∈ s.planner.queue ∧ e.cut.map (·.index) = some i := by
  refine ⟨List.mem_of_find?_eq_some h, ?_⟩
  have serves := List.find?_some h
  simp only [movesWith, Bool.and_eq_true, Option.isNone_iff_eq_none] at free
  obtain ⟨⟨-, alone⟩, own⟩ := free
  cases hc : e.cut with
  | none => simp [hc] at own
  | some c =>
    simp only [Entry.cuts, hc, alone, Option.toList, List.append_nil, List.any_cons, List.any_nil, Bool.or_false, Bool.and_eq_true,
      beq_iff_eq] at serves
    simp [serves.2]

/-- The entries that a refresh moves, cut by cut. -/
theorem ownMoves_entries (r : PanelRef) (s : State) (news : List Int) :
    (ownMoves r (((List.range news.length).map fun i => s.entryOf r (i + 1)).zip news)).map (·.1)
      = (List.range news.length).filterMap fun i => (s.entryOf r (i + 1)).filter (movesWith r) := by
  generalize hl : (List.range news.length).map (fun i => s.entryOf r (i + 1)) = es
  have len : es.length ≤ news.length := by rw [← hl]; simp
  calc (ownMoves r (es.zip news)).map (·.1)
      = (es.zip news).filterMap (fun x => x.1.filter (movesWith r)) := by
        unfold ownMoves
        rw [List.map_filterMap]
        congr 1; funext x
        cases x.1.filter (movesWith r) <;> rfl
    _ = ((es.zip news).map (·.1)).filterMap (fun o => o.filter (movesWith r)) := by rw [List.filterMap_map]; rfl
    _ = es.filterMap (fun o => o.filter (movesWith r)) := by rw [List.map_fst_zip len]
    _ = _ := by rw [← hl, List.filterMap_map]; rfl

/-- A refresh takes the entries it moves out of the queue: each is another one, and the LANE entries are none of the cuts. -/
theorem length_without_moved {s : State} (r : PanelRef) (n : Nat) (lanes : List Entry) (sub : lanes.Sublist s.planner.queue)
    (isLane : ∀ e ∈ lanes, e.cut = none) (a : StrictlyAscending s.planner.queue) :
    let own := (List.range n).filterMap fun i => (s.entryOf r (i + 1)).filter (movesWith r)
    (s.planner.queue.filter (fun e => !(own.contains e || lanes.contains e))).length + (own.length + lanes.length)
      ≤ s.planner.queue.length := by
  intro own
  have mem_own : ∀ e ∈ own, ∃ i, s.entryOf r (i + 1) = some e ∧ movesWith r e = true := by
    intro e he
    obtain ⟨i, -, hi⟩ := List.mem_filterMap.mp he
    exact ⟨i, Option.filter_eq_some_iff.mp hi⟩
  have own_nodup : own.Nodup := by
    refine List.Nodup.filterMap ?_ List.nodup_range
    intro i j e hi hj
    obtain ⟨fi, mi⟩ := Option.filter_eq_some_iff.mp hi
    obtain ⟨fj, mj⟩ := Option.filter_eq_some_iff.mp hj
    have e1 := (entryOf_spec fi mi).2
    have e2 := (entryOf_spec fj mj).2
    rw [e1] at e2
    simpa using e2
  have queue_nodup : s.planner.queue.Nodup := a.imp fun {d e} lt same => by rw [same] at lt; omega
  have apart : List.Disjoint own lanes := by
    intro e he hl
    obtain ⟨i, hi, hm⟩ := mem_own e he
    have := (entryOf_spec hi hm).2
    rw [isLane e hl] at this
    cases this
  have moved_nodup : (own ++ lanes).Nodup := List.nodup_append'.mpr ⟨own_nodup, queue_nodup.sublist sub, apart⟩
  have moved_sub : own ++ lanes ⊆ s.planner.queue.filter (fun e => own.contains e || lanes.contains e) := by
    intro e he
    rcases List.mem_append.mp he with he | he
    · obtain ⟨i, hi, hm⟩ := mem_own e he
      exact List.mem_filter.mpr ⟨(entryOf_spec hi hm).1, by simp [he]⟩
    · exact List.mem_filter.mpr ⟨sub.subset he, by simp [he]⟩
  have out := (moved_nodup.subperm moved_sub).length_le
  rw [List.length_append] at out
  have split := List.length_eq_length_filter_add (l := s.planner.queue) (fun e => own.contains e || lanes.contains e)
  omega

theorem QueueGood.filter {s : State} (g : QueueGood s) (p : Entry → Bool) : QueueGood (setQueue (s.planner.queue.filter p) s) where
  apart := g.apart
  serials := g.serials
  room := g.room
  ascending := g.ascending.filter p
  fits := (List.length_filter_le _ _).trans g.fits

theorem good_applyTriggers (r : PanelRef) (news : List Int) (p : Panel) {s : State}
    (room : ∀ q ∈ s.panels, q.serial = r.serial → news.length ≤ q.cuts.length) (g : QueueGood s) :
    QueueGood (applyTriggers r news p s) := by
  unfold applyTriggers; split
  · exact good_writeTriggers r (fun q => { q with triggers := some news }) (fun _ => ⟨rfl, rfl⟩)
      (fun q hq hs ts hts => by cases hts; exact room q hq hs) g
  · extract_lets olds entries kept t u cutMoves own firstMoves lanes laneMoves before v w
    have kept_length : kept.length ≤ news.length := by
      simp only [kept, List.length_map, List.length_zip]; omega
    have ht : QueueGood t := good_writeTriggers r (fun q => { q with triggers := some kept }) (fun _ => ⟨rfl, rfl⟩)
      (fun q hq hs ts hts => by cases hts; exact kept_length.trans (room q hq hs)) g
    have hut : u.tracks = t.tracks := tracks_foldl (fun s (x : Option Entry × Int) => tracks_judgeHeld r x.1 x.2 s) _ _
    have queue : u.planner = s.planner := planner_judgeAllHeld r _ t
    have hu : QueueGood u := ht.of_tracks hut
    have hown : own = (List.range news.length).filterMap fun i => (u.entryOf r (i + 1)).filter (movesWith r) := by
      have e := ownMoves_entries r s news
      have se : ∀ i, u.entryOf r i = s.entryOf r i := fun i => by unfold State.entryOf; rw [queue]
      simp only [se]
      exact e
    have lanes_sub : lanes.Sublist u.planner.queue := by
      show (if firstMoves then u.planner.queue.filter (laneMovesWith r) else []).Sublist _
      split
      · exact List.filter_sublist
      · exact List.nil_sublist _
    have lanes_lane : ∀ e ∈ lanes, e.cut = none := by
      intro e he
      change e ∈ (if firstMoves then u.planner.queue.filter (laneMovesWith r) else []) at he
      split at he
      · have h := (List.mem_filter.mp he).2
        simp only [laneMovesWith, Entry.isLane, Bool.and_eq_true, Option.isNone_iff_eq_none] at h
        exact h.1.2
      · cases he
    have left := length_without_moved (s := u) r news.length lanes lanes_sub lanes_lane hu.ascending
    rw [← hown] at left
    have moves : (cutMoves ++ laneMoves).length ≤ own.length + lanes.length := by
      have a : cutMoves.length = own.length := (List.length_map _).symm
      have b : laneMoves.length ≤ lanes.length := List.length_filterMap_le _ _
      rw [List.length_append]; omega
    have hv : QueueGood v := hu.filter _
    have placed : QueueGood (placeMoved (cutMoves ++ laneMoves) v) := hv.of_adds (adds_placeMoved _ v) (by
      have := hu.fits
      have e : v.planner.queue.length
        = (u.planner.queue.filter (fun e => !(own.contains e || lanes.contains e))).length := rfl
      omega)
    have hw : QueueGood w := placed.of_tracks (tracks_targetUpdate _)
    clear_value w
    split
    · exact good_tryCommits hw
    · exact hw

theorem good_refresh (r : PanelRef) (l : Length2) {s : State} (g : QueueGood s) : QueueGood (refresh r l s) := by
  unfold refresh; split
  · rename_i p hp
    split
    · exact g
    · extract_lets t
      have ht : QueueGood t := g.of_tracks (tracks_updPanel (f := fun q => { q with l2 := some l }) (fun _ => rfl) r s)
      split
      · rename_i news hn
        refine good_applyTriggers r news p (fun q hq hs => ?_) ht
        obtain ⟨q0, hq0, rfl⟩ := List.mem_map.mp hq
        have serial : q0.serial = r.serial := by split at hs <;> assumption
        have found : p.serial = r.serial := by simpa using List.find?_some hp
        have same : q0 = p := List.inj_on_of_nodup_map g.serials hq0 (List.mem_of_find?_eq_some hp) (serial.trans found.symm)
        rw [if_pos serial, same, length_triggersOf hn]
      · exact ht
  · exact g

theorem good_planTailM1 (r : PanelRef) {s : State} (g : QueueGood s) : QueueGood (planTailM1 r s) := by
  unfold planTailM1; repeat' split
  all_goals first | exact good_refresh _ _ g | exact g
theorem good_planTailM2 (r : PanelRef) {s : State} (g : QueueGood s) : QueueGood (planTailM2 r s) := by
  unfold planTailM2; repeat' split
  all_goals first | exact good_refresh _ _ g | exact g.of_tracks (tracks_updPanel (track_raiseScale _) r s) | exact g

/-! ### Leaving the queue -/

theorem good_removeFirst {s : State} (g : QueueGood s) : QueueGood (removeFirst s) := by
  have shorter : QueueGood (setQueue s.planner.queue.tail s) := ⟨g.apart, g.serials, g.room, g.ascending.tail, by
    have := g.fits
    show s.planner.queue.tail.length ≤ 32
    rw [List.length_tail]; omega⟩
  exact good_tryCommits (shorter.of_tracks (tracks_targetUpdate _))
theorem good_emptyQueue {s : State} (g : QueueGood s) : QueueGood (emptyQueue s) := ⟨g.apart, g.serials, g.room, .nil, Nat.zero_le _⟩
theorem good_dropBeyond (l : Int) {s : State} (g : QueueGood s) : QueueGood (dropBeyond l s) := by
  unfold dropBeyond; extract_lets x t before u
  have ht : QueueGood t := g.of_tracks rfl
  have hu : QueueGood u := (ht.filter _).of_tracks (tracks_targetUpdate _)
  clear_value u
  split
  · exact good_tryCommits hu
  · exact hu

end Sys2Proof.Machine
end

section
/-!
The cursors, Line Control and the end of an event keep the Cut Queue strict and within its places.
-/
namespace Sys2Proof.Machine

/-! ### The M2 cursor and the unit -/

@[simp] theorem tracks_setExpect2 (s : State) : (setExpect2 s).tracks = s.tracks := by
  unfold setExpect2; split <;> rfl
@[simp] theorem tracks_dropExpect2 (s : State) : (dropExpect2 s).tracks = s.tracks := by unfold dropExpect2; split <;> rfl
@[simp] theorem tracks_freedAwait2 (s : State) : (freedAwait2 s).tracks = s.tracks := by
  unfold freedAwait2; repeat' split
  all_goals rfl
@[simp] theorem tracks_threadReg (s : State) : (threadReg s).tracks = s.tracks := by
  unfold threadReg; extract_lets s0 x rx y ry reg t u
  have ht : t.tracks = s.tracks := by
    show State.tracks (if s0 = s.work .sInit then s else queueEvent _ s) = _
    split <;> simp
  exact (tracks_applyReg _ t).trans ht
@[simp] theorem tracks_setRegister (l : LockMode) (c : Choice) (s : State) : (setRegister l c s).tracks = s.tracks := by
  unfold setRegister; split <;> simp
@[simp] theorem tracks_clampStretch (s : State) : (clampStretch s).tracks = s.tracks := by
  unfold clampStretch; dsimp only; split
  · rfl
  · rw [tracks_queueEvent]; rfl

theorem good_handToPlanner (m : Mark) (r : PanelRef) {s : State} (g : QueueGood s) : QueueGood (handToPlanner m r s) := by
  cases m
  · exact good_planHead r g
  · exact good_planTailM2 r g

theorem good_resolveM2 (c : Bool) (b : Int) {s : State} (g : QueueGood s) : QueueGood (resolveM2 c b s) := by
  unfold resolveM2; split
  · rename_i r m w _
    extract_lets before x inList ws t u v
    have ht : QueueGood t := g.of_tracks rfl
    have hu : QueueGood u := ht.of_tracks (tracks_updPanel (fun p => by rw [track_raiseAll, track_writeMark2]) r t)
    have hv : QueueGood v := by
      show QueueGood (if inList then handToPlanner m r u else u)
      split
      · exact good_handToPlanner m r hu
      · exact hu
    exact hv.of_tracks (tracks_queueEvents _ v)
  · exact g

theorem good_takeUp2 (n : Nat) {s : State} (g : QueueGood s) : QueueGood (takeUp2 n s) := by
  induction n generalizing s with
  | zero => exact g
  | succ n ih =>
    have ht : QueueGood (setExpect2 s) := g.of_tracks (tracks_setExpect2 s)
    unfold takeUp2; dsimp only; repeat' split
    · exact ih (good_resolveM2 _ _ ht)
    · exact ht
    · exact ht

theorem good_settleM2 (c : Bool) (b : Int) {s : State} (g : QueueGood s) : QueueGood (settleM2 c b s) :=
  good_takeUp2 _ (good_resolveM2 c b g)
theorem good_notifyM2 {s : State} (g : QueueGood s) : QueueGood (notifyM2 s) := by
  unfold notifyM2; split
  · exact good_takeUp2 _ g
  · exact g
theorem good_coastM2 {s : State} (g : QueueGood s) : QueueGood (coastM2 s) := by
  unfold coastM2; split
  · exact good_settleM2 _ _ g
  · exact g
theorem good_reportM2 (l : Int) (st : Bool) {s : State} (g : QueueGood s) : QueueGood (reportM2 l st s) := by
  unfold reportM2; repeat' split
  all_goals first | exact good_settleM2 _ _ g | exact g
theorem good_lostBarM2 {s : State} (g : QueueGood s) : QueueGood (lostBarM2 s) := by
  unfold lostBarM2; split
  · exact good_coastM2 g
  · exact g
theorem good_expireM2 {s : State} (g : QueueGood s) : QueueGood (expireM2 s) := by
  unfold expireM2; split
  · extract_lets x t
    have ht : QueueGood t := g.of_tracks rfl
    clear_value t
    repeat' split
    · exact ht.of_tracks rfl
    · exact good_coastM2 ht
    · exact good_coastM2 ht
  · exact g
theorem good_clearReg {s : State} (g : QueueGood s) : QueueGood (clearReg s) := by
  unfold clearReg; extract_lets x rx y ry reg t
  have ht : QueueGood t := g.of_tracks ((tracks_dropExpect2 _).trans (tracks_applyReg _ s))
  clear_value t
  split
  · exact ht
  · exact good_takeUp2 _ ht
theorem good_dropAborted2 {s : State} (g : QueueGood s) : QueueGood (dropAborted2 s) := by
  unfold dropAborted2; repeat' split
  · exact good_takeUp2 _ (g.of_tracks (tracks_dropExpect2 s))
  · exact g
  · exact g

/-! ### The M1 cursor -/

@[simp] theorem tracks_setCursor1 (st : M1State) (e : Option Expect1) (s : State) : (setCursor1 st e s).tracks = s.tracks := rfl
@[simp] theorem tracks_openWindow1 (r : PanelRef) (m : Mark) (x : Int) (s : State) : (openWindow1 r m x s).tracks = s.tracks := rfl
@[simp] theorem tracks_becomeIdle1 (s : State) : (becomeIdle1 s).tracks = s.tracks := rfl
@[simp] theorem tracks_haltM1 (s : State) : (haltM1 s).tracks = s.tracks := rfl
@[simp] theorem tracks_setExpect1 (s : State) : (setExpect1 s).tracks = s.tracks := by
  unfold setExpect1; dsimp only; repeat' split
  all_goals rfl

theorem good_resolveM1 (c : Bool) (pos : Int) {s : State} (g : QueueGood s) : QueueGood (resolveM1 c pos s) := by
  unfold resolveM1; split
  · rename_i e _
    extract_lets x y t u v
    have ht : QueueGood t := g.of_tracks rfl
    have hu : QueueGood u := ht.of_tracks (tracks_updPanel (fun p => by dsimp only; split <;> simp) e.panel t)
    have hv : QueueGood v := by
      show QueueGood (if c then queueEvent _ u else u)
      split
      · exact hu.of_tracks (tracks_queueEvent _ u)
      · exact hu
    clear_value v
    split
    · exact good_notifyM2 (good_planTailM1 _ hv)
    · exact good_notifyM2 hv
  · exact g
theorem good_takeUp1 (n : Nat) {s : State} (g : QueueGood s) : QueueGood (takeUp1 n s) := by
  induction n generalizing s with
  | zero => exact g
  | succ n ih =>
    have ht : QueueGood (setExpect1 s) := g.of_tracks (tracks_setExpect1 s)
    unfold takeUp1; dsimp only; repeat' split
    · exact ih (good_resolveM1 _ _ ht)
    · exact ht
    · exact ht
theorem good_takeUpM1 {s : State} (g : QueueGood s) : QueueGood (takeUpM1 s) := by
  unfold takeUpM1; split
  · exact g
  · exact good_takeUp1 _ g
theorem good_settleM1 (c : Bool) (p : Int) {s : State} (g : QueueGood s) : QueueGood (settleM1 c p s) :=
  good_takeUpM1 (good_resolveM1 c p g)
theorem good_coastM1 {s : State} (g : QueueGood s) : QueueGood (coastM1 s) := by
  unfold coastM1; split
  · exact good_settleM1 _ _ g
  · exact g
theorem good_reportM1 (l : Int) (st : Bool) {s : State} (g : QueueGood s) : QueueGood (reportM1 l st s) := by
  unfold reportM1; repeat' split
  all_goals first | exact good_settleM1 _ _ g | exact g
theorem good_lostBarM1 {s : State} (g : QueueGood s) : QueueGood (lostBarM1 s) := by
  unfold lostBarM1; split
  · exact good_coastM1 g
  · exact g
theorem good_expireM1 {s : State} (g : QueueGood s) : QueueGood (expireM1 s) := by
  unfold expireM1; split
  · extract_lets x t
    have ht : QueueGood t := g.of_tracks rfl
    clear_value t
    repeat' split
    · exact ht.of_tracks rfl
    · exact good_coastM1 ht
    · exact good_coastM1 ht
  · exact g
theorem good_releaseHold1 {s : State} (g : QueueGood s) : QueueGood (releaseHold1 s) := by
  unfold releaseHold1; extract_lets a b t
  have ht : QueueGood t := g.of_tracks rfl
  clear_value t
  split
  · exact good_takeUpM1 ht
  · exact ht
theorem good_spliceCursor1 (l : Int) {s : State} (g : QueueGood s) : QueueGood (spliceCursor1 l s) := by
  unfold spliceCursor1; extract_lets isTail t hold a b u
  have ht : QueueGood t := by
    show QueueGood (match isTail, s.cursor1.expect.bind (·.window) with
      | true, some w => resolveM1 true w.expected s
      | _, _ => s)
    split
    · exact good_resolveM1 _ _ g
    · exact g
  exact good_takeUpM1 (ht.of_tracks rfl)
theorem good_threadM1 {s : State} (g : QueueGood s) : QueueGood (threadM1 s) := good_takeUpM1 (g.of_tracks rfl)
theorem good_clearM1 {s : State} (g : QueueGood s) : QueueGood (clearM1 s) := by
  unfold clearM1; extract_lets x t
  have ht : QueueGood t := g.of_tracks rfl
  clear_value t
  split
  · exact ht
  · exact good_takeUpM1 (ht.of_tracks rfl)

/-! ### Line Control and the end of an event -/

theorem good_enterEndOfWeb (l : LineBlock) {s : State} (g : QueueGood s) : QueueGood (enterEndOfWeb l s) := by
  have emptied : QueueGood (emptyQueue (abortPanels (setLine { l with state := .endOfWeb } s))) :=
    good_emptyQueue (g.of_tracks (tracks_abortPanels (setLine { l with state := .endOfWeb } s)))
  exact (good_dropAborted2 (emptied.of_tracks (tracks_dropEntry _))).of_tracks (tracks_commandOpen _)
theorem good_webEndElsewhere {s : State} (g : QueueGood s) : QueueGood (webEndElsewhere s) := by
  unfold webEndElsewhere; split
  all_goals first | exact good_enterEndOfWeb _ g | exact g.of_tracks rfl
theorem good_handControlled (c : StopCause) {s : State} (g : QueueGood s) : QueueGood (handControlled c s) := by
  unfold handControlled; repeat' split
  all_goals first
    | exact g.of_tracks (tracks_beginControlled c s)
    | exact good_webEndElsewhere g
    | exact g.of_tracks rfl
theorem good_endStop {s : State} (g : QueueGood s) : QueueGood (endStop s) := by
  unfold endStop; repeat' split
  all_goals first
    | exact g.of_tracks (tracks_endCycleEnd s)
    | exact good_enterEndOfWeb _ g
    | exact g.of_tracks rfl
theorem good_drainTest {s : State} (g : QueueGood s) : QueueGood (drainTest s) := by
  unfold drainTest; split
  · exact good_handControlled _ (g.of_tracks rfl)
  · exact g
theorem good_completeLane (e : Entry) {s : State} (g : QueueGood s) : QueueGood (completeLane e s) := by
  unfold completeLane; dsimp only
  exact good_drainTest (good_removeFirst (g.of_tracks rfl))
theorem good_pumpStep {s t : State} (h : pumpStep s = some t) (g : QueueGood s) : QueueGood t := by
  unfold pumpStep at h
  split at h
  · split at h
    · cases h; exact g.of_tracks (tracks_takeUp s)
    · cases h
  · split at h
    · split at h
      · cases h
      · split at h
        · cases h; exact good_completeLane _ g
        · split at h
          · cases h; exact g.of_tracks rfl
          · cases h
    · cases h
  · cases h
theorem good_pump (n : Nat) {s : State} (g : QueueGood s) : QueueGood (pump n s) := by
  induction n generalizing s with
  | zero => exact g
  | succ n ih =>
    unfold pump; split
    · rename_i h; exact ih (good_pumpStep h g)
    · exact g
theorem good_completeStroke {s : State} (g : QueueGood s) : QueueGood (completeStroke s) := by
  unfold completeStroke; extract_lets t
  have ht : QueueGood t := g.of_tracks rfl
  clear_value t
  split
  · exact ht.of_tracks (tracks_strokeReported _)
  · rename_i e _
    extract_lets lanes u x v w
    have hv : QueueGood v := ht.of_tracks (tracks_creditCuts _ _)
    have hw : QueueGood w := good_drainTest (good_removeFirst hv)
    have reported (y : State) (hy : QueueGood y) : QueueGood (strokeReported y) := hy.of_tracks (tracks_strokeReported y)
    refine reported _ ?_
    split
    · exact hw.of_tracks (tracks_handCycleEnd _ w)
    · exact hw
theorem good_finish (old : State) {s : State} (g : QueueGood s) : QueueGood (finish old s) := by
  have stopped := good_endStop (good_pump pumpBound g)
  unfold finish
  exact stopped.of_tracks (by simp)

/-! ### The shared operations, with all that they keep -/

/-- `t` comes from `s` by shared operations: what `Kept` says, and the Cut Queue still good. -/
structure Shared (s t : State) : Prop where
  kept : Kept s t
  good : QueueGood s → QueueGood t

theorem Shared.refl (s : State) : Shared s s := ⟨.refl s, id⟩
theorem Shared.trans {s t u : State} (h : Shared s t) (g : Shared t u) : Shared s u := ⟨h.kept.trans g.kept, g.good ∘ h.good⟩
theorem Shared.of_tracks {s t : State} (k : Kept s t) (h : t.tracks = s.tracks) : Shared s t := ⟨k, fun g => g.of_tracks h⟩

theorem shared_takeUpM1 (s : State) : Shared s (takeUpM1 s) := ⟨kept_takeUpM1 s, good_takeUpM1⟩
theorem shared_tryCommits (s : State) : Shared s (tryCommits s) := ⟨kept_tryCommits s, good_tryCommits⟩
theorem shared_drainTest (s : State) : Shared s (drainTest s) := ⟨kept_drainTest s, good_drainTest⟩
theorem shared_handControlled (c : StopCause) (s : State) : Shared s (handControlled c s) :=
  ⟨kept_handControlled c s, good_handControlled c⟩
theorem shared_enterEndOfWeb (l : LineBlock) (s : State) : Shared s (enterEndOfWeb l s) :=
  ⟨kept_enterEndOfWeb l s, good_enterEndOfWeb l⟩
theorem shared_completeStroke (s : State) : Shared s (completeStroke s) := ⟨kept_completeStroke s, good_completeStroke⟩
theorem shared_pump (n : Nat) (s : State) : Shared s (pump n s) := ⟨kept_pump n s, good_pump n⟩
theorem shared_finish (old s : State) : Shared s (finish old s) := ⟨kept_finish old s, good_finish old⟩
theorem shared_raiseFault (c : FaultCause) (s : State) : Shared s (raiseFault c s) := .of_tracks (kept_raiseFault c s) (tracks_raiseFault c s)
theorem shared_arrive (s : State) : Shared s (arrive s) := .of_tracks (kept_arrive s) (tracks_arrive s)
theorem shared_queueEvent (e : Event) (s : State) : Shared s (queueEvent e s) := .of_tracks (kept_queueEvent e s) (tracks_queueEvent e s)
theorem shared_commandOpen (s : State) : Shared s (commandOpen s) := .of_tracks (kept_commandOpen s) (tracks_commandOpen s)

end Sys2Proof.Machine
end

section
/-!
What a step can do. `Does` lists the changes that a command makes before its event is brought to its end: the shared operations, and those changes that `Kept` does not
allow, each with the condition under which it is made. `Acts` says how a command comes to its end: by `finish`, by a reply, in a reset, or on the link alone. Every
invariant of every step is an induction over the one and a case analysis over the other.
-/
namespace Sys2Proof.Machine

/-- A teach left in a sensor's block holds results of the converter if the one before did. -/
def TeachKept (a b : SensorBlock) : Prop := (∀ k, a.teach = some k → k.Sound) → ∀ k, b.teach = some k → k.Sound

theorem TeachKept.of_eq {a b : SensorBlock} (h : b.teach = a.teach) : TeachKept a b := fun x k hk => x k (h ▸ hk)

/-- The changes a command makes before its event ends. -/
inductive Does : State → State → Prop where
  | shared {s t : State} (h : Shared s t) : Does s t
  | trans {s t u : State} (h : Does s t) (g : Does t u) : Does s u
  | blocks {s t : State} (h : t =
      { s with
        pending := t.pending, now := t.now, inputs := t.inputs, causes := t.causes, lastPlan := t.lastPlan, watches := t.watches
        roll1 := t.roll1, roll2 := t.roll2, sampler := t.sampler, loop := t.loop, webEnd := t.webEnd, cursor1 := t.cursor1
        cursor2 := t.cursor2, station := t.station, drives := t.drives, lam := t.lam, line := t.line }) : Does s t
  | link (s : State) (l : Link) (events : l.events.length ≤ s.link.events.length) (buffer : l.buffer = s.link.buffer)
      (reply : l.reply = s.link.reply) : Does s { s with link := l }
  | sensors (s : State) (a b : SensorBlock) (h : TeachKept s.sensor1 a) (g : TeachKept s.sensor2 b) :
      Does s { s with sensor1 := a, sensor2 := b }
  | plan (s : State) (f : PlanFields) (l : Option LastPlan) (room : s.panels.length < 48)
      (cuts : f.cuts ≠ []) : Does s { s with nextSerial := s.nextSerial + 1, panels := s.panels ++ [newPanel s.nextSerial f], lastPlan := l }
  | fetched (s : State) (ps : List Panel) (h : ps.Sublist s.panels) : Does s { s with panels := ps }
  | work (s : State) (e : CalEntry) (v : Int) (other : e ≠ .sMax)
      (good : CalSound s → e.inRange v = true ∧ loopOrders (s.cal.working.set e.index v) = true) : Does s (setWork e v s)
  | sMax (s : State) (v new : Int) (good : CalEntry.sMax.inRange v = true)
      (clamped : let m := (setWork .sMax v s).work .sMax; new = clampInt (-m) m s.reg.s) :
      Does s { setWork .sMax v s with reg := { s.reg with s := new } }
  | store (s : State) (c : CalBlock) (working : c.working = s.cal.working) (length : c.store.length = s.cal.store.length) :
      Does s { s with cal := c }

theorem Does.refl (s : State) : Does s s := .shared (.refl s)
/-- Shared operations that do not touch the triggers. -/
theorem Does.kept {s t : State} (k : Kept s t) (h : t.tracks = s.tracks) : Does s t := .shared (.of_tracks k h)
theorem Does.ite {s t u : State} {c : Prop} [Decidable c] (h : Does s t) (g : Does s u) : Does s (if c then t else u) := by
  split <;> assumption

theorem does_setLine (l : LineBlock) (s : State) : Does s (setLine l s) := .blocks rfl
theorem does_updLam (f : Laminator → Laminator) (s : State) : Does s (updLam f s) := .blocks rfl

/-! ### Requests -/

theorem does_freeFetched (n : Nat) (s : State) : Does s (freeFetched n s) := by
  have sub : ∀ (n : Nat) (ps : List Panel), (withoutDone n ps).Sublist ps := by
    intro n ps
    induction ps generalizing n with
    | nil => cases n <;> exact List.Sublist.slnil
    | cons p ps ih =>
      cases n with
      | zero => exact List.Sublist.refl _
      | succ n =>
        unfold withoutDone; split
        · exact (ih n).cons p
        · exact (ih (n + 1)).cons_cons p
  exact (Does.fetched s _ (sub n s.panels)).trans (.kept (kept_freedAwait2 _) (tracks_freedAwait2 _))

theorem does_acceptPlan (f : PlanFields) (s : State) (room : s.panels.length < 48) (cuts : f.cuts ≠ []) : Does s (acceptPlan f s) := by
  unfold acceptPlan; extract_lets t
  have h : Does s t := .plan s f _ room cuts
  clear_value t
  split
  · exact h.trans (.shared (shared_takeUpM1 t))
  · exact h

theorem does_setTeach (sn : Sensor) (b : SensorBlock) (s : State) (h : TeachKept (s.sensor sn) b) : Does s (setSensor sn b s) := by
  cases sn
  · exact .sensors s b s.sensor2 h (.of_eq rfl)
  · exact .sensors s s.sensor1 b (.of_eq rfl) h

theorem does_setTeachWatch (sn : Sensor) (w : Option Watch) (s : State) : Does s (setTeachWatch sn w s) := by
  cases sn <;> exact .blocks rfl

theorem does_endTeach (sn : Sensor) (r : TeachResult) (s : State) : Does s (endTeach sn r s) := by
  have none (k : Teach) (h : (none : Option Teach) = some k) : k.Sound := by cases h
  unfold endTeach; split
  · refine Does.trans ?_ (.shared (shared_queueEvent _ _))
    exact (does_setTeach sn _ s fun _ => none).trans (does_setTeachWatch sn _ _)
  · exact .refl s

theorem does_threadLine (s : State) : Does s (threadLine s) := by
  have sensor (dark : Bool) (w : Int) (b : SensorBlock) : TeachKept b (threadSensor dark w b) := .of_eq rfl
  have aborted : Does s (endTeach .m2 .aborted (endTeach .m1 .aborted s)) := (does_endTeach .m1 .aborted s).trans (does_endTeach .m2 .aborted _)
  unfold threadLine
  refine aborted.trans ?_
  generalize endTeach .m2 .aborted (endTeach .m1 .aborted s) = t
  refine Does.trans ?_ (.shared ⟨kept_threadM1 _, good_threadM1⟩)
  refine Does.trans ?_ (.kept (kept_threadReg _) (tracks_threadReg _))
  have sensors := Does.sensors t (threadSensor t.inputs.dark1 (t.work .threshM1) t.sensor1)
    (threadSensor t.inputs.dark2 (t.work .threshM2) t.sensor2) (sensor _ _ _) (sensor _ _ _)
  have planner := sensors.trans (.kept (kept_planner _ { t.planner with limit := none } fun a => a) rfl)
  exact planner.trans (.blocks rfl)

theorem does_reportWebEnd (s : State) : Does s (reportWebEnd s) :=
  Does.trans (.blocks rfl) (.kept (kept_raiseWhere _ _ _) (tracks_raiseWhere _ _ _))

theorem does_startFreeRun (s : State) : Does s (startFreeRun s) := .kept (kept_startFreeRun s) (tracks_startFreeRun s)
theorem does_handCycleEnd (c : StopCause) (s : State) : Does s (handCycleEnd c s) := .kept (kept_handCycleEnd c s) (tracks_handCycleEnd c s)

theorem does_runLine (s : State) : Does s (runLine s) := by
  have standby (s : State) : Does s (leaveStandby s) := by
    refine .kept (kept_leaveStandby s) ?_
    unfold leaveStandby; split <;> rfl
  have paused (s : State) : Does s (goOnPaused s) := .ite (.shared (shared_arrive s)) (.refl s)
  have free (s : State) : Does s (freeAtRun s) := .ite (does_startFreeRun s) (.refl s)
  have web (s : State) : Does s (webEndAtRun s) := .ite (does_reportWebEnd s) (.refl s)
  have film (s : State) : Does s (filmOutAtRun s) := .ite (.shared (shared_handControlled _ s)) (.refl s)
  have stack (s : State) : Does s (stackFullAtRun s) := .ite (does_handCycleEnd _ s) (.refl s)
  have line (l : LineBlock) (s : State) : Does s (setLine l s) := .blocks rfl
  exact ((line _ s).trans (standby _)).trans ((paused _).trans ((Does.shared (shared_pump _ _)).trans ((free _).trans
    ((web _).trans ((Does.shared (shared_drainTest _)).trans ((film _).trans (stack _)))))))

theorem does_clearLine (s : State) : Does s (clearLine s) := by
  unfold clearLine
  have aborted : Does s (abortPanels s) := .kept (kept_abortPanels s) (tracks_abortPanels s)
  generalize abortPanels s = t at *
  have emptied : Does s (dropEntry (emptyQueue { t with lastPlan := none })) := by
    refine Does.trans ?_ (.kept (kept_dropEntry _) (tracks_dropEntry _))
    refine Does.trans ?_ (.shared ⟨kept_emptyQueue _, good_emptyQueue⟩)
    exact aborted.trans (.blocks rfl)
  generalize dropEntry (emptyQueue { t with lastPlan := none }) = u at *
  refine Does.trans ?_ (.shared (shared_commandOpen _))
  refine Does.trans ?_ (does_setLine _ _)
  refine Does.trans ?_ (.shared ⟨kept_clearReg _, good_clearReg⟩)
  refine Does.trans ?_ (.shared ⟨kept_clearM1 _, good_clearM1⟩)
  exact emptied.trans (.blocks rfl)

theorem does_resumeLine (s : State) : Does s (resumeLine s) := by
  unfold resumeLine; dsimp only; split
  · exact .shared (shared_enterEndOfWeb _ s)
  · exact .blocks rfl
  · exact .blocks rfl
  · exact .blocks rfl

theorem does_homeKnifeLine (s : State) : Does s (homeKnifeLine s) := by
  unfold homeKnifeLine; split
  · exact .shared (shared_queueEvent _ s)
  · exact .blocks rfl

theorem does_startTeach (sn : Sensor) (s : State) : Does s (startTeach sn s) := by
  refine (does_setTeach sn _ s fun _ k hk => ?_).trans (does_setTeachWatch sn _ _)
  cases hk
  exact ⟨nofun, nofun⟩

theorem does_setSpeed (v : Nat) (s : State) : Does s (setSpeed v s) := by
  unfold setSpeed; extract_lets old d t
  have ht : Does s t := .blocks rfl
  clear_value t
  exact (ht.trans (.ite (.kept (kept_addPoint _ _ t) (tracks_addPoint _ _ t)) (.refl t))).trans (.kept (kept_reissue _) (tracks_reissue _))

theorem does_acceptHeat (v : Nat) (s : State) : Does s (acceptHeat v s) := by
  refine .kept (kept_acceptHeat v s) ?_
  unfold acceptHeat; repeat' split
  all_goals rfl

theorem does_followThreshold (sn : Sensor) (s : State) : Does s (followThreshold sn s) := by
  unfold followThreshold; split
  · exact .refl s
  · exact does_setTeach sn _ s (.of_eq rfl)

/-- A loop order does not see an entry that is none of the loop's. -/
theorem loopOrders_set_of_ne {w : List Int} {n : Nat} (h : ¬ (6 ≤ n ∧ n ≤ 11)) (v : Int) : loopOrders (w.set n v) = loopOrders w := by
  have e (i : Nat) (hi : 6 ≤ i ∧ i ≤ 11) : (w.set n v).getD i 0 = w.getD i 0 := by
    have ne : n ≠ i := by rintro rfl; exact h hi
    simp only [List.getD_eq_getElem?_getD, List.getElem?_set_ne ne]
  simp only [loopOrders, e CalEntry.loopAt0.index (by decide), e CalEntry.loopAt1023.index (by decide),
    e CalEntry.loopEmptyBelow.index (by decide), e CalEntry.loopNormalFrom.index (by decide), e CalEntry.loopHighFrom.index (by decide),
    e CalEntry.loopFullFrom.index (by decide)]

theorem does_clampStretch (v : Int) (s : State) (good : CalEntry.sMax.inRange v = true) : Does s (clampStretch (setWork .sMax v s)) := by
  have clamped := Does.sMax s v _ good rfl
  unfold clampStretch; dsimp only; split
  · rename_i same
    rwa [show clampInt (-(setWork .sMax v s).work .sMax) ((setWork .sMax v s).work .sMax) s.reg.s = s.reg.s from same] at clamped
  · exact clamped.trans (.shared (shared_queueEvent _ _))

theorem does_beginWrite {e : CalEntry} {v : Int} {s : State} (range : e.inRange v = true)
    (orders : isLoopEntry e = true → loopOrders (s.cal.working.set e.index v) = true) : Does s (beginWrite e v s) := by
  refine Does.trans ?_ (.shared (shared_tryCommits _))
  let w : State := { s with cal := { s.cal with write := some (e.index, v) } }
  have hw : Does s w := .store s _ rfl rfl
  have good (c : CalSound w) : e.inRange v = true ∧ loopOrders (w.cal.working.set e.index v) = true := by
    refine ⟨range, ?_⟩
    by_cases loop : isLoopEntry e = true
    · exact orders loop
    · rw [loopOrders_set_of_ne (by simpa [isLoopEntry] using loop)]
      exact c.2.2.2.1
  refine hw.trans ?_
  by_cases hs : e = .sMax
  · subst hs
    exact does_clampStretch v w range
  · have written : Does w (setWork e v w) := .work w e v hs good
    unfold actOnWork
    split
    · exact absurd rfl hs
    · exact written.trans (does_followThreshold .m1 _)
    · exact written.trans (does_followThreshold .m2 _)
    · exact written

theorem does_completeWrite (s : State) : Does s (completeWrite s) := by
  unfold completeWrite; split
  · refine Does.trans ?_ (.shared (shared_queueEvent _ _))
    exact .store s _ rfl List.length_set
  · exact .refl s

/-! ### Measuring and marks -/

theorem does_setRoll (r : Roll) (b : RollBlock) (s : State) : Does s (setRoll r b s) := by
  cases r <;> exact .blocks rfl

theorem does_encoderFault (r : Roll) (s : State) : Does s (encoderFault r s) :=
  .ite (.refl s) ((does_setRoll r _ s).trans (.shared (shared_raiseFault _ _)))

theorem does_countStep (r : Roll) (d : Int) (s : State) : Does s (countStep r d s) := by
  unfold countStep; dsimp only; split
  · refine (does_setRoll r (moveRoll d (s.roll r)) s).trans ?_
    cases r <;> exact .blocks rfl
  · exact does_encoderFault r s

theorem does_transition (r : Roll) (old new : Bool × Bool) (s : State) : Does s (transition r old new s) :=
  .ite (.refl s) (.ite (does_countStep r 1 s) (.ite (does_countStep r (-1) s) (does_encoderFault r s)))

theorem does_setBarWatch (sn : Sensor) (w : Option Watch) (s : State) : Does s (setBarWatch sn w s) := by
  cases sn <;> exact .blocks rfl
theorem does_setBar (sn : Sensor) (b : Bar) (s : State) : Does s (setBar sn b s) := does_setTeach sn _ s (.of_eq rfl)

theorem does_leadingEdge (sn : Sensor) (s : State) : Does s (leadingEdge sn s) := by
  unfold leadingEdge; split
  · exact .ite ((does_setBar sn _ s).trans (does_setBarWatch sn _ _)) (does_setBar sn _ s)
  · exact .refl s

theorem does_lostBar (sn : Sensor) (s : State) : Does s (lostBar sn s) := by
  cases sn
  · exact .shared ⟨kept_lostBarM1 s, good_lostBarM1⟩
  · exact .shared ⟨kept_lostBarM2 s, good_lostBarM2⟩

theorem does_trailingEdge (sn : Sensor) (s : State) : Does s (trailingEdge sn s) := by
  have ended : Does s (endBar sn s) := by
    refine Does.trans ?_ (does_setBarWatch sn none _)
    exact does_setTeach sn _ s (.of_eq rfl)
  unfold trailingEdge; split
  · refine ended.trans (.ite ?_ (does_lostBar sn _))
    cases sn
    · exact .shared ⟨kept_reportM1 _ _ _, good_reportM1 _ _⟩
    · exact .shared ⟨kept_reportM2 _ _ _, good_reportM2 _ _⟩
  · exact ended
  · exact .refl s

theorem does_exceedBar (sn : Sensor) (s : State) : Does s (exceedBar sn s) :=
  ((does_setBar sn _ s).trans (does_setBarWatch sn none _)).trans (does_lostBar sn _)

theorem does_takeSplice (s : State) : Does s (takeSplice s) := by
  refine Does.trans ?_ (.shared (shared_queueEvent _ _))
  refine Does.trans ?_ (.kept (kept_addPoint _ _ _) (tracks_addPoint _ _ _))
  refine Does.trans ?_ (.shared ⟨kept_spliceCursor1 _ _, good_spliceCursor1 _⟩)
  exact .kept (kept_raiseWhere _ _ s) (tracks_raiseWhere _ _ s)

/-- The midpoint of two results of the converter is in range as a threshold (R63, R203). -/
theorem taughtValue_inRange {c : Int} {k : Teach} {v : Int} (sound : k.Sound) (h : taughtValue c k = some v) (sn : Sensor) :
    (thresholdEntry sn).inRange v = true := by
  unfold taughtValue at h
  split at h
  · rename_i lo hi hlo hhi
    split at h
    · cases h
      have a := sound.1 lo hlo
      have b := sound.2 hi hhi
      have low : (0 : Int) ≤ ((lo + hi) / 2 : Nat) := by omega
      have high : (((lo + hi) / 2 : Nat) : Int) ≤ 1023 := by omega
      cases sn <;> exact Bool.and_eq_true_iff.mpr ⟨decide_eq_true low, decide_eq_true high⟩
    · cases h
  · cases h

theorem does_completeTeach (sn : Sensor) (s : State) : Does s (completeTeach sn s) := by
  unfold completeTeach; split
  · rename_i k hk
    split
    · rename_i v hv
      have other : thresholdEntry sn ≠ .sMax := by cases sn <;> decide
      have written : Does s (setWork (thresholdEntry sn) v s) := by
        refine .work s _ v other fun c => ?_
        obtain ⟨-, -, -, orders, teach1, teach2⟩ := c
        have sound : k.Sound := by
          cases sn
          · exact teach1 k hk
          · exact teach2 k hk
        refine ⟨taughtValue_inRange sound hv sn, ?_⟩
        rw [loopOrders_set_of_ne (by cases sn <;> decide)]
        exact orders
      exact written.trans ((does_followThreshold sn _).trans (does_endTeach sn .taught _))
    · exact does_endTeach sn .lowContrast s
  · exact .refl s

/-! ### The converter -/

theorem does_zoneChange (old : Zone) (s : State) : Does s (zoneChange old s) := by
  refine .kept (kept_zoneChange old s) ?_
  unfold zoneChange; repeat' split
  all_goals simp

theorem does_dancerResult (r : Nat) (s : State) : Does s (dancerResult r s) := by
  unfold dancerResult; extract_lets was l old block t
  have ht : Does s t := by
    refine Does.trans ?_ (does_zoneChange _ _)
    exact .blocks rfl
  clear_value t
  exact ht.trans (.ite (.shared (shared_raiseFault _ t)) (.refl t))

theorem does_settleTest (t : Nat) (s : State) : Does s (settleTest t s) := by
  refine .kept (kept_settleTest t s) ?_
  unfold settleTest; dsimp only; repeat' split
  all_goals rfl
theorem does_loseTemperature (s : State) : Does s (loseTemperature s) := by
  refine .kept (kept_loseTemperature s) ?_
  unfold loseTemperature; split <;> rfl

theorem does_tempResult (r : Nat) (s : State) : Does s (tempResult r s) := by
  unfold tempResult temperature; dsimp only
  refine .ite ?_ ?_
  · refine Does.trans ?_ (does_loseTemperature _)
    exact (does_updLam _ s).trans (.ite (.refl _) (.shared (shared_raiseFault _ _)))
  · refine Does.trans ?_ (does_settleTest _ _)
    exact (does_updLam _ s).trans (.ite (.shared (shared_raiseFault _ _)) (.refl _))

theorem Teach.Sound.see {k : Teach} (h : k.Sound) {r : Nat} (hr : r ≤ 1023) : (k.see r).Sound := by
  refine ⟨fun v hv => ?_, fun v hv => ?_⟩ <;> cases hv <;> split
  · exact (Nat.min_le_right _ _).trans hr
  · exact hr
  · rename_i m hm
    exact Nat.max_le.mpr ⟨h.2 m hm, hr⟩
  · exact hr

theorem does_levelResult (sn : Sensor) {r : Nat} (hr : r ≤ 1023) (s : State) : Does s (levelResult sn r s) := by
  refine does_setTeach sn _ s fun sound k hk => ?_
  obtain ⟨k0, h0, rfl⟩ := Option.map_eq_some_iff.mp hk
  exact (sound k0 h0).see hr

theorem does_advanceRound (s : State) : Does s (advanceRound s) := by
  unfold advanceRound; exact .blocks rfl

theorem does_convert {r : Nat} (hr : r ≤ 1023) (s : State) : Does s (convert r s) := by
  have handed (c : Channel) (s : State) : Does s (handResult c r s) := by
    cases c
    · exact does_dancerResult r s
    · exact does_tempResult r s
    · exact does_levelResult .m1 hr s
    · exact does_levelResult .m2 hr s
  have latest : Does s { s with sampler := s.sampler.latest s.sampler.channel r } := .blocks rfl
  refine (latest.trans (handed s.sampler.channel _)).trans ?_
  exact does_advanceRound _

/-! ### The laminator, the line and the station -/

theorem does_reachTime (a b : Nat) (s : State) : Does s (reachTime a b s) := .blocks rfl
theorem does_markDwell (s : State) : Does s (markDwell s) := by
  unfold markDwell
  refine Does.trans ?_ (does_updLam _ _)
  exact .kept (kept_raiseWhere _ _ s) (tracks_raiseWhere _ _ s)
theorem does_nipTimedOut (s : State) : Does s (nipTimedOut s) := (does_updLam _ s).trans (.shared (shared_raiseFault _ _))
theorem does_ifFitted {f : State → State} (h : ∀ s, Does s (f s)) (s : State) : Does s (ifFitted f s) := .ite (h s) (.refl s)
theorem does_springNip (i : NipInput) (s : State) : Does s (springNip i s) := by
  refine .kept (kept_springNip i s) ?_
  unfold springNip; dsimp only; split <;> rfl
theorem does_takeFilmSplice (s : State) : Does s (takeFilmSplice s) := by
  refine Does.trans ?_ (.shared (shared_queueEvent _ _))
  refine Does.trans ?_ (.kept (kept_addPoint _ _ _) (tracks_addPoint _ _ _))
  exact .kept (kept_raiseWhere _ _ s) (tracks_raiseWhere _ _ s)

theorem does_moveReported (s : State) : Does s (moveReported s) := by
  unfold moveReported; dsimp only; split
  · rename_i m _
    have rest : Does s (setOutfeed .stopped { s with drives := { s.drives with timeoutFlag := false } }) := .blocks rfl
    refine .ite rest (.ite ?_ ?_)
    · exact rest.trans (.ite (.shared (shared_arrive _)) (.refl _))
    · exact rest.trans ((Does.shared (shared_drainTest _)).trans (.ite (does_startFreeRun _) (.refl _)))
  · exact .blocks rfl

theorem does_moveTimedOut (d : Nat) (s : State) : Does s (moveTimedOut d s) := by
  have spent (s : State) : Does s (spendDeadline s) := by
    unfold spendDeadline; split
    · exact .blocks rfl
    · exact .refl s
  refine Does.trans (t := { s with now := max s.now d, drives := { s.drives with timeoutFlag := true } }) ?_
    ((spent _).trans (.shared (shared_raiseFault _ _)))
  exact Does.trans (t := { s with now := max s.now d }) (.blocks rfl) (.blocks rfl)

theorem does_tailOut (s : State) : Does s (tailOut s) := by
  unfold tailOut; extract_lets _ _ _ t limit
  have ht : Does s t := .blocks rfl
  clear_value limit t
  refine Does.trans ?_ (.shared (shared_drainTest _))
  refine ht.trans (.trans (.shared ⟨kept_dropBeyond limit t, good_dropBeyond limit⟩) ?_)
  exact .kept ((kept_releaseHold _).trans (kept_thenArrive _)) ((tracks_thenArrive _).trans (tracks_releaseHold _))

theorem does_starve (s : State) : Does s (starve s) :=
  Does.trans (t := { s with watches := { s.watches with starve := none } }) (.blocks rfl) (.shared (shared_handControlled _ _))

theorem does_confirmDevice (d : StationInput) (s : State) : Does s (confirmDevice d s) := by
  unfold confirmDevice confirmGate confirmBlade; split
  · exact .ite (.blocks rfl) (.refl s)
  · exact .ite (.blocks rfl) (.refl s)
  · exact .blocks rfl
  · exact .blocks rfl
  · exact .refl s

theorem does_gateTimedOut (s : State) : Does s (gateTimedOut s) := by
  unfold gateTimedOut
  refine Does.trans ?_ (.shared (shared_raiseFault _ _))
  exact .blocks rfl
theorem does_bladeTimedOut (k : Nat) (s : State) : Does s (bladeTimedOut k s) := by
  unfold bladeTimedOut
  refine Does.trans ?_ (.shared (shared_raiseFault _ _))
  exact .blocks rfl
theorem does_knifeTimedOut (s : State) : Does s (knifeTimedOut s) := by
  refine Does.trans ?_ ((Does.kept (kept_stopHoming _) (tracks_stopHoming _)).trans (.shared (shared_raiseFault _ _)))
  exact .ite (.kept (kept_interruptTraverse s) (tracks_interruptTraverse s)) (.refl s)
theorem does_completeHoming (s : State) : Does s (completeHoming s) :=
  (Does.kept (kept_knifeAt .left s) (tracks_knifeAt .left s)).trans (.shared (shared_queueEvent _ _))
theorem does_homeChanged (h : Home) (v : Bool) (s : State) : Does s (homeChanged h v s) :=
  .ite (.ite (.shared (shared_completeStroke s)) (.refl s)) (.ite (.ite (does_completeHoming s) (.refl s)) (.blocks rfl))

end Sys2Proof.Machine
end

section
/-!
What every change that a command makes keeps: the reset's records, the calibration's ranges and orders, the capacities, the panels, the registration and the
Cut Queue.
-/
namespace Sys2Proof.Machine

variable {s t : State}

/-- What no command changes but a reset. -/
theorem Does.reset (h : Does s t) : t.heldBy = s.heldBy ∧ t.driveEnable = s.driveEnable ∧ t.resetOut = s.resetOut := by
  induction h with
  | shared h => exact ⟨h.kept.heldBy, h.kept.driveEnable, h.kept.resetOut⟩
  | trans _ _ ih jh => exact ⟨jh.1.trans ih.1, jh.2.1.trans ih.2.1, jh.2.2.trans ih.2.2⟩
  | blocks h => rw [h]; exact ⟨rfl, rfl, rfl⟩
  | _ => exact ⟨rfl, rfl, rfl⟩

/-! ### Calibration -/

theorem CalSound.congr {s t : State} (h : CalSound s) (cal : t.cal = s.cal) (teach1 : TeachKept s.sensor1 t.sensor1)
    (teach2 : TeachKept s.sensor2 t.sensor2) : CalSound t := by
  obtain ⟨working, store, range, orders, sound1, sound2⟩ := h
  have work (e : CalEntry) : t.work e = s.work e := by unfold State.work; rw [cal]
  exact ⟨cal ▸ working, cal ▸ store, fun e => (work e).symm ▸ range e, cal ▸ orders, teach1 sound1, teach2 sound2⟩

theorem ofIndex_index_eq (e : CalEntry) : CalEntry.ofIndex e.index = some e := by cases e <;> rfl

theorem index_injective {e d : CalEntry} (h : e.index = d.index) : e = d :=
  Option.some.inj ((ofIndex_index_eq e).symm.trans ((congrArg CalEntry.ofIndex h).trans (ofIndex_index_eq d)))

theorem index_lt (e : CalEntry) : e.index < 58 := by cases e <;> decide

theorem work_setWork (e d : CalEntry) (v : Int) (s : State) (h : s.cal.working.length = 58) :
    (setWork e v s).work d = if d = e then v else s.work d := by
  have lt : e.index < s.cal.working.length := h ▸ index_lt e
  show (s.cal.working.set e.index v).getD d.index 0 = _
  rw [List.getD_eq_getElem?_getD]
  split
  · rename_i same
    rw [same, List.getElem?_set_self lt]; rfl
  · rename_i other
    rw [List.getElem?_set_ne fun i => other (index_injective i.symm)]
    exact (List.getD_eq_getElem?_getD).symm

theorem CalSound.setWork {s : State} (h : CalSound s) (e : CalEntry) (v : Int) (range : e.inRange v = true)
    (orders : loopOrders (s.cal.working.set e.index v) = true) : CalSound (setWork e v s) := by
  obtain ⟨working, store, ranges, -, sound1, sound2⟩ := h
  refine ⟨List.length_set.trans working, store, fun d => ?_, orders, sound1, sound2⟩
  rw [work_setWork e d v s working]
  split
  · rename_i same; exact same ▸ range
  · exact ranges d

theorem Does.calSound (h : Does s t) (c : CalSound s) : CalSound t := by
  induction h with
  | shared h => exact c.congr h.kept.cal (.of_eq h.kept.teach1) (.of_eq h.kept.teach2)
  | trans _ _ ih jh => exact jh (ih c)
  | blocks h => rw [h]; exact c.congr rfl (.of_eq rfl) (.of_eq rfl)
  | sensors s a b h g => exact c.congr rfl h g
  | work s e v other good => exact c.setWork e v (good c).1 (good c).2
  | sMax s v new good clamped =>
    refine (c.setWork .sMax v good ?_).congr rfl (.of_eq rfl) (.of_eq rfl)
    rw [loopOrders_set_of_ne (by decide)]
    exact c.2.2.2.1
  | store s k working length =>
    obtain ⟨w, st, range, orders, sound1, sound2⟩ := c
    refine ⟨working ▸ w, length.trans st, fun e => ?_, ?_, sound1, sound2⟩
    · show e.inRange (k.working.getD e.index 0) = true
      rw [working]; exact range e
    · show loopOrders k.working = true
      rw [working]; exact orders
  | _ => exact c.congr rfl (.of_eq rfl) (.of_eq rfl)

/-! ### Capacities -/

theorem Kept.buffer {s t : State} (h : Kept s t) : t.link.buffer = s.link.buffer := by
  have e := congrArg Link.buffer h.receiver
  exact e
theorem Kept.reply {s t : State} (h : Kept s t) : t.link.reply = s.link.reply := by
  have e := congrArg Link.reply h.receiver
  exact e

theorem Does.slotsFit (h : Does s t) (f : SlotsFit s) : SlotsFit t := by
  induction h with
  | shared h =>
    have e := congrArg List.length h.kept.plans
    simp only [List.length_map] at e
    exact e.trans_le f
  | trans _ _ ih jh => exact jh (ih f)
  | blocks h => rw [h]; exact f
  | plan s g l room cuts =>
    show (s.panels ++ [newPanel s.nextSerial g]).length ≤ 48
    rw [List.length_append]; exact room
  | fetched s ps h => exact h.length_le.trans f
  | _ => exact f

theorem Does.linkFits (h : Does s t) (f : LinkFits s) : LinkFits t := by
  induction h with
  | @shared s t h =>
    refine ⟨h.kept.events f.1, h.kept.buffer ▸ f.2.1, fun r => ?_⟩
    rw [h.kept.buffer]
    exact f.2.2 (h.kept.reply ▸ r)
  | trans _ _ ih jh => exact jh (ih f)
  | blocks h => rw [h]; exact f
  | link s l events buffer reply => exact ⟨events.trans f.1, buffer ▸ f.2.1, fun r => by rw [buffer]; exact f.2.2 (reply ▸ r)⟩
  | _ => exact f

theorem Does.buffer (h : Does s t) : t.link.buffer = s.link.buffer := by
  induction h with
  | shared h => exact h.kept.buffer
  | trans _ _ ih jh => exact jh.trans ih
  | blocks h => rw [h]
  | link s l events buffer reply => exact buffer
  | _ => rfl

/-! ### Panels -/

theorem newPanel_sound {f : PlanFields} (h : f.cuts ≠ []) (n : Nat) : (newPanel n f).Sound :=
  ⟨by simp [newPanel], Nat.zero_le _, fun _ => List.length_pos_iff.mpr h, Nat.le_refl 0⟩

theorem Does.panelsSound (h : Does s t) (p : PanelsSound s) : PanelsSound t := by
  induction h with
  | shared h => exact h.kept.panels p
  | trans _ _ ih jh => exact jh (ih p)
  | blocks h => rw [h]; exact p
  | plan s f l room cuts =>
    refine ⟨fun q hq => ?_, ?_⟩
    · rcases List.mem_append.mp hq with old | new
      · exact ⟨(p.1 q old).1, (p.1 q old).2.trans (Nat.lt_succ_self _)⟩
      · rw [List.mem_singleton.mp new]
        exact ⟨newPanel_sound cuts _, Nat.lt_succ_self _⟩
    · show ((s.panels ++ [newPanel s.nextSerial f]).map (·.serial)).Nodup
      rw [List.map_append, List.nodup_append]
      refine ⟨p.2, List.nodup_singleton _, fun a ha b hb => ?_⟩
      obtain ⟨q, hq, rfl⟩ := List.mem_map.mp ha
      have new : b = s.nextSerial := List.mem_singleton.mp hb
      exact (new ▸ (p.1 q hq).2).ne
  | fetched s ps h => exact ⟨fun q hq => p.1 q (h.subset hq), p.2.sublist (h.map _)⟩
  | _ => exact p

/-! ### Registration -/

theorem Does.stretchHeld (h : Does s t) (c : CalSound s) (x : StretchHeld s) : StretchHeld t := by
  induction h with
  | shared h => exact h.kept.stretch x
  | trans h _ ih jh => exact jh (h.calSound c) (ih c x)
  | blocks h => rw [h]; exact x
  | work s e v other good =>
    show -(setWork e v s).work .sMax ≤ s.reg.s ∧ s.reg.s ≤ (setWork e v s).work .sMax
    rw [work_setWork e .sMax v s c.1, if_neg (Ne.symm other)]
    exact x
  | sMax s v new good clamped =>
    have range : (1000 : Int) ≤ v := of_decide_eq_true (Bool.and_eq_true_iff.mp good).1
    have work := work_setWork .sMax .sMax v s c.1
    rw [if_pos rfl] at work
    subst clamped
    show -(setWork .sMax v s).work .sMax ≤ clampInt _ _ s.reg.s ∧ clampInt _ _ s.reg.s ≤ (setWork .sMax v s).work .sMax
    rw [work]
    exact clampInt_bounds (by omega) _
  | store s k working length =>
    show -(k.working.getD CalEntry.sMax.index 0) ≤ s.reg.s ∧ s.reg.s ≤ k.working.getD CalEntry.sMax.index 0
    rw [working]; exact x
  | _ => exact x

theorem Does.pointsOrdered (h : Does s t) (x : PointsOrdered s) : PointsOrdered t := by
  induction h with
  | shared h => exact h.kept.points x
  | trans _ _ ih jh => exact jh (ih x)
  | blocks h => rw [h]; exact x
  | _ => exact x

/-! ### The Cut Queue -/

theorem Does.queueAscending (h : Does s t) (x : QueueAscending s) : QueueAscending t := by
  induction h with
  | shared h => exact h.kept.queue x
  | trans _ _ ih jh => exact jh (ih x)
  | blocks h => rw [h]; exact x
  | _ => exact x

theorem CalSound.apart (h : CalSound s) : 0 < s.work .cutMinSep := by
  have range : (CalEntry.cutMinSep.row.lo : Int) ≤ s.work .cutMinSep := of_decide_eq_true (Bool.and_eq_true_iff.mp (h.2.2.1 .cutMinSep)).1
  exact lt_of_lt_of_le (by decide) range

theorem Does.queueGood (h : Does s t) (c : CalSound s) (p : PanelsSound s) (g : QueueGood s) : QueueGood t := by
  induction h with
  | shared h => exact h.good g
  | trans h _ ih jh => exact jh (h.calSound c) (h.panelsSound p) (ih c p g)
  | blocks h => rw [h]; exact g.of_tracks rfl
  | plan s f l room cuts =>
    have does : Does s _ := .plan s f l room cuts
    refine { apart := g.apart, serials := (does.panelsSound p).2, room := fun q hq ts hts => ?_, ascending := g.ascending, fits := g.fits }
    rcases List.mem_append.mp hq with old | new
    · exact g.room q old ts hts
    · rw [List.mem_singleton.mp new] at hts
      cases hts
  | fetched s ps h =>
    exact { apart := g.apart, serials := g.serials.sublist (h.map _), room := fun q hq => g.room q (h.subset hq), ascending := g.ascending, fits := g.fits }
  | work s e v other good =>
    exact { g with apart := (CalSound.apart (c.setWork e v (good c).1 (good c).2)) }
  | sMax s v new good clamped =>
    have does : Does s _ := .sMax s v new good clamped
    exact { g with apart := (does.calSound c).apart }
  | store s k working length =>
    have does : Does s _ := .store s k working length
    exact { g with apart := (does.calSound c).apart }
  | _ => exact g.of_tracks rfl

end Sys2Proof.Machine
end

section
/-!
How a command comes to its end: by an event brought to its end, by a reply, on the link alone, or in a reset. `exec_acts` says so of every command.
-/
namespace Sys2Proof.Machine

/-- Only the link has changed, and neither ATTN nor what it depends on. -/
structure OnLink (s t : State) : Prop where
  rest : t = { s with link := t.link }
  events : t.link.events = s.link.events
  mask : t.link.mask = s.link.mask
  attn : t.link.attn = s.link.attn
  fits : LinkFits s → LinkFits t

theorem OnLink.refl (s : State) : OnLink s s := ⟨rfl, rfl, rfl, rfl, id⟩
theorem OnLink.trans {s t u : State} (h : OnLink s t) (g : OnLink t u) : OnLink s u where
  rest := by rw [g.rest, h.rest]
  events := g.events.trans h.events
  mask := g.mask.trans h.mask
  attn := g.attn.trans h.attn
  fits := g.fits ∘ h.fits

/-- How a command leaves the state it is taken in. -/
inductive Acts (s : State) : State → Prop where
  | still : Acts s s
  | link {t : State} (h : OnLink s t) : Acts s t
  | ends {u : State} (running : s.inReset = false) (h : Does s u) : Acts s (finish s u)
  | answered {x u : State} (r : Reply) (running : s.inReset = false) (on : OnLink s x) (frame : x.link.buffer ≠ []) (h : Does x u) :
      Acts s (setReply r (finish x u))
  | level (i : Inputs) (held : s.inReset = true) : Acts s { s with inputs := i }
  | reset (k : ResetKind) (c : List ResetKind) (x : Straps) : Acts s (beginReset k { s with causes := c, straps := x })
  | goes (ks : List ResetKind) (held : s.inReset = true) (left : ks ≠ []) : Acts s { s with heldBy := ks }
  | starts : Acts s (startUp s)

/-! ### Events -/

theorem acts_event {f : State → State} (s : State) (h : Does s (f s)) : Acts s (event f s) := by
  unfold event; split
  · exact .still
  · rename_i running; exact .ends (Bool.eq_false_iff.mpr running) h

theorem acts_timerEvent {f : State → State} (h : ∀ s, Does s (f s)) (o : Option Timer) (s : State) : Acts s (timerEvent o f s) := by
  cases o with
  | none => exact .still
  | some x =>
    have does : Does s (f (reachTime x.start x.limit s)) := (does_reachTime x.start x.limit s).trans (h _)
    exact acts_event (f := fun s => f (reachTime x.start x.limit s)) s does

theorem acts_inputEvent {f : State → State} (h : ∀ s, Does s (f s)) (level : Inputs → Inputs) (s : State) : Acts s (inputEvent level f s) := by
  unfold inputEvent; dsimp only; split
  · rename_i held; exact .level _ held
  · rename_i running
    have levelled : Does s { s with inputs := level s.inputs } := .blocks rfl
    exact .ends (Bool.eq_false_iff.mpr running) (levelled.trans (h _))

theorem does_choice {c : Prop} [Decidable c] {f g : State → State} (hf : ∀ s, Does s (f s)) (hg : ∀ s, Does s (g s)) (s : State) :
    Does s ((if c then f else g) s) := by
  split
  · exact hf s
  · exact hg s

/-- An event that is taken only where a watch has fired, or where its command acts at all. -/
theorem Acts.ite {s t : State} {c : Prop} [Decidable c] (h : Acts s t) : Acts s (if c then t else s) := by
  split
  · exact h
  · exact .still

/-! ### The link -/

theorem onLink_bufferFrame (f : Frame) (s : State) : OnLink s (bufferFrame f s) := by
  unfold bufferFrame; split
  · rename_i room
    refine ⟨rfl, rfl, rfl, rfl, fun ⟨events, _, _⟩ => ⟨events, ?_, fun _ => by simp⟩⟩
    simp only [List.length_append, List.length_singleton]; omega
  · exact ⟨rfl, rfl, rfl, rfl, id⟩

theorem onLink_arrives (f : Frame) (s : State) : OnLink s (arrives f s) := by
  unfold arrives; split
  · exact onLink_bufferFrame f s
  · exact .refl s

theorem onLink_setReply (r : Reply) {s : State} (frame : s.link.buffer ≠ []) : OnLink s (setReply r s) :=
  ⟨rfl, rfl, rfl, rfl, fun ⟨events, buffer, _⟩ => ⟨events, buffer, fun _ => frame⟩⟩

theorem onLink_setRx (r : Rx) (s : State) : OnLink s (setRx r s) := ⟨rfl, rfl, rfl, rfl, id⟩
theorem onLink_discardFraming (s : State) : OnLink s (discardFraming s) := ⟨rfl, rfl, rfl, rfl, id⟩

theorem onLink_crcTest (n : Nat) (got crc : List Byte) (s : State) : OnLink s (crcTest n got crc s) := by
  unfold crcTest; dsimp only; split
  · split
    · exact (onLink_setRx .hunt s).trans (onLink_bufferFrame _ _)
    · exact onLink_setRx .hunt s
  · exact (onLink_setRx .hunt s).trans ⟨rfl, rfl, rfl, rfl, id⟩

theorem onLink_receiveByte (b : RxByte) (s : State) : OnLink s (receiveByte b s) := by
  unfold receiveByte; dsimp only; split
  · exact onLink_discardFraming s
  · split
    case h_1 => split; exacts [onLink_setRx _ s, .refl s]
    case h_2 => split; exacts [onLink_setRx _ s, onLink_discardFraming s]
    case h_3 => split; exacts [onLink_setRx _ s, onLink_setRx _ s]
    case h_4 => split; exacts [onLink_setRx _ s, onLink_crcTest _ _ _ s]

theorem onLink_receive (bs : List RxByte) (s : State) : OnLink s (bs.foldl (fun s b => receiveByte b s) s) := by
  induction bs generalizing s with
  | nil => exact .refl s
  | cons b bs ih => exact (onLink_receiveByte b s).trans (ih _)

theorem onLink_replySent (s : State) :
    OnLink s { s with link := { s.link with reply := none, buffer := s.link.buffer.tail } } := by
  refine ⟨rfl, rfl, rfl, rfl, fun ⟨events, buffer, _⟩ => ⟨events, ?_, nofun⟩⟩
  simp only [List.length_tail]; omega

/-! ### Requests -/

/-- A request's own act does, where it is taken, what commands do. -/
def Taken (act : State → Answer) : Prop := ∀ s, (act s).status.taken = true → Does s (act s).next

theorem taken_refuse (st : Status) : Taken (refuse st) := fun s _ => .refl s
theorem taken_accept {f : State → State} (h : ∀ s, Does s (f s)) : Taken (fun s => accept (f s)) := fun s _ => h s

theorem taken_lineAccept {s t : State} (h : Does s t) : (lineAccept t).status.taken = true → Does s (lineAccept t).next := fun _ => h

theorem taken_checked {act : State → Answer} (h : Taken act) (fits unsynced : Bool) : Taken (checked fits unsynced act) := by
  intro s; unfold checked; split
  · exact taken_refuse _ s
  · split
    · exact taken_refuse _ s
    · exact h s

theorem acts_serve {act : State → Answer} (h : Taken act) (f : Frame) {s x : State} (running : s.inReset = false) (on : OnLink s x)
    (frame : x.link.buffer ≠ []) : Acts s (serve f act x) := by
  unfold serve; dsimp only; split
  · rename_i taken; exact .answered _ running on frame (h x taken)
  · exact .link (on.trans (onLink_setReply _ frame))

theorem acts_takeRequest {act : State → Answer} (h : Taken act) (f : Frame) (s : State) : Acts s (takeRequest f act s) := by
  unfold takeRequest; split
  · exact .still
  · rename_i held
    have running : s.inReset = false := Bool.eq_false_iff.mpr held
    split
    · rename_i none empty
      refine .ite (acts_serve h f running (onLink_bufferFrame f s) ?_)
      unfold bufferFrame; simp [empty]
    · rename_i g rest none waiting
      split
      · exact acts_serve h f running (.refl s) (by simp [waiting])
      · exact .link (onLink_arrives f s)
    · exact .link (onLink_arrives f s)

theorem acts_request {act : State → Answer} (h : Taken act) (k tag : Byte) (p : List Byte) (n : Nat) (u : Bool) (s : State) :
    Acts s (request k tag p n u act s) := acts_takeRequest (taken_checked h _ u) _ s

theorem taken_sync : Taken syncAct := fun s _ => by
  have link : Does s { s with link := { s.link with synced := true } } := .link s _ le_rfl rfl rfl
  exact link.trans (.blocks rfl)

theorem taken_status (n : Nat) : Taken (statusAct n) := fun s => by
  unfold statusAct; split
  · exact taken_refuse _ s
  · exact fun _ => .ite (.link s _ le_rfl rfl rfl) (.refl s)

theorem taken_setAttention (n : Nat) : Taken (setAttentionAct n) := fun s => by
  unfold setAttentionAct; split
  · exact taken_refuse _ s
  · exact fun _ => .link s _ le_rfl rfl rfl

theorem taken_fetchEvents (n : Nat) : Taken (fetchEventsAct n) := fun s => by
  unfold fetchEventsAct; split
  · exact taken_refuse _ s
  · exact fun _ => .link s _ (by simp) rfl rfl

theorem taken_fetchDone (n : Nat) : Taken (fetchDoneAct n) := fun s => by
  unfold fetchDoneAct; split
  · exact taken_refuse _ s
  · exact fun _ => does_freeFetched n s

theorem cuts_ne_nil_of_good {s : State} {f : PlanFields} (h : planDetail s f = none) : f.cuts ≠ [] := by
  intro empty
  have bad : cutsGood f.lNom f.cuts = false := by rw [empty]; rfl
  unfold planDetail at h
  split at h; cases h
  split at h; cases h
  split at h; cases h
  cases h

theorem taken_plan (f : PlanFields) : Taken (planAct f) := fun s => by
  unfold planAct; split
  · exact taken_refuse _ s
  · rename_i credits
    split
    · exact taken_refuse _ s
    · split
      · exact fun _ => .refl s
      · rename_i good
        refine fun _ => does_acceptPlan f s ?_ (cuts_ne_nil_of_good good)
        unfold State.credits at credits; omega

theorem taken_cancel (id : PanelId) : Taken (cancelAct id) := fun s => by
  unfold cancelAct; split
  · exact taken_refuse _ s
  · split
    · exact taken_refuse _ s
    · exact fun _ => .kept (kept_raiseFlag _ _ s) (tracks_raiseFlag _ _ s)

theorem taken_query (id : PanelId) : Taken (queryAct id) := fun s => by
  unfold queryAct; split
  · exact taken_refuse _ s
  · exact fun _ => .refl s

theorem taken_thread : Taken threadAct := fun s => by
  unfold threadAct; repeat' split
  · exact taken_lineAccept (does_threadLine s)
  · exact taken_refuse _ s
  · exact taken_refuse _ s

theorem taken_run : Taken runAct := fun s => by
  unfold runAct; split
  · exact taken_lineAccept (does_runLine s)
  · exact taken_refuse _ s

theorem taken_hold : Taken holdAct := fun s => by
  unfold holdAct; split
  · exact taken_lineAccept (.shared (shared_handControlled .hold s))
  · exact taken_refuse _ s

theorem taken_clear : Taken clearAct := fun s => by
  unfold clearAct; split
  · exact taken_lineAccept (does_clearLine s)
  · exact taken_refuse _ s

theorem taken_resume : Taken resumeAct := fun s => by
  unfold resumeAct; repeat' split
  · exact taken_refuse _ s
  · exact taken_lineAccept (does_resumeLine s)
  · exact taken_refuse _ s
  · exact taken_lineAccept (does_resumeLine s)
  · exact taken_lineAccept (does_setLine _ s)
  · exact taken_refuse _ s

theorem taken_homeKnife : Taken homeKnifeAct := fun s => by
  unfold homeKnifeAct; repeat' split
  · exact taken_refuse _ s
  · exact taken_refuse _ s
  · exact fun _ => does_homeKnifeLine s

theorem taken_teach (n : Nat) : Taken (teachAct n) := fun s => by
  unfold teachAct; repeat' split
  · exact taken_refuse _ s
  · exact taken_refuse _ s
  · exact fun _ => does_startTeach _ s

theorem taken_setHeat (v : Nat) : Taken (setHeatAct v) := fun s => by
  unfold setHeatAct; split
  · split
    · exact fun _ => .refl s
    · exact taken_refuse _ s
  · exact fun _ => does_acceptHeat _ s

theorem does_setRegister (l : LockMode) (c : Choice) (s : State) : Does s (setRegister l c s) :=
  .kept (kept_setRegister l c s) (tracks_setRegister l c s)

theorem taken_setRegister (lock choice : Nat) : Taken (setRegisterAct lock choice) := fun s => by
  unfold setRegisterAct; split
  · exact fun _ => does_setRegister _ _ s
  · exact fun _ => does_setRegister _ _ s
  · exact taken_refuse _ s

theorem taken_calRead (i : Nat) : Taken (calReadAct i) := fun s => by
  unfold calReadAct; split
  · exact taken_refuse _ s
  · exact fun _ => .refl s

theorem taken_calWrite (i : Nat) (v : Int) : Taken (calWriteAct i v) := fun s => by
  unfold calWriteAct; split
  · exact taken_refuse _ s
  · rename_i e _
    split
    · exact taken_refuse _ s
    · split
      · exact taken_refuse _ s
      · split
        · exact taken_refuse _ s
        · rename_i range
          split
          · exact taken_refuse _ s
          · rename_i orders
            refine fun _ => does_beginWrite (by simpa using range) fun loop => ?_
            by_contra broken
            exact orders ⟨loop, broken⟩

/-! ### Every command -/

theorem acts_beginReset (k : ResetKind) (c : List ResetKind) (s : State) : Acts s (beginReset k { s with causes := c }) :=
  .reset k c s.straps

theorem acts_endHold (s : State) : Acts s (endHold s) := by
  unfold endHold; split
  · rename_i k next
    dsimp only; split
    · exact .starts
    · rename_i left
      refine .goes _ ?_ left
      unfold State.inReset
      rcases h : s.heldBy with _ | ⟨j, js⟩
      · rw [h] at left; exact absurd rfl left
      · rfl
  · exact .still

/-- Every command comes to its end in one of the ways of `Acts`. -/
theorem exec_acts (i : Instr) (s : State) : ∃ t, exec i s = .next t ∧ Acts s t := by
  cases i with
  | sync tag p => exact ⟨_, rfl, acts_request taken_sync ..⟩
  | status tag p => exact ⟨_, rfl, acts_request (taken_status _) ..⟩
  | setAttention tag p => exact ⟨_, rfl, acts_request (taken_setAttention _) ..⟩
  | fetchEvents tag p => exact ⟨_, rfl, acts_request (taken_fetchEvents _) ..⟩
  | fetchDone tag p => exact ⟨_, rfl, acts_request (taken_fetchDone _) ..⟩
  | plan tag p => exact ⟨_, rfl, acts_takeRequest (taken_checked (taken_plan _) _ _) _ s⟩
  | cancel tag p => exact ⟨_, rfl, acts_request (taken_cancel _) ..⟩
  | query tag p => exact ⟨_, rfl, acts_request (taken_query _) ..⟩
  | thread tag p => exact ⟨_, rfl, acts_request taken_thread ..⟩
  | run tag p => exact ⟨_, rfl, acts_request taken_run ..⟩
  | hold tag p => exact ⟨_, rfl, acts_request taken_hold ..⟩
  | clear tag p => exact ⟨_, rfl, acts_request taken_clear ..⟩
  | resume tag p => exact ⟨_, rfl, acts_request taken_resume ..⟩
  | homeKnife tag p => exact ⟨_, rfl, acts_request taken_homeKnife ..⟩
  | teach tag p => exact ⟨_, rfl, acts_request (taken_teach _) ..⟩
  | setSpeed tag p => exact ⟨_, rfl, acts_request (fun s _ => does_setSpeed _ s) ..⟩
  | setHeat tag p => exact ⟨_, rfl, acts_request (taken_setHeat _) ..⟩
  | setRegister tag p => exact ⟨_, rfl, acts_request (taken_setRegister _ _) ..⟩
  | calRead tag p => exact ⟨_, rfl, acts_request (taken_calRead _) ..⟩
  | calWrite tag p => exact ⟨_, rfl, acts_request (taken_calWrite _ _) ..⟩
  | unknownRequestKind k tag p =>
    refine ⟨_, rfl, ?_⟩
    split
    · exact .still
    · exact acts_takeRequest (taken_refuse _) _ s
  | frameReceived bs => exact ⟨_, rfl, .ite (.link (onLink_receive bs s))⟩
  | frameGap =>
    refine ⟨_, rfl, ?_⟩
    split
    · exact .still
    · exact .link (onLink_discardFraming s)
  | replySent =>
    refine ⟨_, rfl, ?_⟩
    split
    · exact .link (onLink_replySent s)
    · exact .still
  | powerOn b l r => exact ⟨_, rfl, .reset _ _ _⟩
  | resetPin => exact ⟨_, rfl, acts_beginReset ..⟩
  | linkBreak => exact ⟨_, rfl, .ite (acts_beginReset ..)⟩
  | supplyLow =>
    refine ⟨_, rfl, ?_⟩
    split
    · exact .still
    · exact acts_beginReset ..
  | resetEnd => exact ⟨_, rfl, acts_endHold s⟩
  | encoderStep r a b => exact ⟨_, rfl, acts_inputEvent (does_transition r _ _) _ s⟩
  | barLeadingEdge sn => exact ⟨_, rfl, acts_inputEvent (does_choice .refl (does_leadingEdge sn)) _ s⟩
  | barTrailingEdge sn => exact ⟨_, rfl, acts_inputEvent (does_choice (does_trailingEdge sn) .refl) _ s⟩
  | barMaxExceeded sn => exact ⟨_, rfl, .ite (acts_event s (does_exceedBar sn s))⟩
  | m1WindowExpiry => exact ⟨_, rfl, .ite (acts_event s (.shared ⟨kept_expireM1 s, good_expireM1⟩))⟩
  | spliceHoldRelease => exact ⟨_, rfl, .ite (acts_event s (.shared ⟨kept_releaseHold1 s, good_releaseHold1⟩))⟩
  | printSplice => exact ⟨_, rfl, acts_inputEvent (does_choice .refl does_takeSplice) _ s⟩
  | webEndReport => exact ⟨_, rfl, acts_inputEvent (does_choice does_reportWebEnd .refl) _ s⟩
  | teachSpanReached sn => exact ⟨_, rfl, .ite (acts_event s (does_completeTeach sn s))⟩
  | teachTimeout sn =>
    refine ⟨_, rfl, ?_⟩
    split
    · exact acts_event s ((does_reachTime _ _ s).trans (does_endTeach _ _ _))
    · exact .still
  | m2WindowExpiry => exact ⟨_, rfl, .ite (acts_event s (.shared ⟨kept_expireM2 s, good_expireM2⟩))⟩
  | conversionComplete r => exact ⟨_, rfl, acts_event s (does_convert (Nat.le_of_lt_succ r.isLt) s)⟩
  | settleTimer => exact ⟨_, rfl, acts_timerEvent (fun s => .blocks rfl) _ s⟩
  | idleTimer => exact ⟨_, rfl, acts_timerEvent (fun s => .blocks rfl) _ s⟩
  | dwellMark =>
    refine ⟨_, rfl, ?_⟩
    split
    · exact .ite (acts_event s ((does_reachTime _ _ s).trans (does_markDwell _)))
    · exact .still
  | dwellMax =>
    refine ⟨_, rfl, ?_⟩
    split
    · exact acts_event s ((does_reachTime _ _ s).trans (.shared (shared_commandOpen _)))
    · exact .still
  | nipTimeout => exact ⟨_, rfl, acts_timerEvent does_nipTimedOut _ s⟩
  | nipConfirm i => exact ⟨_, rfl, acts_inputEvent (does_ifFitted fun s => .kept (kept_confirmNip s) (tracks_confirmNip s)) _ s⟩
  | nipConfirmLost i => exact ⟨_, rfl, acts_inputEvent (does_ifFitted (does_springNip i)) _ s⟩
  | filmSplice => exact ⟨_, rfl, acts_inputEvent (does_choice .refl (does_ifFitted does_takeFilmSplice)) _ s⟩
  | filmOut => exact ⟨_, rfl, acts_inputEvent (does_choice (does_ifFitted fun s => .shared (shared_handControlled _ s)) .refl) _ s⟩
  | stackFull => exact ⟨_, rfl, acts_inputEvent (does_choice .refl (does_handCycleEnd _)) _ s⟩
  | eStop => exact ⟨_, rfl, acts_inputEvent (does_choice .refl fun s => .kept (kept_enterEStop s) (tracks_enterEStop s)) _ s⟩
  | inDrive => exact ⟨_, rfl, acts_inputEvent (does_choice .refl fun s => .shared (shared_raiseFault _ s)) _ s⟩
  | outDrive => exact ⟨_, rfl, acts_inputEvent (does_choice .refl fun s => .shared (shared_raiseFault _ s)) _ s⟩
  | moveEnded => exact ⟨_, rfl, acts_event s (does_moveReported s)⟩
  | moveTimeout =>
    refine ⟨_, rfl, ?_⟩
    split
    · exact acts_event s (does_moveTimedOut _ s)
    · exact .still
  | tailOut => exact ⟨_, rfl, .ite (acts_event s (does_tailOut s))⟩
  | planStarved => exact ⟨_, rfl, .ite (acts_event s (does_starve s))⟩
  | deviceConfirm d a => exact ⟨_, rfl, acts_inputEvent (does_choice (does_confirmDevice d) .refl) _ s⟩
  | gateTimeout => exact ⟨_, rfl, acts_timerEvent does_gateTimedOut _ s⟩
  | bladeTimeout k => exact ⟨_, rfl, acts_timerEvent (does_bladeTimedOut k) _ s⟩
  | strokeComplete => exact ⟨_, rfl, .ite (acts_inputEvent (fun s => .shared (shared_completeStroke s)) _ s)⟩
  | knifeTimeout => exact ⟨_, rfl, acts_timerEvent does_knifeTimedOut _ s⟩
  | homingComplete => exact ⟨_, rfl, .ite (acts_inputEvent does_completeHoming _ s)⟩
  | homeSwitchChange h a => exact ⟨_, rfl, acts_inputEvent (does_choice .refl (does_homeChanged h a)) _ s⟩
  | calWriteComplete => exact ⟨_, rfl, acts_event s (does_completeWrite s)⟩
  | eStopRelease => exact ⟨_, rfl, acts_inputEvent .refl _ s⟩
  | inDriveClear => exact ⟨_, rfl, acts_inputEvent .refl _ s⟩
  | outDriveClear => exact ⟨_, rfl, acts_inputEvent .refl _ s⟩
  | filmOutClear => exact ⟨_, rfl, acts_inputEvent .refl _ s⟩
  | stackFullClear => exact ⟨_, rfl, acts_inputEvent .refl _ s⟩
  | webPresent => exact ⟨_, rfl, acts_inputEvent .refl _ s⟩
  | spliceInputClear => exact ⟨_, rfl, acts_inputEvent .refl _ s⟩
  | filmSpliceClear => exact ⟨_, rfl, acts_inputEvent .refl _ s⟩
  | receiveLineMark =>
    refine ⟨_, rfl, ?_⟩
    split
    · exact .still
    · exact .link ⟨rfl, rfl, rfl, rfl, id⟩

end Sys2Proof.Machine
end

section
/-!
The invariants of every step: the levels (R136, R196, R209), the capacities (R2, R188, R195), the calibration (R203 to R207), the registration (R76, R82) and the
Cut Queue (R95, R97).
-/
namespace Sys2Proof.Machine

/-! ### The blocks after a reset -/

/-- Every block of `u` has its value for after a reset, and the calibration of `u` is as sound as that of `s`. -/
structure Fresh (s u : State) : Prop where
  blocks : u = freshBlocks u
  cal : CalSound s → CalSound u

theorem fresh_beginReset (k : ResetKind) (s : State) : Fresh s (beginReset k s) := by
  refine ⟨rfl, fun ⟨working, store, range, orders, _, _⟩ => ?_⟩
  have cut : (cutWrite s).cal.working = s.cal.working ∧ (cutWrite s).cal.store.length = s.cal.store.length := by
    unfold cutWrite; split
    · exact ⟨rfl, List.length_modify _ _ _⟩
    · exact ⟨rfl, rfl⟩
  have work (e : CalEntry) : (beginReset k s).work e = s.work e := congrArg (·.getD e.index 0) cut.1
  refine ⟨cut.1 ▸ working, cut.2.trans store, fun e => (work e).symm ▸ range e, ?_, nofun, nofun⟩
  show loopOrders (cutWrite s).cal.working = true
  rw [cut.1]; exact orders

/-- What a start makes of the state before its line is started (R204, R210). -/
def readied (s : State) : State := freshBlocks { s with cal := loadCal s.cal, heldBy := [], driveEnable := true, resetOut := false }

theorem startUp_eq (s : State) : startUp s = finish (readied s) (startLine (readied s)) := rfl

theorem does_startLine (s : State) : Does s (startLine s) := .ite (.kept (kept_enterEStop s) (tracks_enterEStop s)) (.refl s)

theorem default_inRange (e : CalEntry) : e.inRange e.row.default = true := by cases e <;> decide

theorem loadValue_inRange (x : CalEntry × StoredEntry) : x.1.inRange (loadValue x) = true := by
  unfold loadValue goodEntry; split
  · rename_i good; exact (Bool.and_eq_true_iff.mp good).2
  · exact default_inRange x.1

theorem calEntries_getElem (e : CalEntry) : calEntries[e.index]? = some e := by cases e <;> rfl

/-- A working copy by entries: each value in the range of the entry of its number. -/
def AllInRange (w : List Int) : Prop := w.length = 58 ∧ ∀ e : CalEntry, e.inRange (w.getD e.index 0) = true

theorem loaded_allInRange {store : List StoredEntry} (h : store.length = 58) : AllInRange ((withStore store).map loadValue) := by
  have zipped : (withStore store).length = 58 := by
    unfold withStore
    rw [List.length_zip, h]; decide
  refine ⟨by rw [List.length_map, zipped], fun e => ?_⟩
  have lt : e.index < store.length := h ▸ index_lt e
  have pair : (withStore store)[e.index]? = some (e, store[e.index]) := by
    unfold withStore
    rw [List.getElem?_zip_eq_some]
    exact ⟨calEntries_getElem e, List.getElem?_eq_getElem lt⟩
  rw [List.getD_eq_getElem?_getD, List.getElem?_map, pair]
  exact loadValue_inRange _

theorem calDefaults_getD (e : CalEntry) : calDefaults.getD e.index 0 = e.row.default := by cases e <;> rfl

theorem defaultLoops_getD {w : List Int} (h : w.length = 58) (e : CalEntry) :
    (defaultLoops w).getD e.index 0 = if isLoopEntry e then e.row.default else w.getD e.index 0 := by
  have lt : e.index < w.length := h ▸ index_lt e
  unfold defaultLoops
  rw [List.getD_eq_getElem?_getD, List.getElem?_map, List.getElem?_zipIdx, List.getElem?_eq_getElem lt]
  simp only [Option.map_some, Option.getD_some, Nat.zero_add, calDefaults_getD, isLoopEntry, decide_eq_true_eq, List.getD_eq_getElem _ _ lt]

theorem defaultLoops_allInRange {w : List Int} (h : AllInRange w) : AllInRange (defaultLoops w) := by
  refine ⟨by unfold defaultLoops; rw [List.length_map, List.length_zipIdx, h.1], fun e => ?_⟩
  rw [defaultLoops_getD h.1]
  split
  · exact default_inRange e
  · exact h.2 e

theorem defaultLoops_orders {w : List Int} (h : w.length = 58) : loopOrders (defaultLoops w) = true := by
  have v (e : CalEntry) (l : isLoopEntry e = true) : (defaultLoops w).getD e.index 0 = e.row.default := by rw [defaultLoops_getD h, if_pos l]
  simp only [loopOrders, v .loopAt0 rfl, v .loopAt1023 rfl, v .loopEmptyBelow rfl, v .loopNormalFrom rfl, v .loopHighFrom rfl, v .loopFullFrom rfl]
  decide

theorem fresh_readied (s : State) : Fresh s (readied s) := by
  refine ⟨rfl, fun ⟨_, store, _, _, _, _⟩ => ?_⟩
  have loaded := loaded_allInRange store
  have sound : AllInRange (loadCal s.cal).working ∧ loopOrders (loadCal s.cal).working = true := by
    unfold loadCal; dsimp only; split
    · exact ⟨defaultLoops_allInRange loaded, defaultLoops_orders loaded.1⟩
    · rename_i kept
      exact ⟨loaded, by simpa using kept⟩
  exact ⟨sound.1.1, store, sound.1.2, sound.2, nofun, nofun⟩

theorem Fresh.stretchHeld {s u : State} (h : Fresh s u) (c : CalSound s) : StretchHeld u := by
  have range : (1000 : Int) ≤ u.work .sMax := of_decide_eq_true (Bool.and_eq_true_iff.mp ((h.cal c).2.2.1 .sMax)).1
  have s0 : u.reg.s = clampInt (-(u.work .sMax)) (u.work .sMax) (u.work .sInit) := by
    have e := congrArg (fun x : State => x.reg.s) h.blocks
    exact e
  unfold StretchHeld
  rw [s0]
  exact clampInt_bounds (by omega) _

theorem Fresh.panels {s u : State} (h : Fresh s u) : u.panels = [] := congrArg State.panels h.blocks
theorem Fresh.queue {s u : State} (h : Fresh s u) : u.planner.queue = [] := congrArg (·.planner.queue) h.blocks

theorem Fresh.panelsSound {s u : State} (h : Fresh s u) : PanelsSound u := by
  unfold PanelsSound; rw [h.panels]
  exact ⟨fun p hp => absurd hp List.not_mem_nil, List.nodup_nil⟩

theorem Fresh.queueGood {s u : State} (h : Fresh s u) (apart : 0 < u.work .cutMinSep) : QueueGood u where
  apart := apart
  serials := by rw [h.panels]; exact List.nodup_nil
  room := fun p hp => by rw [h.panels] at hp; exact absurd hp List.not_mem_nil
  ascending := h.queue.symm ▸ List.Pairwise.nil
  fits := by rw [h.queue]; exact Nat.zero_le _

/-! ### One principle for the invariants -/

/-- What every change of a command keeps, and what holds of the blocks after a reset, is kept by every step. -/
theorem step_keeps {P : State → Prop} (does : ∀ s t, Does s t → P s → P t) (link : ∀ s t, OnLink s t → P s → P t)
    (held : ∀ s ks, P s → P { s with heldBy := ks }) (fresh : ∀ s u, Fresh s u → P s → P u) {s t : State} (h : step s = .next t)
    (p : P s) : P t := by
  have acts {s t : State} (a : Acts s t) (p : P s) : P t := by
    cases a with
    | still => exact p
    | link h => exact link _ _ h p
    | ends running h => exact does _ _ (h.trans (.shared (shared_finish _ _))) p
    | @answered x u r running on frame h =>
      have done := h.trans (.shared (shared_finish x u))
      refine link _ _ (onLink_setReply r ?_) (does _ _ done (link _ _ on p))
      rw [done.buffer]; exact frame
    | level i held => exact does _ _ (.blocks rfl) p
    | reset k c x =>
      have caused : P { s with causes := c } := does _ _ (.blocks rfl) p
      refine fresh _ _ ⟨rfl, fun sound => ?_⟩ caused
      exact (fresh_beginReset k { s with causes := c, straps := x }).cal (sound.congr rfl (.of_eq rfl) (.of_eq rfl))
    | goes ks _ _ => exact held _ ks p
    | starts => exact does _ _ ((does_startLine _).trans (.shared (shared_finish _ _))) (fresh _ _ (fresh_readied s) p)
  unfold step at h
  split at h
  · cases h
    exact does s _ (.blocks rfl) p
  · rename_i c cs _
    obtain ⟨u, e, a⟩ := exec_acts c { s with pending := cs }
    rw [e] at h
    cases h
    exact acts a (does s _ (.blocks rfl) p)

theorem onLink_calSound {s t : State} (h : OnLink s t) (c : CalSound s) : CalSound t := by
  rw [h.rest]; exact c.congr rfl (.of_eq rfl) (.of_eq rfl)

/-! ### The obligations -/

/-- Settles O60: the working copy is written only in range and in order (R206, R63), and loaded so (R204). -/
theorem calSoundKept : Obligations.CalSoundKept := fun _ _ c h =>
  step_keeps (P := CalSound) (fun _ _ d => d.calSound) (fun _ _ => onLink_calSound) (fun _ _ c => c.congr rfl (.of_eq rfl) (.of_eq rfl))
    (fun _ _ f => f.cal) h c

/-- Settles O56: a place is taken only where there is one. -/
theorem capacitiesKept : Obligations.CapacitiesKept := fun _ _ l p h => by
  refine step_keeps (P := fun s => LinkFits s ∧ SlotsFit s) (fun _ _ d f => ⟨d.linkFits f.1, d.slotsFit f.2⟩) (fun s t on f => ⟨on.fits f.1, ?_⟩)
    (fun _ _ f => f) (fun s u f _ => ?_) h ⟨l, p⟩
  · rw [on.rest]; exact f.2
  · rw [f.blocks]
    exact ⟨⟨Nat.zero_le _, Nat.zero_le _, nofun⟩, Nat.zero_le _⟩

/-- Settles O58: the stretch is clamped wherever it or S_MAX changes, and a point of the Disturbance List is inserted at its place or lost. -/
theorem registrationKept : Obligations.RegistrationKept := fun _ _ c x p h => by
  have kept := step_keeps (P := fun s => CalSound s ∧ StretchHeld s ∧ PointsOrdered s)
    (fun _ _ d f => ⟨d.calSound f.1, d.stretchHeld f.1 f.2.1, d.pointsOrdered f.2.2⟩) (fun s t on f => ⟨onLink_calSound on f.1, ?_⟩)
    (fun _ _ f => ⟨f.1.congr rfl (.of_eq rfl) (.of_eq rfl), f.2⟩) (fun s u f g => ⟨f.cal g.1, f.stretchHeld g.1, ?_⟩) h ⟨c, x, p⟩
  · exact kept.2
  · rw [on.rest]; exact f.2
  · rw [f.blocks]; exact ⟨Nat.zero_le _, List.Pairwise.nil⟩

theorem queueGood_of_sound {s : State} (c : CalSound s) (p : PanelsSound s) (n : PiecesCounted s) (q : QueueStrict s) : QueueGood s where
  apart := c.apart
  serials := p.2
  room := fun p hp => (n.1 p hp).2.1
  ascending := q.1
  fits := q.2

/-- Settles O59: an entry goes to the place its trigger gives it, with CUT_MIN_SEP to its neighbours, and a commit waits for its room. -/
theorem queueAscendingKept : Obligations.QueueAscendingKept := fun _ _ h => by
  refine ⟨fun q => ?_, fun c p n q => ?_⟩
  · refine step_keeps (P := QueueAscending) (fun _ _ d => d.queueAscending) (fun s t on f => ?_) (fun _ _ f => f) (fun s u f _ => ?_) h q
    · rw [on.rest]; exact f
    · unfold QueueAscending; rw [f.queue]; exact List.Pairwise.nil
  · have kept := step_keeps (P := fun s => CalSound s ∧ PanelsSound s ∧ QueueGood s)
      (fun _ _ d f => ⟨d.calSound f.1, d.panelsSound f.2.1, d.queueGood f.1 f.2.1 f.2.2⟩) (fun s t on f => ⟨onLink_calSound on f.1, ?_⟩)
      (fun _ _ f => ⟨f.1.congr rfl (.of_eq rfl) (.of_eq rfl), f.2.1, f.2.2.of_tracks rfl⟩) (fun s u f g => ⟨f.cal g.1, ?_⟩) h
      ⟨c, p, queueGood_of_sound c p n q⟩
    · exact ⟨kept.2.2.ascending, kept.2.2.fits⟩
    · rw [on.rest]; exact ⟨f.2.1, f.2.2.of_tracks rfl⟩
    · exact ⟨f.panelsSound, f.queueGood (f.cal g.1).apart⟩

end Sys2Proof.Machine
end

section
/-!
The levels after every step (R136, R196, R209, R210): an event brings them to their places as it ends, a reset puts them at theirs, and nothing else touches
what they depend on.
-/
namespace Sys2Proof.Machine

/-- The infeed reference, ATTN and the enables stand as they are to. -/
structure Levels (s : State) : Prop where
  infeed : InfeedFollows s
  attn : AttnFollows s
  enables : EnablesFollow s

theorem Levels.congr {s t : State} (h : Levels s) (infeed : t.drives.infeedRef = s.drives.infeedRef)
    (reference : t.infeedReference = s.infeedReference) (attn : t.link.attn = s.link.attn) (level : t.attnLevel = s.attnLevel)
    (driveEnable : t.driveEnable = s.driveEnable) (resetOut : t.resetOut = s.resetOut) (held : t.inReset = s.inReset) : Levels t where
  infeed := infeed.trans (h.infeed.trans reference.symm)
  attn := attn.trans (h.attn.trans level.symm)
  enables := ⟨driveEnable.trans (held.symm ▸ h.enables.1), resetOut.trans (held.symm ▸ h.enables.2)⟩

theorem Levels.onLink {s t : State} (h : Levels s) (on : OnLink s t) : Levels t := by
  have level : t.attnLevel = s.attnLevel := by
    rw [on.rest]
    unfold State.attnLevel State.summary State.inReset State.donePending State.faultPresent
    rw [on.events, on.mask]
  refine h.congr ?_ ?_ on.attn level ?_ ?_ ?_
  all_goals rw [on.rest]
  all_goals rfl

theorem levels_finish {s x u : State} (enables : EnablesFollow s) (held : x.heldBy = s.heldBy) (driveEnable : x.driveEnable = s.driveEnable)
    (resetOut : x.resetOut = s.resetOut) (h : Does x u) : Levels (finish x u) := by
  obtain ⟨heldBy, drive, out⟩ := (h.trans (.shared (shared_finish x u))).reset
  have inReset : (finish x u).inReset = s.inReset := by unfold State.inReset; rw [heldBy, held]
  exact ⟨finish_infeed x u, finish_attn x u, by rw [drive, driveEnable, inReset]; exact enables.1, by rw [out, resetOut, inReset]; exact enables.2⟩

theorem addKind_ne_nil (k : ResetKind) (ks : List ResetKind) : addKind k ks ≠ [] := by
  unfold addKind; split
  · rename_i h; exact List.ne_nil_of_mem h
  · simp

theorem inReset_of_ne_nil {s : State} (h : s.heldBy ≠ []) : s.inReset = true := by
  unfold State.inReset; simpa using h

theorem levels_beginReset (k : ResetKind) (s : State) : Levels (beginReset k s) := by
  have held : (beginReset k s).inReset = true := inReset_of_ne_nil (addKind_ne_nil k _)
  refine ⟨?_, ?_, by rw [held]; rfl, held.symm⟩
  · show (0 : Nat) = min _ (min _ 0)
    simp
  · show false = _
    unfold State.attnLevel; rw [held]; rfl

theorem levels_acts {s t : State} (h : Acts s t) (l : Levels s) : Levels t := by
  cases h with
  | still => exact l
  | link on => exact l.onLink on
  | ends running h => exact levels_finish l.enables rfl rfl rfl h
  | @answered x u r running on frame h =>
    have rest := on.rest
    have done : Levels (finish x u) := levels_finish l.enables (by rw [rest]) (by rw [rest]) (by rw [rest]) h
    refine done.onLink (onLink_setReply r ?_)
    rw [(h.trans (.shared (shared_finish x u))).buffer]; exact frame
  | level i held => exact l.congr rfl rfl rfl rfl rfl rfl rfl
  | reset k c x => exact levels_beginReset k _
  | goes ks held left =>
    have still : State.inReset { s with heldBy := ks } = s.inReset := (inReset_of_ne_nil left).trans held.symm
    refine l.congr rfl rfl rfl ?_ rfl rfl still
    unfold State.attnLevel; rw [still]; rfl
  | starts => exact levels_finish (s := readied s) ⟨rfl, rfl⟩ rfl rfl rfl (does_startLine _)

theorem levels_step {s t : State} (h : step s = .next t) (l : Levels s) : Levels t := by
  unfold step at h; split at h
  · cases h; exact l.congr rfl rfl rfl rfl rfl rfl rfl
  · rename_i c cs _
    obtain ⟨u, e, a⟩ := exec_acts c { s with pending := cs }
    rw [e] at h
    cases h
    exact levels_acts a (l.congr rfl rfl rfl rfl rfl rfl rfl)

theorem feeding_iff (s : State) :
    s.feeding = true ↔ s.line.state = .running ∨ (s.line.state = .stopping ∧ ∃ r ∈ s.line.stop, r.cls = .cycleEnd) := by
  unfold State.feeding LineBlock.feeding
  cases state : s.line.state <;> cases stop : s.line.stop <;> simp

theorem lamReady_iff (s : State) :
    s.lamReady = true ↔ s.straps.laminator = false ∨ ((s.lam.heat = .ready ∨ s.lam.heat = .off) ∧ s.lam.nip = .closed) := by
  unfold State.lamReady; simp

/-- Settles O55: an event ends with every level at its place, and the infeed reference is the least of its four allowances (R136). -/
theorem levelsKept : Obligations.LevelsKept := fun s t infeed attn enables h => by
  have l := levels_step h ⟨infeed, attn, enables⟩
  refine ⟨l.infeed, l.attn, l.enables, l.infeed.trans ?_⟩
  unfold State.infeedReference
  exact congrArg₂ min rfl (congrArg₂ min (if_congr (lamReady_iff t) rfl rfl) (if_congr (and_congr_left' (feeding_iff t)) rfl rfl))

end Sys2Proof.Machine
end

section
/-!
The step and the taking of requests (R188, R190, R191): every request row is the taking of its frame with a request's own act, behind the shared checks.
-/
namespace Sys2Proof.Machine

/-- Settles O1. -/
theorem stepTakesFront : Obligations.StepTakesFront := by
  refine ⟨fun c cs s h => ?_, fun s h => ?_⟩
  · unfold step; rw [h]
  · unfold step; split
    · rfl
    · rename_i c cs e
      rw [h] at e; cases e

/-! ### The rows of the table as requests -/

theorem fixedRow_exec {r : CatalogueRow} (h : r ∈ fixedRows) (tag : Byte) (p : List Byte) :
    ∃ act, Taken act ∧ ∀ s, exec (r.command tag p) s = .next (request r.kind tag p r.length r.unsynced act s) := by
  simp only [fixedRows, List.cons_append, List.nil_append, List.mem_cons, List.not_mem_nil, or_false] at h
  rcases h with rfl | rfl | rfl | rfl | rfl | rfl | rfl | rfl | rfl | rfl | rfl | rfl | rfl | rfl | rfl | rfl | rfl | rfl | rfl
  · exact ⟨_, taken_sync, fun _ => rfl⟩
  · exact ⟨_, taken_status _, fun _ => rfl⟩
  · exact ⟨_, taken_setAttention _, fun _ => rfl⟩
  · exact ⟨_, taken_fetchEvents _, fun _ => rfl⟩
  · exact ⟨_, taken_fetchDone _, fun _ => rfl⟩
  · exact ⟨_, taken_cancel _, fun _ => rfl⟩
  · exact ⟨_, taken_query _, fun _ => rfl⟩
  · exact ⟨_, taken_thread, fun _ => rfl⟩
  · exact ⟨_, taken_run, fun _ => rfl⟩
  · exact ⟨_, taken_hold, fun _ => rfl⟩
  · exact ⟨_, taken_clear, fun _ => rfl⟩
  · exact ⟨_, taken_resume, fun _ => rfl⟩
  · exact ⟨_, taken_homeKnife, fun _ => rfl⟩
  · exact ⟨_, taken_teach _, fun _ => rfl⟩
  · exact ⟨_, fun s _ => does_setSpeed _ s, fun _ => rfl⟩
  · exact ⟨_, taken_setHeat _, fun _ => rfl⟩
  · exact ⟨_, taken_setRegister _ _, fun _ => rfl⟩
  · exact ⟨_, taken_calRead _, fun _ => rfl⟩
  · exact ⟨_, taken_calWrite _ _, fun _ => rfl⟩

theorem requestRow_exec {r : CatalogueRow} (h : RequestRow r) (tag : Byte) (p : List Byte) :
    ∃ act, Taken act ∧ ∀ s, exec (r.command tag p) s = .next (takeRequest ⟨r.kind, tag, p⟩ act s) := by
  rcases h with row | ⟨command, kind⟩ | ⟨kind, command⟩
  · obtain ⟨act, taken, e⟩ := fixedRow_exec row tag p
    exact ⟨_, taken_checked taken _ _, e⟩
  · refine ⟨_, taken_checked (taken_plan (planFields p)) (planFits p) false, fun s => ?_⟩
    rw [command, kind]; rfl
  · refine ⟨refuse .badRequest, taken_refuse _, fun s => ?_⟩
    rw [command]
    show Host.Outcome.next _ = _
    rw [if_neg kind]

/-! ### The shared checks -/

theorem checked_of_misfit {act : State → Answer} {fits u : Bool} (h : fits = false) (s : State) : checked fits u act s = refuse .badRequest s := by
  unfold checked; rw [h]; rfl

theorem checked_of_unsynced {act : State → Answer} {fits : Bool} {s : State} (h : fits = true) (synced : s.link.synced = false) :
    checked fits false act s = refuse .notSynced s := by
  unfold checked; rw [h, synced]; rfl

theorem checked_of_synced {act : State → Answer} {fits u : Bool} {s : State} (h : fits = true) (synced : u = true ∨ s.link.synced = true) :
    checked fits u act s = act s := by
  unfold checked; rw [h]
  rcases synced with e | e <;> rw [e] <;> simp

/-- What is not taken, and not BAD_PLAN, changes nothing on a free link. -/
theorem takeRequest_refused {s : State} (h : LinkFree s) {f : Frame} {act : State → Answer} {st : Status}
    (refused : act (holding f s) = refuse st (holding f s)) (hs : st.taken = false) (hb : st ≠ .badPlan) :
    takeRequest f act s = answered f st [] s := by
  rw [takeRequest_free h]; exact serve_refused f act st s refused hs hb

theorem planFits_iff (p : List Byte) : planFits p = true ↔ 14 ≤ p.length ∧ p.length = 14 + 4 * natAt 13 1 p := by
  unfold planFits; simp

/-- Settles O2. -/
theorem requestsCheckLengthThenSync : Obligations.RequestsCheckLengthThenSync := by
  intro s tag p free
  refine ⟨fun r row misfit => ?_, fun r row fits unsynced synced => ?_, fun misfit => ?_, fun fits synced => ?_⟩
  · obtain ⟨act, -, e⟩ := fixedRow_exec row tag p
    rw [e]
    exact congrArg _ (takeRequest_refused free (checked_of_misfit (decide_eq_false misfit) _) rfl nofun)
  · obtain ⟨act, -, e⟩ := fixedRow_exec row tag p
    rw [e, unsynced]
    exact congrArg _ (takeRequest_refused free (checked_of_unsynced (decide_eq_true fits) synced) rfl nofun)
  · have unfit : planFits p = false := Bool.eq_false_iff.mpr fun h => misfit ((planFits_iff p).mp h)
    exact congrArg Host.Outcome.next (takeRequest_refused free (checked_of_misfit unfit _) rfl nofun)
  · exact congrArg Host.Outcome.next (takeRequest_refused free (checked_of_unsynced ((planFits_iff p).mpr fits) synced) rfl nofun)

/-- Settles O4. -/
theorem unknownKindRefused : Obligations.UnknownKindRefused := by
  intro s kind tag p free unknown
  refine ⟨?_, ?_⟩
  · show Host.Outcome.next _ = _
    rw [if_neg unknown]
    exact congrArg _ (takeRequest_refused free rfl rfl nofun)
  · show some (if kind.toNat < 128 then kind + 128 else 255) = _
    rfl

/-! ### A request that cannot be taken at once -/

theorem receives_iff (s : State) : s.receives = true ↔ s.heldBy = [] ∧ s.link.breakArmed = true := by
  unfold State.receives State.inReset; simp

theorem serve_link {act : State → Answer} (taken : Taken act) (f : Frame) (s : State) :
    (serve f act s).link.buffer = s.link.buffer ∧ (serve f act s).link.reply.map (fun a => (a.kind, a.tag)) = some (replyKind f.kind, f.tag) := by
  refine ⟨?_, rfl⟩
  unfold serve; dsimp only; split
  · rename_i ok
    exact ((taken s ok).trans (.shared (shared_finish s _))).buffer
  · rfl

theorem inReset_of_nil {s : State} (h : s.heldBy = []) : s.inReset = false := by unfold State.inReset; rw [h]; rfl

theorem bufferFrame_of_room {f : Frame} {s : State} (h : s.link.buffer.length < 2) :
    bufferFrame f s = { s with link := { s.link with buffer := s.link.buffer ++ [f] } } := by unfold bufferFrame; rw [if_pos h]
theorem bufferFrame_of_full {f : Frame} {s : State} (h : 2 ≤ s.link.buffer.length) :
    bufferFrame f s = { s with link := { s.link with overrunSeen := true } } := by unfold bufferFrame; rw [if_neg (by omega)]
theorem arrives_of_receives {f : Frame} {s : State} (h : s.receives = true) : arrives f s = bufferFrame f s := by unfold arrives; rw [if_pos h]
theorem arrives_of_deaf {f : Frame} {s : State} (h : s.receives = false) : arrives f s = s := by
  unfold arrives; rw [if_neg (by rw [h]; exact Bool.false_ne_true)]

section takeRequestCases
variable {f : Frame} {act : State → Answer} {s : State}

theorem takeRequest_of_held (h : s.inReset = true) : takeRequest f act s = s := by unfold takeRequest; rw [if_pos h]
theorem takeRequest_of_replying (h : s.inReset = false) {a : Reply} (reply : s.link.reply = some a) : takeRequest f act s = arrives f s := by
  unfold takeRequest; rw [h, reply]; rfl
theorem takeRequest_of_behind (h : s.inReset = false) (reply : s.link.reply = none) {g : Frame} {gs : List Frame} (buffer : s.link.buffer = g :: gs)
    (other : g ≠ f) : takeRequest f act s = arrives f s := by
  unfold takeRequest; rw [h, reply, buffer]; exact if_neg other
theorem takeRequest_of_oldest (h : s.inReset = false) (reply : s.link.reply = none) {gs : List Frame} (buffer : s.link.buffer = f :: gs) :
    takeRequest f act s = serve f act s := by
  unfold takeRequest; rw [h, reply, buffer]; exact if_pos rfl
theorem takeRequest_of_deaf (h : s.receives = false) (reply : s.link.reply = none) (empty : s.link.buffer = []) : takeRequest f act s = s := by
  unfold takeRequest; rw [reply, empty, h]; simp

end takeRequestCases

/-- Settles O3: the cases of the taking of a frame. -/
theorem requestsWaitTheirTurn : Obligations.RequestsWaitTheirTurn := by
  intro s r tag p row
  obtain ⟨act, taken, e⟩ := requestRow_exec row tag p
  have hears (held : s.heldBy = []) (armed : s.link.breakArmed = true) : s.receives = true := (receives_iff s).mpr ⟨held, armed⟩
  have deaf (h : s.link.breakArmed = false) : s.receives = false := by unfold State.receives; rw [h, Bool.and_false]
  rw [e]
  refine ⟨fun a held armed reply room => ?_, fun a held armed reply full => ?_, fun held => ?_, fun a armed reply => ?_, fun armed reply empty => ?_,
    fun g held armed reply buffer other => ?_, fun gs held reply buffer => ⟨_, rfl, ?_⟩⟩
  · rw [takeRequest_of_replying (inReset_of_nil held) reply, arrives_of_receives (hears held armed), bufferFrame_of_room room]
  · rw [takeRequest_of_replying (inReset_of_nil held) reply, arrives_of_receives (hears held armed), bufferFrame_of_full full]
  · rw [takeRequest_of_held (inReset_of_ne_nil held)]
  · by_cases held : s.inReset = true
    · rw [takeRequest_of_held held]
    · rw [takeRequest_of_replying (Bool.eq_false_iff.mpr held) reply, arrives_of_deaf (deaf armed)]
  · rw [takeRequest_of_deaf (deaf armed) reply empty]
  · rw [takeRequest_of_behind (inReset_of_nil held) reply buffer other, arrives_of_receives (hears held armed), bufferFrame_of_room (by rw [buffer]; exact Nat.one_lt_two),
      buffer]
    rfl
  · rw [takeRequest_of_oldest (inReset_of_nil held) reply buffer]
    obtain ⟨kept, replied⟩ := serve_link taken ⟨r.kind, tag, p⟩ s
    exact ⟨kept.trans buffer, replied⟩

end Sys2Proof.Machine
end

section
/-!
Requests answered at once: on a free link a request taken whose event leaves a settled state is answered in that state. SYNC, STATUS, QUERY, CAL-READ,
SET-ATTENTION, CANCEL and the refusals of PLAN (R17 to R22, R193 to R196, R205), and the link's own events (R187 to R189).
-/
namespace Sys2Proof.Machine

section answers
variable {s t : State} {k tag : Byte} {p : List Byte} {n : Nat} {u : Bool} {act : State → Answer} {st : Status} {d : State → List Byte}

theorem request_refused (free : LinkFree s) (hn : p.length = n) (hu : u = true ∨ s.link.synced = true)
    (h : act (holding ⟨k, tag, p⟩ s) = refuse st (holding ⟨k, tag, p⟩ s)) (hs : st.taken = false) (hb : st ≠ .badPlan) :
    request k tag p n u act s = answered ⟨k, tag, p⟩ st [] s := by
  rw [request_fits free k tag p n u act hn hu]
  exact serve_refused _ _ st s h hs hb

theorem request_taken (free : LinkFree s) (hn : p.length = n) (hu : u = true ∨ s.link.synced = true) {x : State}
    (h : act (holding ⟨k, tag, p⟩ s) = ⟨st, x, d⟩) (ok : st.taken = true)
    (ended : finish (holding ⟨k, tag, p⟩ s) x = holding ⟨k, tag, p⟩ t) :
    request k tag p n u act s = answered ⟨k, tag, p⟩ st (d (holding ⟨k, tag, p⟩ t)) t := by
  rw [request_fits free k tag p n u act hn hu]
  exact serve_taken _ _ s t _ _ h ok ended rfl

/-- A request taken that leaves a settled state, line and free run as they were, is answered in it. -/
theorem request_answered (free : LinkFree s) (hn : p.length = n) (hu : u = true ∨ s.link.synced = true)
    (h : act (holding ⟨k, tag, p⟩ s) = ⟨st, holding ⟨k, tag, p⟩ t, d⟩) (ok : st.taken = true) (settled : Settled t)
    (line : t.line = s.line) (run : t.freeCond = s.freeCond) :
    request k tag p n u act s = answered ⟨k, tag, p⟩ st (d (holding ⟨k, tag, p⟩ t)) t :=
  request_taken free hn hu h ok (finish_of_settled (settled_holding settled _) line run)

/-- A request taken that leaves a state settled but for ATTN is answered with ATTN at its level. -/
theorem request_answered_attn (free : LinkFree s) (hn : p.length = n) (hu : u = true ∨ s.link.synced = true)
    (h : act (holding ⟨k, tag, p⟩ s) = ⟨st, holding ⟨k, tag, p⟩ t, d⟩) (ok : st.taken = true) (settled : Settled (attnUpdate t))
    (line : t.line = s.line) (run : t.freeCond = s.freeCond) :
    request k tag p n u act s = answered ⟨k, tag, p⟩ st (d (holding ⟨k, tag, p⟩ (attnUpdate t))) (attnUpdate t) :=
  request_taken free hn hu h ok (finish_of_settled_attn (s := holding ⟨k, tag, p⟩ t) (settled_holding settled _) line run)

end answers

/-! ### SYNC and SET-ATTENTION -/

/-- Settles O5. -/
theorem syncOpensSession : Obligations.SyncOpensSession := by
  intro s tag free settled
  have synced : Settled { s with link := { s.link with synced := true }, causes := [] } :=
    settled.congr rfl rfl rfl rfl rfl rfl rfl rfl rfl rfl rfl (settled.attn.congr rfl rfl rfl rfl rfl rfl)
  exact congrArg Host.Outcome.next
    (request_answered (act := syncAct) (t := { s with link := { s.link with synced := true }, causes := [] }) free rfl (.inl rfl) rfl rfl synced rfl rfl)

theorem maskOf_byte : ∀ m : Byte, m.toNat < 8 → (maskOf m.toNat).byte = m := by decide

/-- Settles O7. -/
theorem setAttentionSetsMask : Obligations.SetAttentionSetsMask := by
  intro s tag m free settled synced
  have exec_eq : exec (.setAttention tag [m]) s = .next (request 0x03 tag [m] 1 false (setAttentionAct m.toNat) s) := by
    rw [← natAt_singleton m]; rfl
  rw [exec_eq]
  refine ⟨fun low => ?_, fun high => ?_⟩
  · intro t
    let masked : State := { s with link := { s.link with mask := maskOf m.toNat } }
    have level : attnUpdate masked = t := by
      unfold attnUpdate
      rw [attnLevel_of_running (s := masked) settled.running]; rfl
    have follows : Settled (attnUpdate masked) := settled.congr rfl rfl rfl rfl rfl rfl rfl rfl rfl rfl rfl (attnUpdate_follows _)
    have answer := request_answered_attn (k := 0x03) (tag := tag) (p := [m]) (n := 1) (u := false) (act := setAttentionAct m.toNat) (t := masked)
      free rfl (.inr synced) (if_neg (by omega)) rfl follows rfl rfl
    rw [answer, level]
    show Host.Outcome.next (answered _ _ [(maskOf m.toNat).byte] t) = _
    rw [maskOf_byte m low]
  · exact congrArg _ (request_refused free rfl (.inr synced) (if_pos high) rfl nofun)

/-! ### The reports -/

/-- The bit of a flag is its place in the list of R16. -/
theorem allFlags_flagBit (f : Flag) : allFlags[flagBit f]? = some f := by cases f <;> rfl

/-- A flag is held exactly when the bit of its number is. -/
theorem any_flagBit (fs : List Flag) (f : Flag) : fs.any (fun g => flagBit g == flagBit f) = decide (f ∈ fs) := by
  have injective (g h : Flag) (e : flagBit g = flagBit h) : g = h := Option.some.inj (by rw [← allFlags_flagBit g, ← allFlags_flagBit h, e])
  rw [Bool.eq_iff_iff, List.any_eq_true, decide_eq_true_iff]
  refine ⟨fun ⟨g, hg, e⟩ => injective g f (by simpa using e) ▸ hg, fun h => ⟨f, h, by simp⟩⟩

/-- The bits 0 to 23 of a flag set, by the flags. -/
def flagSetBits (p : Panel) : List Bool :=
  allFlags.map (fun f => decide (f ∈ p.flags)) ++ [decide (.scaleFault ∈ p.flags) && p.scaleRejecting] ++ List.replicate 6 false

theorem flagSetBit_eq (p : Panel) : ((List.range 24).map (flagSetBit p)) = flagSetBits p := by
  have held (f : Flag) (i : Nat) (h : i = flagBit f) (low : i ≠ 17) : flagSetBit p i = decide (f ∈ p.flags) := by
    unfold flagSetBit
    rw [h, any_flagBit]; simp [← h, low]
  have none (i : Nat) (h : 17 < i) : flagSetBit p i = false := by
    unfold flagSetBit
    have out (f : Flag) : flagBit f ≠ i := by cases f <;> simp only [flagBit] <;> omega
    simp [out]; omega
  have rejecting : flagSetBit p 17 = (decide (.scaleFault ∈ p.flags) && p.scaleRejecting) := by
    unfold flagSetBit
    have out (f : Flag) : flagBit f ≠ 17 := by cases f <;> decide
    rw [show (fun f => flagBit f == 5) = (fun f => flagBit f == flagBit .scaleFault) from rfl, any_flagBit]
    simp [out]
  simp only [List.range, List.range.loop, List.map, flagSetBits, allFlags, List.replicate, List.cons_append, List.nil_append, List.cons.injEq]
  refine ⟨held _ _ rfl (by decide), held _ _ rfl (by decide), held _ _ rfl (by decide), held _ _ rfl (by decide), held _ _ rfl (by decide),
    held _ _ rfl (by decide), held _ _ rfl (by decide), held _ _ rfl (by decide), held _ _ rfl (by decide), held _ _ rfl (by decide),
    held _ _ rfl (by decide), held _ _ rfl (by decide), held _ _ rfl (by decide), held _ _ rfl (by decide), held _ _ rfl (by decide),
    held _ _ rfl (by decide), held _ _ rfl (by decide), rejecting, none _ (by decide), none _ (by decide), none _ (by decide),
    none _ (by decide), none _ (by decide), none _ (by decide), trivial⟩

/-- The number that bits spell, bit 0 first. -/
def bitsNat : List Bool → Nat
  | [] => 0
  | b :: bs => b.toNat + 2 * bitsNat bs

theorem bitsNat_eight (a b c d e f g h : Bool) (bs : List Bool) :
    bitsNat (a :: b :: c :: d :: e :: f :: g :: h :: bs) = bitsNat [a, b, c, d, e, f, g, h] + 256 * bitsNat bs
      ∧ bitsNat [a, b, c, d, e, f, g, h] < 256 := by
  have bound (x : Bool) : x.toNat ≤ 1 := Bool.toNat_le x
  have := bound a; have := bound b; have := bound c; have := bound d; have := bound e; have := bound f; have := bound g; have := bound h
  simp only [bitsNat]; omega

theorem byte_of_bits (b : Nat → Bool) :
    ((List.range 8).map (fun j => if b j then 2 ^ j else 0)).sum = bitsNat [b 0, b 1, b 2, b 3, b 4, b 5, b 6, b 7] := by
  have term (x : Bool) (m : Nat) : (if x = true then m else 0) = m * x.toNat := by cases x <;> simp
  simp only [List.range, List.range.loop, List.map, List.sum_cons, List.sum_nil, term, bitsNat]
  omega

theorem leBytes_bits (b : Nat → Bool) (n m : Nat) (rest : Nat) (h : m = bitsNat [b 0, b 1, b 2, b 3, b 4, b 5, b 6, b 7] + 256 * rest) :
    leBytes (n + 1) m = BitVec.ofNat 8 ((List.range 8).map (fun j => if b j then 2 ^ j else 0)).sum :: leBytes n rest := by
  have low := (bitsNat_eight (b 0) (b 1) (b 2) (b 3) (b 4) (b 5) (b 6) (b 7) []).2
  rw [byte_of_bits, leBytes, h]
  congr 1
  · apply BitVec.eq_of_toNat_eq
    simp only [BitVec.toNat_ofNat]; omega
  · congr 1; omega

theorem flagBits_eq (p : Panel) : p.flagBits = bitsNat (flagSetBits p) := by
  have term (f : Flag) (acc m : Nat) : (if f ∈ p.flags then acc + m else acc) = acc + m * (decide (f ∈ p.flags)).toNat := by
    by_cases h : f ∈ p.flags <;> simp [h]
  have last : (if .scaleFault ∈ p.flags ∧ p.scaleRejecting = true then 2 ^ 17 else 0)
      = 131072 * (decide (.scaleFault ∈ p.flags) && p.scaleRejecting).toNat := by
    by_cases h : Flag.scaleFault ∈ p.flags <;> cases r : p.scaleRejecting <;> simp [h]
  unfold Panel.flagBits
  rw [last]
  simp only [allFlags, List.zipIdx, List.foldl, term, flagSetBits, List.map, List.replicate, List.cons_append, List.nil_append, bitsNat,
    Bool.toNat_false]
  omega

/-- The flag set as the statements give it is the flag set as the records carry it (R201). -/
theorem flagSet_eq (p : Panel) : flagSet p = flagsField p := by
  have bits := flagSetBit_eq p
  simp only [List.range, List.range.loop, List.map] at bits
  have number := flagBits_eq p
  rw [← bits] at number
  unfold flagsField
  rw [leBytes_bits (fun j => flagSetBit p (8 * 0 + j)) 2 _ _ (number.trans (bitsNat_eight ..).1),
    leBytes_bits (fun j => flagSetBit p (8 * 1 + j)) 1 _ _ (bitsNat_eight ..).1,
    leBytes_bits (fun j => flagSetBit p (8 * 2 + j)) 0 _ 0 (Nat.add_zero _).symm]
  rfl

theorem markField_eq (c : Option Coord) : markField c = coordField c := by cases c <;> rfl
theorem lengthField_eq (l : Option Length2) : lengthField l = l2Field l := by cases l <;> rfl
theorem completionField_eq (c : Option Completion) : (c.map Completion.code).getD [0] = optNamed Completion.code c := by cases c <;> rfl
theorem flatten_map_eq {α : Type} (f : α → List Byte) (l : List α) : (l.map f).flatten = l.flatMap f := (List.flatMap_def ..).symm

theorem queryLayout_eq (p : Panel) : queryLayout p = panelRecord p := by
  have triggers : byteField (p.triggers.getD []).length ++ ((p.triggers.getD []).map posField).flatten = triggersField p.triggers := by
    cases p.triggers with
    | none => rfl
    | some ts => exact congrArg _ (flatten_map_eq posField ts)
  unfold queryLayout panelRecord planBytes
  rw [flagSet_eq, completionField_eq, lengthField_eq, ← triggers]
  simp only [markField_eq, flatten_map_eq, List.append_assoc]

theorem completionLayout_eq (p : Panel) : completionLayout p = completionRecord p := by
  unfold completionLayout completionRecord
  rw [flagSet_eq, completionField_eq, lengthField_eq, markField_eq]

/-! ### The sections of STATUS -/

theorem optional_map {α : Type} (n : Nat) (f : α → List Byte) (o : Option α) : optional n (o.map f) = optField n f o := by cases o <;> rfl

theorem teachLayout_eq (t : Option Teach) : teachLayout t = teachField t := by
  cases t with
  | none => rfl
  | some t =>
    unfold teachLayout teachField
    simp only [optional_map]; rfl

theorem outfeedLayout_eq (s : State) : outfeedLayout s.drives.outfeed = outfeedItems s := by
  unfold outfeedLayout outfeedItems
  cases s.drives.outfeed with
  | moving m => simp only [optional_map, List.append_assoc]; rfl
  | held r => cases r <;> rfl
  | stopped => rfl

theorem entryLayout_eq (e : Option Entry) : entryLayout e =
    optField 1 Entry.kindCode e ++ optField 6 posField (e.map (·.trigger)) ++ optField 3 cutField (e.bind (·.cut))
      ++ optField 3 cutField (e.bind (·.partner)) ++ optField 3 (fun l : LaneChange => [l.lanes] ++ idField l.owner.id) (e.bind (·.lane))
      ++ optField 1 EntryState.code (e.map (·.state)) := by
  cases e with
  | none => rfl
  | some e =>
    have kind : ([1, if e.cut = none then 2 else if e.lane = none then 1 else 3] : List Byte) = 1 :: e.kindCode := by
      unfold Entry.kindCode
      cases e.cut <;> cases e.lane <;> rfl
    unfold entryLayout
    dsimp only
    rw [kind]
    simp only [optional_map, List.append_assoc]; rfl

end Sys2Proof.Machine
end

section
/-!
STATUS, QUERY and CAL-READ (R22, R194, R205): the sections field by field, and the requests that report them.
-/
namespace Sys2Proof.Machine

theorem flatMap_flagField (b : FaultCause → Bool) (cs : List FaultCause) :
    cs.flatMap (fun c => flagField (b c)) = cs.map (fun c => if b c = true then 1 else 0) := by
  induction cs with
  | nil => rfl
  | cons c cs ih => rw [List.flatMap_cons, ih]; rfl

theorem sectionLine_eq (s : State) : sectionLine s = statusLayout 0 s := by
  unfold sectionLine statusLayout
  rw [flatMap_flagField]
  cases s.line.stop <;> cases s.line.firstFault <;> cases s.line.resume <;> simp [optField, allCauses]

theorem sectionRolls_eq (s : State) : sectionRolls s = statusLayout 1 s := by
  have watching : named (if s.loop.watching then 0 else 1) = [if s.loop.watching then 1 else 2] := by cases s.loop.watching <;> rfl
  unfold sectionRolls statusLayout
  simp only [optional_map, watching]; rfl

theorem sectionSensors_eq (s : State) : sectionSensors s = statusLayout 2 s := by
  unfold sectionSensors statusLayout
  simp only [optional_map, teachLayout_eq]
  cases expect : s.cursor1.expect with
  | none => simp [optField]
  | some e => cases window : e.window <;> simp [optField, window]

theorem sectionRegistration_eq (s : State) : sectionRegistration s = statusLayout 3 s := by
  unfold sectionRegistration statusLayout anchorField
  simp only [optional_map]
  cases s.reg.anchor <;> cases s.reg.points <;> cases expect : s.cursor2.expect with
  | none => simp [optField]
  | some e => cases window : e.window <;> simp [optField, window]

theorem sectionCutting_eq (s : State) : sectionCutting s = statusLayout 4 s := by
  have confirmed (c : Bool) : confirmCode c = [if c then 2 else 1] := by cases c <;> rfl
  have blade (b : Blade) : named (if b.down then 1 else 0) ++ [if b.confirmed then 2 else 1] = [(if b.down then 2 else 1 : Byte), if b.confirmed then 2 else 1] := by
    cases b.down <;> rfl
  have current : optField 3 cutField (s.current.bind (·.cut)) = (match s.planner.queue with
      | e :: _ => if e.state = .pending then [0, 0, 0, 0] else optional 3 (e.cut.map (fun c => idField c.panel.id ++ byteField c.index))
      | [] => [0, 0, 0, 0]) := by
    unfold State.current
    cases s.planner.queue with
    | nil => rfl
    | cons e es => by_cases pending : e.state = .pending <;> simp [pending, optional_map, optField, cutField]
  unfold sectionCutting plannerItems stationItems statusLayout
  simp only [optional_map, entryLayout_eq, current, confirmed, blade, flatten_map_eq, List.append_assoc] <;> rfl

theorem sectionDrives_eq (s : State) : sectionDrives s = statusLayout 5 s := by
  unfold sectionDrives statusLayout
  simp only [optional_map, outfeedLayout_eq]

theorem sectionLaminator_eq (s : State) : sectionLaminator s = statusLayout 6 s := by
  have heater : named (if s.lam.heater then 0 else 1) = [if s.lam.heater then 1 else 2] := by cases s.lam.heater <;> rfl
  have command : named (if s.lam.commandClose then 0 else 1) = [if s.lam.commandClose then 1 else 2] := by cases s.lam.commandClose <;> rfl
  have time (o : Option Nat) : optional 4 (o.map (fun t => timeField (s.now - t))) = optField 4 timeField (o.map s.elapsed) := by cases o <;> rfl
  have timer (o : Option Timer) : optField 4 timeField (o.map (fun t => s.elapsed t.start)) = optField 4 timeField ((o.map (·.start)).map s.elapsed) := by
    cases o <;> rfl
  have dwell : optField 4 timeField (s.lam.dwell.map (fun t => s.elapsed t.start)) = optField 4 timeField ((s.lam.dwell.map (·.start)).map s.elapsed) := by
    cases s.lam.dwell <;> rfl
  simp only [sectionLaminator, statusLayout, time, heater, command]
  simp only [optional_map, timer, dwell]

theorem sectionLink_eq (s : State) : sectionLink s = statusLayout 7 s := by
  have mask : s.link.mask.byte
      = (if s.link.mask.done then 1 else 0) + (if s.link.mask.event then 2 else 0) + (if s.link.mask.fault then 4 else 0) := by
    unfold AttnSet.byte
    cases s.link.mask.done <;> cases s.link.mask.event <;> cases s.link.mask.fault <;> rfl
  simp only [sectionLink, statusLayout, mask]

theorem statusSection_eq {n : Nat} (h : n < 8) (s : State) : statusSection n s = some (statusLayout n s) := by
  match n, h with
  | 0, _ => exact congrArg some (sectionLine_eq s)
  | 1, _ => exact congrArg some (sectionRolls_eq s)
  | 2, _ => exact congrArg some (sectionSensors_eq s)
  | 3, _ => exact congrArg some (sectionRegistration_eq s)
  | 4, _ => exact congrArg some (sectionCutting_eq s)
  | 5, _ => exact congrArg some (sectionDrives_eq s)
  | 6, _ => exact congrArg some (sectionLaminator_eq s)
  | 7, _ => exact congrArg some (sectionLink_eq s)
  | _ + 8, h => exact absurd h (by omega)

/-! ### The requests -/

/-- No section reads the frames that hold places of the buffer. -/
theorem statusLayout_holding (f : Frame) (n : Nat) (s : State) : statusLayout n (holding f s) = statusLayout n s := rfl

theorem exec_status (tag n : Byte) (s : State) : exec (.status tag [n]) s = .next (request 0x02 tag [n] 1 true (statusAct n.toNat) s) := by
  rw [← natAt_singleton n]; rfl
theorem exec_calRead (tag i : Byte) (s : State) : exec (.calRead tag [i]) s = .next (request 0x40 tag [i] 1 false (calReadAct i.toNat) s) := by
  rw [← natAt_singleton i]; rfl

theorem statusAct_of_section {n : Nat} (h : n < 8) (s : State) :
    statusAct n s = ⟨.ok, if n = 7 then clearReceiverFlags s else s, fun _ => statusLayout n s⟩ := by
  unfold statusAct; rw [statusSection_eq h]

theorem ofIndex_index (e : CalEntry) : CalEntry.ofIndex e.index = some e := calEntries_getElem e
theorem ofIndex_of_large {i : Nat} (h : 58 ≤ i) : CalEntry.ofIndex i = none := List.getElem?_eq_none_iff.mpr (le_trans (by decide) h)

/-- Settles O6: each report is the layout of its rule, read from the state that the request leaves as it was. -/
theorem reportsChangeNothing : Obligations.ReportsChangeNothing := by
  intro s tag free settled
  refine ⟨fun n low => ?_, fun n high => ?_, ?_, fun synced => ⟨fun a b p found => ?_, fun a b unknown => ?_, fun i e number => ?_, fun i high => ?_⟩⟩
  · rw [exec_status]
    refine congrArg Host.Outcome.next (request_answered (t := s) (d := fun _ => statusLayout n.toNat s) free rfl (.inl rfl) ?_ rfl settled rfl rfl)
    rw [statusAct_of_section (by omega), if_neg (by omega), statusLayout_holding]
  · rw [exec_status]
    refine congrArg Host.Outcome.next (request_refused free rfl (.inl rfl) ?_ rfl nofun)
    unfold statusAct statusSection
    split
    · rfl
    · rename_i some; split at some <;> first | omega | cases some
  · have flags : Settled (clearReceiverFlags s) :=
      settled.congr rfl rfl rfl rfl rfl rfl rfl rfl rfl rfl rfl (settled.attn.congr rfl rfl rfl rfl rfl rfl)
    rw [exec_status]
    exact congrArg Host.Outcome.next (request_answered (t := clearReceiverFlags s) (d := fun _ => statusLayout 7 s) free rfl (.inl rfl)
      (statusAct_of_section (by decide) _) rfl flags rfl rfl)
  · refine congrArg Host.Outcome.next (request_answered (act := queryAct (idAt [a, b])) (t := s) (d := fun _ => queryLayout p) free rfl (.inr synced) ?_
      rfl settled rfl rfl)
    unfold queryAct
    rw [show (holding ⟨0x12, tag, [a, b]⟩ s).byId? (idAt [a, b]) = some p from found, queryLayout_eq]
  · refine congrArg Host.Outcome.next (request_refused (act := queryAct (idAt [a, b])) free rfl (.inr synced) ?_ rfl nofun)
    unfold queryAct
    rw [show (holding ⟨0x12, tag, [a, b]⟩ s).byId? (idAt [a, b]) = none from unknown]
  · rw [exec_calRead]
    have byte : byteField i.toNat = [i] := by
      show [BitVec.ofNat 8 i.toNat] = [i]
      rw [BitVec.ofNat_toNat, BitVec.setWidth_eq]
    refine congrArg Host.Outcome.next (request_answered (t := s) (d := fun _ => [i] ++ lenField (s.work e) ++ lenField (s.cal.reported.getD e.index 0))
      free rfl (.inr synced) ?_ rfl settled rfl rfl)
    unfold calReadAct
    rw [number, ofIndex_index, ← number, byte]; rfl
  · rw [exec_calRead]
    refine congrArg Host.Outcome.next (request_refused free rfl (.inr synced) ?_ rfl nofun)
    unfold calReadAct
    rw [ofIndex_of_large high]

end Sys2Proof.Machine
end

section
/-!
Requests of the Panel List and settings that end where they begin: the refusals of PLAN (R17 to R19), CANCEL (R21), HOME-KNIFE (R131), TEACH (R62) and
SET-REGISTER (R84), the line requests refused (R168), and the link's own events (R187 to R189).
-/
namespace Sys2Proof.Machine

/-! ### PLAN refused -/

theorem serve_badPlan (f : Frame) (act : State → Answer) (b : Byte) (s : State)
    (h : act (holding f s) = ⟨.badPlan, holding f s, fun _ => [b]⟩) : serve f act (holding f s) = answered f .badPlan [b] s := by
  unfold serve; rw [h]; rfl

theorem exec_plan_free {s : State} (free : LinkFree s) (synced : s.link.synced = true) {p : List Byte} (fits : planFits p = true) (tag : Byte) :
    exec (.plan tag p) s = .next (serve ⟨0x10, tag, p⟩ (planAct (planFields p)) (holding ⟨0x10, tag, p⟩ s)) := by
  refine congrArg Host.Outcome.next ((takeRequest_free free _ _).trans ?_)
  have passed := checked_of_synced (act := planAct (planFields p)) (u := false) (s := holding ⟨0x10, tag, p⟩ s) fits (.inr synced)
  unfold serve
  rw [passed]

theorem credits_eq_zero_iff (s : State) : s.credits = 0 ↔ 48 ≤ s.panels.length := by unfold State.credits; omega

theorem byId_isSome_iff (s : State) (id : PanelId) : (s.byId? id).isSome = true ↔ ∃ q ∈ s.panels, q.id = id := by
  unfold State.byId?; rw [List.find?_isSome]; simp

theorem cutsGood_eq_false_iff (l : Int) (xs : List Int) : cutsGood l xs = false ↔
    xs.length < 2 ∨ 9 < xs.length ∨ (∃ x ∈ xs.zip xs.tail, x.2 < x.1 + 10000) ∨ (∃ x ∈ xs.head?, x < -200000)
      ∨ (∃ x ∈ xs.getLast?, l + 200000 < x) := by
  unfold cutsGood
  simp only [Bool.and_eq_false_iff, decide_eq_false_iff_not, List.all_eq_false, Option.all_eq_false, decide_eq_true_eq, not_and_or, not_le]
  simp only [Option.mem_def, or_assoc]

theorem overlaps_iff (last : Option LastPlan) (f : PlanFields) :
    overlaps last f = true ↔ ∃ l ∈ last, ∃ x ∈ f.cuts.head?, l.lNom + f.gNom + x < l.lastCut := by
  unfold overlaps
  cases last <;> cases f.cuts.head? <;> simp

theorem planAct_of_bad {f : PlanFields} {s : State} {b : Byte} (room : ¬ 48 ≤ s.panels.length) (new : ¬ (f.id = 0 ∨ ∃ q ∈ s.panels, q.id = f.id))
    (bad : planDetail s f = some b) : planAct f s = ⟨.badPlan, s, fun _ => [b]⟩ := by
  unfold planAct
  rw [if_neg (by rwa [credits_eq_zero_iff]), if_neg (by rwa [byId_isSome_iff]), bad]

/-- Settles O10: the checks of the model are the manual's, in its order. -/
theorem planRefusedInOrder : Obligations.PlanRefusedInOrder := by
  intro s tag p free synced fits f refused
  have refuses (st : Status) (hs : st.taken = false) (hb : st ≠ .badPlan)
      (h : planAct f (holding ⟨0x10, tag, p⟩ s) = refuse st (holding ⟨0x10, tag, p⟩ s)) : refused st [] := by
    show exec _ s = _
    rw [exec_plan_free free synced fits]
    exact congrArg _ (serve_refused _ _ st s h hs hb)
  split
  · rename_i full
    exact refuses .noCredit rfl nofun (if_pos ((credits_eq_zero_iff s).mpr full))
  rename_i room
  split
  · rename_i old
    refine refuses .duplicateId rfl nofun ?_
    unfold planAct
    rw [if_neg (by rw [credits_eq_zero_iff]; exact room), if_pos (by rw [byId_isSome_iff]; exact old)]
  rename_i new
  have badPlan (b : Byte) (bad : planDetail s f = some b) : refused .badPlan [b] := by
    show exec _ s = _
    rw [exec_plan_free free synced fits]
    exact congrArg _ (serve_badPlan _ _ b s (planAct_of_bad room new bad))
  split
  · rename_i kind
    exact badPlan 1 (if_pos kind)
  rename_i kind
  split
  · rename_i length
    exact badPlan 2 (by unfold planDetail; rw [if_neg kind, if_pos length])
  rename_i length
  split
  · rename_i gap
    exact badPlan 3 (by unfold planDetail; rw [if_neg kind, if_neg length, if_pos gap])
  rename_i gap
  split
  · rename_i cuts
    rw [← cutsGood_eq_false_iff] at cuts
    exact badPlan 4 (by unfold planDetail; rw [if_neg kind, if_neg length, if_neg gap, if_pos cuts])
  rename_i cuts
  rw [← cutsGood_eq_false_iff] at cuts
  split
  · rename_i lanes
    exact badPlan 5 (by unfold planDetail; rw [if_neg kind, if_neg length, if_neg gap, if_neg cuts, if_pos lanes])
  rename_i lanes
  split
  · rename_i overlap
    rw [← overlaps_iff] at overlap
    exact badPlan 6 (by unfold planDetail; rw [if_neg kind, if_neg length, if_neg gap, if_neg cuts, if_neg lanes, if_pos overlap])
  · trivial

/-! ### What the station can do of itself -/

/-- The station does nothing more of itself (R114, R124): no entry to take up from IDLE, and in PREPARING a device or the knife to wait for. -/
theorem pumpStep_eq_none_iff (s : State) : pumpStep s = none ↔
    (s.station.cycle = .idle → ¬ (s.planner.target.isSome = true ∧ s.feeding = true))
      ∧ (s.station.cycle = .preparing → ∀ e, s.current = some e → s.prepared e = true → e.isLane = false ∧ s.mayTraverse = false) := by
  unfold pumpStep
  cases cycle : s.station.cycle with
  | idle => by_cases h : s.planner.target.isSome = true ∧ s.feeding = true <;> simp [h]
  | preparing =>
    cases current : s.current with
    | none => simp
    | some e => by_cases p : s.prepared e = true <;> by_cases l : e.isLane = true <;> by_cases m : s.mayTraverse = true <;> simp [p, l, m]
  | _ => simp

/-- A settled state stays settled under a change of the station that keeps its sequence and gives it nothing to do. -/
theorem Settled.station_change {s : State} (h : Settled s) (x : Station) (cycle : x.cycle = s.station.cycle)
    (station : pumpStep { s with station := x } = none) : Settled { s with station := x } where
  running := h.running
  station := station
  stop := by
    refine Eq.trans ?_ h.stop
    unfold State.stopEnds State.feeding; dsimp only; rw [cycle]
  close := h.close
  infeed := h.infeed
  dwell := h.dwell
  idle := h.idle
  starve := h.starve
  attn := h.attn

/-! ### CANCEL -/

/-- Flags raised against panels bear on nothing that an event brings to its end. -/
theorem Settled.panels {s : State} (h : Settled s) (ps : List Panel) (done : (ps.any fun p => decide (p.state = .done)) = s.donePending) :
    Settled { s with panels := ps } :=
  h.congr rfl rfl rfl rfl rfl rfl rfl rfl rfl rfl rfl (h.attn.congr rfl done rfl rfl rfl rfl)

theorem any_map_of_same {α : Type} (f : α → α) (test : α → Bool) (l : List α) (h : ∀ a, test (f a) = test a) : (l.map f).any test = l.any test := by
  rw [List.any_map]; congr 1; funext a; exact h a

theorem raise_state (f : Flag) (p : Panel) : (p.raise f).state = p.state := by unfold Panel.raise; split <;> rfl

/-- A flag raised against the panels that satisfy a test leaves a settled state settled. -/
theorem Settled.raiseWhere {s : State} (h : Settled s) (f : Flag) (test : Panel → Bool) : Settled (raiseWhere f test s) := by
  refine h.panels _ (any_map_of_same _ _ _ fun p => ?_)
  split
  · rw [raise_state]
  · rfl

theorem raiseFlag_eq (f : Flag) (r : PanelRef) (s : State) : raiseFlag f r s =
    { s with panels := s.panels.map (fun q => if q.serial = r.serial ∧ q.state ≠ .done ∧ f ∉ q.flags then { q with flags := q.flags ++ [f] } else q) } := by
  unfold raiseFlag updPanel
  congr 1
  refine List.map_congr_left fun q _ => ?_
  unfold Panel.raise
  by_cases serial : q.serial = r.serial <;> by_cases done : q.state = .done <;> by_cases held : f ∈ q.flags <;> simp [serial, done, held]

/-- Events queued bear on nothing but ATTN. -/
theorem Settled.linked {s : State} (h : Settled s) (l : Link) : Settled (attnUpdate { s with link := l }) :=
  h.congr rfl rfl rfl rfl rfl rfl rfl rfl rfl rfl rfl (attnUpdate_follows _)

theorem queueEvent_eq (e : Event) (s : State) : queueEvent e s = { s with link := (queueEvent e s).link } := by unfold queueEvent; split <;> rfl

theorem Settled.told {s : State} (h : Settled s) (e : Event) : Settled (attnUpdate (queueEvent e s)) := by
  rw [queueEvent_eq]; exact h.linked _

/-- Settles O11. -/
theorem cancelFlagsPanel : Obligations.CancelFlagsPanel := by
  intro s tag a b free settled synced
  refine ⟨fun p found running => ?_, fun p found done => ?_, fun unknown => ?_⟩
  · intro add
    have flagged : raiseFlag .cancelled p.ref s = { s with panels := s.panels.map add } := raiseFlag_eq _ _ _
    have still : Settled { s with panels := s.panels.map add } := by
      refine settled.panels _ (any_map_of_same _ _ _ fun q => ?_)
      dsimp only [add]; split <;> rfl
    refine congrArg Host.Outcome.next (request_answered (act := cancelAct (idAt [a, b])) (t := { s with panels := s.panels.map add })
      (d := fun _ => []) free rfl (.inr synced) ?_ rfl still rfl rfl)
    unfold cancelAct
    rw [show (holding ⟨0x11, tag, [a, b]⟩ s).byId? (idAt [a, b]) = some p from found]
    show (if p.state = .done then _ else _) = _
    rw [if_neg running, raiseFlag_eq]; rfl
  · refine congrArg Host.Outcome.next (request_refused (act := cancelAct (idAt [a, b])) free rfl (.inr synced) ?_ rfl nofun)
    unfold cancelAct
    rw [show (holding ⟨0x11, tag, [a, b]⟩ s).byId? (idAt [a, b]) = some p from found]
    exact if_pos done
  · refine congrArg Host.Outcome.next (request_refused (act := cancelAct (idAt [a, b])) free rfl (.inr synced) ?_ rfl nofun)
    unfold cancelAct
    rw [show (holding ⟨0x11, tag, [a, b]⟩ s).byId? (idAt [a, b]) = none from unknown]

/-! ### HOME-KNIFE and TEACH -/

/-- Settles O19. -/
theorem homeKnifeHomes : Obligations.HomeKnifeHomes := by
  intro s tag free settled synced may
  have act_of_free (h : may) (f : Frame) : homeKnifeAct (holding f s) =
      if s.station.knife = .homing ∨ s.station.knife.traversing then refuse .busy (holding f s)
      else ⟨.ok, homeKnifeLine (holding f s), fun t => t.station.knife.code⟩ := by
    obtain ⟨running, stopping, estop, moving⟩ := h
    refine if_neg ?_
    show ¬ (s.continuing = true ∨ s.inputs.eStop = true ∨ s.moving = true)
    unfold State.continuing
    simp [running, stopping, estop, moving]
  refine ⟨fun forbidden => ?_, fun allowed busy => ?_, fun allowed unhomed => ?_, fun allowed h at_home => ?_⟩
  · refine congrArg Host.Outcome.next (request_refused free rfl (.inr synced) (if_pos ?_) rfl nofun)
    show s.continuing = true ∨ s.inputs.eStop = true ∨ s.moving = true
    by_contra clear
    refine forbidden ?_
    unfold State.continuing at clear
    simp only [decide_eq_true_eq, not_or, Bool.not_eq_true] at clear
    exact ⟨clear.1.1, clear.1.2, clear.2.1, clear.2.2⟩
  · refine congrArg Host.Outcome.next (request_refused free rfl (.inr synced) ((act_of_free allowed _).trans (if_pos ?_)) rfl nofun)
    simpa [KnifeState.traversing] using busy
  · let t : State := { s with station := { s.station with knife := .homing, knifeTimer := some ⟨s.now, s.workNat .knifeTimeout⟩ } }
    have act : homeKnifeAct (holding ⟨0x25, tag, []⟩ s) = ⟨.ok, holding ⟨0x25, tag, []⟩ t, fun t => t.station.knife.code⟩ := by
      rw [act_of_free allowed, if_neg (by simp [unhomed, KnifeState.traversing])]
      unfold homeKnifeLine
      rw [show (holding ⟨0x25, tag, []⟩ s).station.knife = .unhomed from unhomed]; rfl
    have stopped : s.continuing = false := by unfold State.continuing; simp [allowed.1, allowed.2.1]
    have still : Settled t := by
      refine settled.station_change _ rfl ((pumpStep_eq_none_iff _).mpr ?_)
      obtain ⟨idle, preparing⟩ := (pumpStep_eq_none_iff s).mp settled.station
      refine ⟨idle, fun cycle e current prepared => ⟨(preparing cycle e current prepared).1, ?_⟩⟩
      show (_ && _ && s.continuing) = false
      rw [stopped, Bool.and_false]
    exact congrArg Host.Outcome.next (request_answered free rfl (.inr synced) act rfl still rfl rfl)
  · have act : homeKnifeAct (holding ⟨0x25, tag, []⟩ s) = ⟨.ok, queueEvent (.knifeHomed h) (holding ⟨0x25, tag, []⟩ s), fun t => t.station.knife.code⟩ := by
      rw [act_of_free allowed]
      unfold homeKnifeLine
      rcases at_home with ⟨rfl, knife⟩ | ⟨rfl, knife⟩ <;>
        simp only [knife, KnifeState.home?, KnifeState.traversing] <;> rfl
    have told : queueEvent (.knifeHomed h) (holding ⟨0x25, tag, []⟩ s) = holding ⟨0x25, tag, []⟩ (queueEvent (.knifeHomed h) s) := by
      unfold queueEvent; split <;> rfl
    have still : Settled (attnUpdate (queueEvent (.knifeHomed h) s)) := settled.told _
    rw [told] at act
    have answer := request_answered_attn (k := 0x25) (tag := tag) (n := 0) (u := false) free rfl (.inr synced) act rfl still (by simp)
      (by unfold State.freeCond State.feeding; simp)
    refine congrArg Host.Outcome.next (answer.trans ?_)
    congr 1
    show (attnUpdate (queueEvent (.knifeHomed h) s)).station.knife.code = _
    simp

/-- Settles O20. -/
theorem teachBegins : Obligations.TeachBegins := by
  intro s tag free settled synced teach watch t1 t2
  have started1 : Settled t1 := settled.congr rfl rfl rfl rfl rfl rfl rfl rfl rfl rfl rfl (settled.attn.congr rfl rfl rfl rfl rfl rfl)
  have started2 : Settled t2 := settled.congr rfl rfl rfl rfl rfl rfl rfl rfl rfl rfl rfl (settled.attn.congr rfl rfl rfl rfl rfl rfl)
  refine ⟨fun idle => ?_, fun idle => ?_, fun busy => ?_, fun busy => ?_, fun n ne1 ne2 => ?_⟩
  · refine congrArg Host.Outcome.next (request_answered (act := teachAct 1) (t := t1) (d := fun _ => []) free rfl (.inr synced) ?_ rfl started1 rfl rfl)
    refine (if_neg ?_ : teachAct 1 (holding ⟨0x26, tag, [1]⟩ s) = _)
    show ¬ s.sensor1.teach.isSome = true
    simp [idle]
  · refine congrArg Host.Outcome.next (request_answered (act := teachAct 2) (t := t2) (d := fun _ => []) free rfl (.inr synced) ?_ rfl started2 rfl rfl)
    refine (if_neg ?_ : teachAct 2 (holding ⟨0x26, tag, [2]⟩ s) = _)
    show ¬ s.sensor2.teach.isSome = true
    simp [idle]
  · exact congrArg Host.Outcome.next (request_refused (act := teachAct 1) free rfl (.inr synced) (if_pos busy) rfl nofun)
  · exact congrArg Host.Outcome.next (request_refused (act := teachAct 2) free rfl (.inr synced) (if_pos busy) rfl nofun)
  · have none : sensorOf n.toNat = none := by
      unfold sensorOf; split
      · rename_i one; exact absurd (BitVec.eq_of_toNat_eq one) ne1
      · rename_i two; exact absurd (BitVec.eq_of_toNat_eq two) ne2
      · rfl
    have exec_eq : exec (.teach tag [n]) s = .next (request 0x26 tag [n] 1 false (teachAct n.toNat) s) := by rw [← natAt_singleton n]; rfl
    rw [exec_eq]
    refine congrArg Host.Outcome.next (request_refused free rfl (.inr synced) ?_ rfl nofun)
    unfold teachAct; rw [none]

end Sys2Proof.Machine
end

section
/-!
SET-REGISTER (R84), the line requests refused (R168), the receiver (R186 to R189), the inputs that clear (R58, R61, R138, R144, R164, R165, R172, R181) and the
soundness of the state after a power-on.
-/
namespace Sys2Proof.Machine

/-! ### Requests that leave a state by its properties -/

/-- A request taken on a free link, as it leaves the state. -/
theorem request_served {s x : State} (free : LinkFree s) {k tag : Byte} {p : List Byte} {n : Nat} {u : Bool} {act : State → Answer} {st : Status}
    {d : State → List Byte} (hn : p.length = n) (hu : u = true ∨ s.link.synced = true) (h : act (holding ⟨k, tag, p⟩ s) = ⟨st, x, d⟩)
    (ok : st.taken = true) : request k tag p n u act s =
      let t := finish (holding ⟨k, tag, p⟩ s) x
      setReply (replyFor ⟨k, tag, p⟩ ⟨st, x, d⟩ t) t := by
  rw [request_fits free k tag p n u act hn hu]
  unfold serve; rw [h]
  dsimp only
  rw [if_pos ok]

/-- What the reply of a request taken carries. -/
theorem replyFor_taken (f : Frame) {st : Status} (ok : st.taken = true) (x t : State) (d : State → List Byte) :
    (replyFor f ⟨st, x, d⟩ t).status = st ∧ (replyFor f ⟨st, x, d⟩ t).data = d t := by
  unfold replyFor; rw [if_pos (.inl ok)]; exact ⟨rfl, rfl⟩

/-! ### SET-REGISTER -/

theorem queueEvents_eq (es : List Event) (s : State) : queueEvents es s = { s with link := (queueEvents es s).link } := by
  induction es generalizing s with
  | nil => rfl
  | cons e es ih =>
    refine (ih (queueEvent e s)).trans ?_
    show { queueEvent e s with link := (queueEvents es (queueEvent e s)).link } = { s with link := (queueEvents es (queueEvent e s)).link }
    generalize (queueEvents es (queueEvent e s)).link = l
    rw [queueEvent_eq e s]

theorem applyReg_eq (x : RegStep) (s : State) : applyReg x s = { s with reg := x.reg, link := (applyReg x s).link } := by
  unfold applyReg
  exact queueEvents_eq _ _

theorem Settled.registered {s : State} (h : Settled s) (r : RegBlock) (l : Link) : Settled (attnUpdate { s with reg := r, link := l }) :=
  h.congr rfl rfl rfl rfl rfl rfl rfl rfl rfl rfl rfl (attnUpdate_follows _)

/-- A change of the unit with its events ends as it stands, ATTN brought to its level. -/
theorem finish_applyReg {old s : State} (h : Settled s) (x : RegStep) (line : s.line = old.line) (run : s.freeCond = old.freeCond) :
    finish old (applyReg x s) = attnUpdate (applyReg x s) := by
  rw [applyReg_eq]
  exact finish_of_settled_attn (h.registered _ _) line run

theorem setRegister_manual_reg (c : Choice) (s : State) : (setRegister .manual c s).reg = { s.reg with
    lock := .manual, choice := c, register := .none, lockCount := 0, mode := if s.reg.mode = .seek then .seek else c.mode } := by
  have manual : setRegister .manual c s =
      (let x : RegStep := { reg := { s.reg with lock := .manual, register := .none, lockCount := 0, choice := c } }
      applyReg (if s.reg.mode = .seek then x else changeMode c.mode .host x) s) := by
    unfold setRegister; split <;> simp_all
  rw [manual, applyReg_eq]
  dsimp only
  by_cases seek : s.reg.mode = .seek
  · rw [if_pos seek, if_pos seek, ← seek]
  · rw [if_neg seek, if_neg seek]
    unfold changeMode takeOut
    dsimp only
    split
    · rename_i same; rw [← same]
    · split <;> simp

theorem setRegister_auto_reg {s : State} (manual : s.reg.lock = .manual) (c : Choice) :
    (setRegister .auto c s).reg = { s.reg with lock := .auto, register := .outOfRegister, lockCount := 0 } := by
  unfold setRegister; rw [manual]; dsimp only; rw [applyReg_eq]

/-- SET-REGISTER changes the unit and queues its events. -/
theorem setRegister_eq (l : LockMode) (c : Choice) (s : State) :
    setRegister l c s = { s with reg := (setRegister l c s).reg, link := (setRegister l c s).link } := by
  unfold setRegister; split
  · rfl
  · dsimp only; split
    · rw [applyReg_eq]
    · rw [applyReg_eq]
  · rw [applyReg_eq]

theorem finish_setRegister {old s : State} (h : Settled s) (l : LockMode) (c : Choice) (line : s.line = old.line) (run : s.freeCond = old.freeCond) :
    finish old (setRegister l c s) = attnUpdate (setRegister l c s) := by
  rw [setRegister_eq]
  exact finish_of_settled_attn (h.registered _ _) line run

theorem exec_setRegister (tag a b : Byte) (s : State) :
    exec (.setRegister tag [a, b]) s = .next (request 0x32 tag [a, b] 2 false (setRegisterAct a.toNat b.toNat) s) := by
  have first : natAt 0 1 [a, b] = a.toNat := by simp [natAt, part, leNat]
  have second : natAt 1 1 [a, b] = b.toNat := by simp [natAt, part, leNat]
  rw [← first, ← second]; rfl

/-- What a SET-REGISTER that is taken leaves. -/
theorem exec_setRegister_taken {s : State} (free : LinkFree s) (settled : Settled s) (synced : s.link.synced = true) {tag a b : Byte} {l : LockMode}
    {c : Choice} (h : setRegisterAct a.toNat b.toNat (holding ⟨0x32, tag, [a, b]⟩ s) = ⟨.ok, setRegister l c (holding ⟨0x32, tag, [a, b]⟩ s), registerData⟩) :
    ∃ t, exec (.setRegister tag [a, b]) s = .next t ∧ t.reg = (setRegister l c (holding ⟨0x32, tag, [a, b]⟩ s)).reg
      ∧ t.panels = s.panels ∧ t.planner = s.planner ∧ t.drives = s.drives ∧ t.station = s.station ∧ t.line = s.line
      ∧ t.cursor2 = s.cursor2 ∧ t.lam = s.lam := by
  refine ⟨_, (exec_setRegister tag a b s).trans (congrArg _ (request_served free rfl (.inr synced) h rfl)), ?_⟩
  dsimp only
  rw [finish_setRegister (settled_holding settled _) l c rfl rfl, setRegister_eq]
  exact ⟨rfl, rfl, rfl, rfl, rfl, rfl, rfl, rfl⟩

/-- Settles O23. -/
theorem setRegisterSetsLock : Obligations.SetRegisterSetsLock := by
  intro s tag b free settled synced
  refine ⟨fun c choice => ?_, fun manual => ?_, fun auto => ?_, fun a ne1 ne2 => ?_⟩
  · have act (x : State) : setRegisterAct (2 : Byte).toNat b.toNat x = ⟨.ok, setRegister .manual c x, registerData⟩ := by
      cases c <;> rw [choice] <;> rfl
    obtain ⟨t, e, reg, rest⟩ := exec_setRegister_taken free settled synced (act _)
    rw [setRegister_manual_reg] at reg
    cases c <;> exact ⟨t, e, reg, rest⟩
  · obtain ⟨t, e, reg, rest⟩ := exec_setRegister_taken (tag := tag) (a := 1) (b := b) (l := .auto) (c := s.reg.choice) free settled synced rfl
    exact ⟨t, e, reg.trans (setRegister_auto_reg (s := holding ⟨0x32, tag, [1, b]⟩ s) manual s.reg.choice), rest⟩
  · rw [exec_setRegister]
    refine congrArg Host.Outcome.next (request_answered (st := .ok) (t := s) (d := registerData) free rfl (.inr synced) ?_ rfl settled rfl rfl |>.trans ?_)
    · show (⟨.ok, setRegister .auto s.reg.choice _, registerData⟩ : Answer) = _
      congr 1
      unfold setRegister
      rw [show (holding ⟨0x32, tag, [1, b]⟩ s).reg.lock = .auto from auto]
    · show answered _ _ (s.reg.lock.code ++ s.reg.mode.code ++ s.reg.register.code) s = _
      rw [auto]
  · rw [exec_setRegister]
    refine congrArg Host.Outcome.next (request_refused free rfl (.inr synced) ?_ rfl nofun)
    unfold setRegisterAct; split
    · rename_i one; exact absurd (BitVec.eq_of_toNat_eq one) ne1
    · rename_i two _; exact absurd (BitVec.eq_of_toNat_eq two) ne2
    · rfl

/-! ### The line requests refused -/

theorem present_eq (s : State) (c : FaultCause) : s.present c = (match c with
      | .encoder1 => s.roll1.fault
      | .encoder2 => s.roll2.fault
      | .dancer => s.loop.faulted
      | .tempSensor => s.lam.sensorFaulted
      | .overtemp => s.lam.lockout
      | .knifeTimeout => decide (s.station.knife = .unhomed ∨ s.station.knife = .homing)
      | .gateTimeout => !s.station.gate.confirmed
      | .bladeTimeout => s.station.blades.any (fun b => !b.confirmed)
      | .nipTimeout => s.straps.laminator && decide (s.lam.nip = .closing ∨ s.lam.nip = .opening)
      | .inDrive => s.inputs.inDrive
      | .outDrive => s.inputs.outDrive
      | .moveTimeout => s.drives.timeoutFlag
      | .estop => s.inputs.eStop || decide (s.station.knife = .unhomed ∨ s.station.knife = .homing)) := by
  cases c with
  | bladeTimeout => exact List.not_all_eq_any_not
  | _ => rfl

theorem canThread_iff (s : State) : s.canThread = true ↔ (∀ p ∈ s.panels, p.state = .done) ∧ (s.station.knife = .homeL ∨ s.station.knife = .homeR)
    ∧ s.sampler.dancer.isSome = true ∧ s.loop.faulted = false := by
  unfold State.canThread KnifeState.atHome
  simp [and_assoc]

/-- A line request refused BAD_STATE. -/
theorem lineRequest_refused {s : State} (free : LinkFree s) (synced : s.link.synced = true) {k tag : Byte} {act : State → Answer}
    (h : act (holding ⟨k, tag, []⟩ s) = refuse .badState (holding ⟨k, tag, []⟩ s)) :
    (Host.Outcome.next (request k tag [] 0 false act s) : Host.Outcome State Fault Refusal) = .next (answered ⟨k, tag, []⟩ .badState [] s) :=
  congrArg Host.Outcome.next (request_refused free rfl (.inr synced) h rfl nofun)

/-- Settles O13. -/
theorem lineRequestsRefused : Obligations.LineRequestsRefused := by
  intro s tag free synced lost present
  have present_eq (c : FaultCause) : s.present c = present c := (present_eq s c).trans (by cases c <;> rfl)
  refine ⟨fun bad => lineRequest_refused free synced ?_, fun bad => lineRequest_refused free synced (if_neg bad),
    fun bad => lineRequest_refused free synced (if_neg bad), fun bad => lineRequest_refused free synced (if_neg bad),
    fun bad => lineRequest_refused free synced ?_⟩
  · unfold threadAct
    split
    · rename_i allowed
      refine if_neg fun can => ?_
      obtain ⟨done, home, dancer, sound⟩ := (canThread_iff _).mp can
      rcases bad with state | ⟨p, hp, unfinished⟩ | knife | absent | faulted
      · exact state allowed
      · exact unfinished (done p hp)
      · exact knife home
      · exact absurd dancer (by rw [show (holding _ s).sampler.dancer = none from absent]; exact Bool.false_ne_true)
      · exact absurd (faulted.symm.trans sound) nofun
    · rfl
  · unfold resumeAct
    split
    · rename_i state
      refine if_pos ?_
      rcases bad with out | ⟨_, f, hf, cause⟩ | ⟨estopped, _⟩
      · exact absurd (.inl state) out
      · unfold State.firstPresent
        rw [show (holding _ s).line.firstFault = some f from hf]
        exact (present_eq f.cause).trans cause
      · exact absurd (state.symm.trans estopped) nofun
    · rename_i state
      refine if_pos ?_
      rcases bad with out | ⟨faulted, _⟩ | ⟨_, estop⟩
      · exact absurd (.inr state) out
      · exact absurd (state.symm.trans faulted) nofun
      · exact (present_eq .estop).trans estop
    · rfl

/-! ### Inputs that clear -/

/-- A level that is only read leaves a settled state settled. -/
theorem Settled.inputs {s : State} (h : Settled s) (i : Inputs) : Settled { s with inputs := i } :=
  h.congr rfl rfl rfl rfl rfl rfl rfl rfl rfl rfl rfl (h.attn.congr rfl rfl rfl rfl rfl rfl)

theorem inputEvent_of_running {s : State} (running : s.heldBy = []) (level : Inputs → Inputs) (f : State → State) :
    inputEvent level f s = finish s (f { s with inputs := level s.inputs }) := by
  unfold inputEvent; rw [inReset_of_nil running]; rfl

theorem inputEvent_reads {s : State} (h : Settled s) (level : Inputs → Inputs) : inputEvent level id s = { s with inputs := level s.inputs } := by
  rw [inputEvent_of_running h.running]
  exact finish_of_settled (h.inputs _) rfl rfl

/-- Settles O50. -/
theorem inputsClear : Obligations.InputsClear := by
  intro s settled only
  have reads (level : Inputs → Inputs) : (Host.Outcome.next (inputEvent level id s) : Host.Outcome State Fault Refusal) = only (level s.inputs) :=
    congrArg _ (inputEvent_reads settled level)
  exact ⟨reads _, reads _, reads _, reads _, reads _, reads _, reads _, reads _⟩

/-! ### The receiver -/

/-- Settles O27. -/
theorem linkLineEvents : Obligations.LinkLineEvents := by
  intro s
  refine ⟨fun held frame => congrArg _ (if_neg ?_), fun hunt => congrArg _ (if_pos (.inr hunt)), fun r reply => ?_, fun held => congrArg _ (if_neg ?_)⟩
  · simp [inReset_of_nil held, frame]
  · show Host.Outcome.next _ = _
    rw [reply]
  · simp [inReset_of_nil held]

theorem exec_frameReceived {s : State} (h : s.receives = true) (bs : List RxByte) :
    exec (.frameReceived bs) s = .next (bs.foldl (fun s b => receiveByte b s) s) := congrArg _ (if_pos h)

section receiverStates
variable {s : State} {b : Byte}

theorem receiveByte_unstopped : receiveByte ⟨b, false⟩ s = discardFraming s := rfl
theorem receiveByte_hunt (h : s.link.rx = .hunt) : receiveByte ⟨b, true⟩ s = if b = 0x5A then setRx .length s else s := by
  unfold receiveByte; rw [h]; rfl
theorem receiveByte_length (h : s.link.rx = .length) :
    receiveByte ⟨b, true⟩ s = if 2 ≤ b.toNat ∧ b.toNat ≤ 250 then setRx (.body b.toNat []) s else discardFraming s := by
  unfold receiveByte; rw [h]; rfl
theorem receiveByte_body {n : Nat} {got : List Byte} (h : s.link.rx = .body n got) :
    receiveByte ⟨b, true⟩ s = setRx (if got.length + 1 < n then .body n (got ++ [b]) else .check n (got ++ [b]) []) s := by
  unfold receiveByte; rw [h]
  dsimp only
  rw [List.length_append, List.length_singleton, if_neg (by simp)]
  split <;> rfl
theorem receiveByte_check {n : Nat} {got : List Byte} (h : s.link.rx = .check n got []) : receiveByte ⟨b, true⟩ s = setRx (.check n got [b]) s := by
  unfold receiveByte; rw [h]; rfl
theorem receiveByte_last {n : Nat} {got : List Byte} {c : Byte} (h : s.link.rx = .check n got [c]) : receiveByte ⟨b, true⟩ s = crcTest n got [c, b] s := by
  unfold receiveByte; rw [h]; rfl

end receiverStates

/-- Settles O26. -/
theorem receiverTakesByte : Obligations.ReceiverTakesByte := by
  intro s b after dropped
  refine ⟨fun deaf => congrArg _ (if_neg ?_), fun held armed => ?_⟩
  · rw [receives_iff]
    rintro ⟨held, armed⟩
    rcases deaf with h | h
    · exact h held
    · exact absurd (h.symm.trans armed) nofun
  · have hears := (receives_iff s).mpr ⟨held, armed⟩
    simp only [exec_frameReceived hears, List.foldl]
    refine ⟨rfl, fun h => ?_, fun h => ?_, fun n got h => ?_, fun n got h => ?_, fun n got c h wrong => ?_⟩
    · rw [receiveByte_hunt h]; rfl
    · rw [receiveByte_length h]; rfl
    · rw [receiveByte_body h]; rfl
    · rw [receiveByte_check h]; rfl
    · rw [receiveByte_last h]
      have number : leNat [c, b] = c.toNat + 256 * b.toNat := by simp [leNat]
      unfold crcTest
      rw [number]
      exact congrArg _ (if_neg (Ne.symm wrong))

/-- The bytes of a body come in one by one, and the CRC's come next (R186). -/
theorem receive_body (n : Nat) (bs : List Byte) : ∀ (got : List Byte) (s : State), s.link.rx = .body n got → bs ≠ [] → got.length + bs.length = n →
    (bs.map (fun b => (⟨b, true⟩ : RxByte))).foldl (fun s b => receiveByte b s) s = setRx (.check n (got ++ bs) []) s := by
  induction bs with
  | nil => intro _ _ _ h; exact absurd rfl h
  | cons b bs ih =>
    intro got s h _ length
    rw [List.length_cons] at length
    rw [List.map_cons, List.foldl_cons, receiveByte_body h]
    cases bs with
    | nil =>
      rw [if_neg (by rw [List.length_nil] at length; omega)]; rfl
    | cons c cs =>
      rw [List.length_cons] at length
      rw [if_pos (by omega)]
      refine (ih (got ++ [b]) _ rfl nofun (by simp; omega)).trans ?_
      rw [List.append_assoc]; rfl

theorem leNat_crcBytes (c : BitVec 16) : leNat (crcBytes c) = c.toNat := by
  have := c.isLt
  simp only [crcBytes, leBytes, leNat, BitVec.toNat_ofNat]
  omega

/-- The bytes of an intact frame leave the receiver in HUNT with the frame handed on (R186, R199). -/
theorem receive_frame {s : State} (kind tag : Byte) (p : List Byte) (hunt : s.link.rx = .hunt) (short : p.length ≤ 248) :
    ((frameBytes kind tag p).map (fun b => (⟨b, true⟩ : RxByte))).foldl (fun s b => receiveByte b s) s = bufferFrame ⟨kind, tag, p⟩ s := by
  have len : (BitVec.ofNat 8 (p.length + 2)).toNat = p.length + 2 := by rw [BitVec.toNat_ofNat]; omega
  have start : receiveByte ⟨0x5A, true⟩ s = setRx .length s := by rw [receiveByte_hunt hunt]; rfl
  have length : receiveByte ⟨BitVec.ofNat 8 (p.length + 2), true⟩ (setRx .length s) = setRx (.body (p.length + 2) []) s := by
    rw [receiveByte_length rfl, len, if_pos (by omega)]; rfl
  have body := receive_body (p.length + 2) (kind :: tag :: p) [] (setRx (.body (p.length + 2) []) s) rfl nofun (by simp)
  have bytes : frameBytes kind tag p = 0x5A :: BitVec.ofNat 8 (p.length + 2) :: ((kind :: tag :: p)
      ++ crcBytes (crc16 (BitVec.ofNat 8 (p.length + 2) :: kind :: tag :: p))) := by
    simp [frameBytes, byteField, leBytes]
  rw [bytes, List.map_cons, List.map_cons, List.foldl_cons, List.foldl_cons, start, length, List.map_append, List.foldl_append, body]
  have crc := leNat_crcBytes (crc16 (BitVec.ofNat 8 (p.length + 2) :: kind :: tag :: p))
  have back (r : Rx) : setRx .hunt (setRx r s) = s := by
    show { s with link := { s.link with rx := .hunt } } = s
    rw [← hunt]
  unfold crcBytes leBytes leBytes leBytes at crc ⊢
  rw [List.map_cons, List.map_cons, List.map_nil, List.foldl_cons, List.foldl_cons, List.foldl_nil,
    receiveByte_check (s := setRx (.check (p.length + 2) ([] ++ kind :: tag :: p) []) _) rfl, receiveByte_last rfl]
  unfold crcTest
  dsimp only [List.nil_append]
  rw [if_pos crc]
  exact congrArg _ (back _)

/-- Settles O25. -/
theorem intactFrameReceived : Obligations.IntactFrameReceived := by
  intro s kind tag p held armed hunt short
  rw [exec_frameReceived ((receives_iff s).mpr ⟨held, armed⟩), receive_frame kind tag p hunt short]
  exact ⟨fun room => congrArg _ (bufferFrame_of_room room), fun full => congrArg _ (bufferFrame_of_full full)⟩

/-! ### After a power-on -/

theorem reset_calSound : CalSound State.reset := by
  have ranges (e : CalEntry) : e.inRange (State.reset.work e) = true := by
    have loaded : State.reset.work e = e.row.default := calDefaults_getD e
    rw [loaded]; exact default_inRange e
  exact ⟨rfl, rfl, ranges, by decide, nofun, nofun⟩

theorem reset_settled : Settled State.reset := ⟨rfl, rfl, rfl, rfl, rfl, rfl, rfl, rfl, rfl⟩

/-- Settles O54: the state is given outright. -/
theorem resetIsSound : Obligations.ResetIsSound := by
  have panels : State.reset.panels = [] := rfl
  have queue : State.reset.planner.queue = [] := rfl
  have none {P : Panel → Prop} : ∀ p ∈ State.reset.panels, P p := fun p hp => absurd (panels ▸ hp) List.not_mem_nil
  have ascending : QueueAscending State.reset := by unfold QueueAscending; rw [queue]; exact List.Pairwise.nil
  have counted : PiecesCounted State.reset := ⟨none, fun e he => absurd (queue ▸ he) List.not_mem_nil⟩
  have order : InPlanOrder State.reset := ⟨panels ▸ List.Pairwise.nil, fun e he => (nomatch he), fun e he => (nomatch he)⟩
  exact ⟨reset_settled, reset_settled.infeed, reset_settled.attn, ⟨rfl, rfl⟩, ⟨Nat.zero_le _, Nat.zero_le _, nofun⟩, Nat.zero_le _,
    ⟨none, panels ▸ List.nodup_nil⟩, ⟨by decide, by decide⟩, ⟨Nat.zero_le _, List.Pairwise.nil⟩, ascending, ⟨queue ▸ List.Pairwise.nil, Nat.zero_le _⟩,
    reset_calSound, counted, order⟩

end Sys2Proof.Machine
end

section
/-!
How an event ends on a state that is not settled: each level as a value, and the end of an event where the line does not feed (R136, R145, R158, R160, R162, R183,
R196).
-/
namespace Sys2Proof.Machine

/-- The dwell timer as an event leaves it (R162). -/
def State.dwellAfter (s : State) : Option Dwell :=
  if s.dwellRuns then s.lam.dwell.or (some ⟨s.now, s.workNat .dwellMark, s.workNat .dwellMax, false⟩) else none

/-- The idle timer as an event leaves it (R158). -/
def State.idleAfter (s : State) : Option Timer :=
  if s.idleRuns then s.lam.idle.or (some (s.startTimer (1000 * s.workNat .tIdle))) else none

/-- The starvation watch as an event leaves it (R145). -/
def State.starveAfter (s : State) : Option Watch :=
  match s.starveLimit with
  | some l => if s.watches.starve.any (fun w => decide (w.limit = l)) then s.watches.starve else some (watchPasses s.p1 l)
  | none => none

theorem dwellUpdate_eq (s : State) : dwellUpdate s = { s with lam := { s.lam with dwell := s.dwellAfter } } := by
  have same {o : Option Dwell} (h : s.lam.dwell = o) : s = { s with lam := { s.lam with dwell := o } } := h ▸ rfl
  unfold dwellUpdate State.dwellAfter
  split
  · split
    · rename_i runs
      obtain ⟨d, hd⟩ := Option.isSome_iff_exists.mp runs
      exact same (by rw [hd]; rfl)
    · rename_i stands
      rw [Option.not_isSome_iff_eq_none.mp stands]; rfl
  · split
    · rfl
    · rename_i stands
      exact same (Option.not_isSome_iff_eq_none.mp stands)

theorem idleUpdate_eq (s : State) : idleUpdate s = { s with lam := { s.lam with idle := s.idleAfter } } := by
  have same {o : Option Timer} (h : s.lam.idle = o) : s = { s with lam := { s.lam with idle := o } } := h ▸ rfl
  unfold idleUpdate State.idleAfter
  split
  · split
    · rename_i runs
      obtain ⟨d, hd⟩ := Option.isSome_iff_exists.mp runs
      exact same (by rw [hd]; rfl)
    · rename_i stands
      rw [Option.not_isSome_iff_eq_none.mp stands]; rfl
  · split
    · rfl
    · rename_i stands
      exact same (Option.not_isSome_iff_eq_none.mp stands)

theorem starveUpdate_eq (s : State) : starveUpdate s = { s with watches := { s.watches with starve := s.starveAfter } } := by
  have same {o : Option Watch} (h : s.watches.starve = o) : s = { s with watches := { s.watches with starve := o } } := h ▸ rfl
  unfold starveUpdate State.starveAfter
  cases s.starveLimit with
  | none =>
    dsimp only; split
    · rfl
    · rename_i stands
      exact same (Option.not_isSome_iff_eq_none.mp stands)
  | some l => dsimp only; split <;> rfl

/-- The levels as an event leaves them, the nip not commanded close. -/
def levelled (u : State) : State :=
  { u with
    drives := { u.drives with infeedRef := u.infeedReference }
    lam := { u.lam with dwell := (infeedUpdate u).dwellAfter, idle := u.idleAfter }
    watches := { u.watches with starve := u.starveAfter } }

theorem bringUp_eq_levelled {u : State} (close : u.closeDemand = false) : bringUp u = levelled u := by
  unfold bringUp
  rw [closeUpdate_of_none close, dwellUpdate_eq, idleUpdate_eq, starveUpdate_eq]
  rfl

/-- With the free run and the nip as they are and nothing for the station to do, an event brings up the levels and reports the line. -/
theorem finish_eq_levelled {old u : State} (station : pumpStep u = none) (stop : u.stopEnds = false)
    (run : u.freeCond = true → old.freeCond = true) (close : u.closeDemand = false) :
    finish old u = attnUpdate (lineUpdate old (levelled u)) := by
  unfold finish
  rw [pump_of_none _ station, endStop_of_stands stop]
  have free : freeUpdate old u = u := by
    unfold freeUpdate
    exact if_neg fun h => h.2.1 (run h.1)
  rw [free, bringUp_eq_levelled close]

theorem closeDemand_of_not_feeding {u : State} (h : u.feeding = false) : u.closeDemand = false := by unfold State.closeDemand; simp [h]
theorem freeCond_of_not_feeding {u : State} (h : u.feeding = false) : u.freeCond = false := by unfold State.freeCond; simp [h]
theorem infeedReference_of_not_feeding {u : State} (h : u.feeding = false) : u.infeedReference = 0 := by
  unfold State.infeedReference State.lineAllowance; simp [h]
theorem starveAfter_of_not_feeding {u : State} (h : u.feeding = false) : u.starveAfter = none := by
  unfold State.starveAfter State.starveLimit; simp [h]

/-- An event that leaves the line not feeding and the station at rest. -/
theorem finish_of_not_feeding {old u : State} (feeding : u.feeding = false) (station : pumpStep u = none) (stop : u.stopEnds = false) :
    finish old u = attnUpdate (lineUpdate old (levelled u)) :=
  finish_eq_levelled station stop (fun h => absurd h (by simp [freeCond_of_not_feeding feeding])) (closeDemand_of_not_feeding feeding)

/-- The line is reported by one event, where its state or its stop record has changed (R183). -/
theorem lineUpdate_eq (old s : State) : lineUpdate old s = { s with link := (lineUpdate old s).link } := by
  unfold lineUpdate; split
  · rfl
  · exact queueEvent_eq _ _

theorem lineUpdate_of_same {old s : State} (state : s.line.state = old.line.state) (stop : s.line.stop = old.line.stop) : lineUpdate old s = s :=
  if_pos ⟨state, stop⟩

theorem lineUpdate_of_changed {old s : State} (h : s.line.state ≠ old.line.state) : lineUpdate old s = queueEvent s.line.event s :=
  if_neg fun x => h x.1

end Sys2Proof.Machine
end

section
/-!
Resets (R207 to R210) and the steps of an encoder (R25 to R31).
-/
namespace Sys2Proof.Machine

/-! ### Taking a reset -/

theorem cutWrite_eq (s : State) : cutWrite s = { s with cal := { s.cal with
    write := none
    store := match s.cal.write with
      | some (i, _) => s.cal.store.modify i (fun e => { e with checkOk := false })
      | none => s.cal.store } } := by
  unfold cutWrite
  cases h : s.cal.write with
  | none =>
    show s = { s with cal := { s.cal with write := none } }
    rw [← h]
  | some w => rfl

theorem knifeByHomes_eq (i : Inputs) : knifeByHomes i = knifeStands i := by
  unfold knifeByHomes knifeFollows knifeStands
  cases i.homeL <;> cases i.homeR <;> rfl

theorem resetHeld_beginReset (k : ResetKind) (s : State) : ResetHeld s (beginReset k s) := by
  unfold beginReset
  rw [cutWrite_eq]
  exact
    { outputs := ⟨rfl, rfl⟩, list := ⟨rfl, rfl⟩, rolls := ⟨rfl, rfl⟩, watches := rfl, converter := ⟨rfl, rfl, rfl, rfl⟩, loop := rfl
      teach := ⟨rfl, rfl⟩, cursors := ⟨rfl, rfl, rfl⟩, reg := ⟨rfl, rfl, rfl, rfl, rfl⟩, planner := rfl, station := ⟨rfl, rfl, rfl, rfl⟩
      knife := ⟨rfl, knifeByHomes_eq _⟩, drives := rfl, lam := ⟨rfl, rfl, rfl, rfl⟩, line := rfl, link := rfl
      kept := ⟨rfl, rfl, rfl, rfl, rfl⟩, store := rfl }

theorem mem_addKind (j k : ResetKind) (ks : List ResetKind) : j ∈ addKind k ks ↔ j = k ∨ j ∈ ks := by
  unfold addKind; split
  · rename_i h
    exact ⟨.inr, fun x => x.elim (fun e => e ▸ h) id⟩
  · rw [List.mem_append, List.mem_singleton, or_comm]

theorem beginReset_kept (k : ResetKind) (s : State) : k ∈ (beginReset k s).heldBy ∧ (beginReset k s).straps = s.straps
    ∧ (beginReset k s).causes = s.causes := by
  unfold beginReset
  rw [cutWrite_eq]
  exact ⟨(mem_addKind _ _ _).mpr (.inl rfl), rfl, rfl⟩

/-- The causes alone have changed where a reset is taken (R209). -/
theorem ResetHeld.of_causes {s t : State} {c : List ResetKind} {x : Straps} (h : ResetHeld { s with causes := c, straps := x } t) : ResetHeld s t :=
  ⟨h.outputs, h.list, h.rolls, h.watches, h.converter, h.loop, h.teach, h.cursors, h.reg, h.planner, h.station, h.knife, h.drives, h.lam, h.line,
    h.link, h.kept, h.store⟩

theorem reset_takes (k : ResetKind) (s : State) : ResetHeld s (beginReset k (addCause k s)) ∧ k ∈ (beginReset k (addCause k s)).heldBy
    ∧ (beginReset k (addCause k s)).straps = s.straps ∧ ∀ j, j ∈ (beginReset k (addCause k s)).causes ↔ j = k ∨ j ∈ s.causes := by
  obtain ⟨held, straps, causes⟩ := beginReset_kept k (addCause k s)
  refine ⟨(resetHeld_beginReset k (addCause k s)).of_causes (x := s.straps), held, straps, fun j => ?_⟩
  rw [causes]; exact mem_addKind j k s.causes

theorem readStraps_blades : ∀ n : BitVec 3, min 6 n.toNat = if n = 7 then 6 else n.toNat := by decide

/-- Settles O28. -/
theorem resetsTakeHold : Obligations.ResetsTakeHold := by
  intro s
  refine ⟨fun n l b => ?_, ⟨_, rfl, reset_takes .resetPin s⟩, fun armed => ⟨_, congrArg Host.Outcome.next (if_pos armed), reset_takes .linkBreak s⟩,
    fun deaf => congrArg _ (if_neg (by rw [deaf]; exact Bool.false_ne_true)), fun free => ⟨_, congrArg Host.Outcome.next (if_neg free), reset_takes .supplyLow s⟩,
    fun held => congrArg _ (if_pos held)⟩
  obtain ⟨held, straps, causes⟩ := beginReset_kept .powerOn { s with causes := [.powerOn], straps := readStraps n l b }
  refine ⟨_, rfl, (resetHeld_beginReset _ _).of_causes, held, causes, straps.trans ?_⟩
  show readStraps n l b = _
  unfold readStraps
  rw [readStraps_blades]

/-! ### Steps of an encoder -/

theorem dueWhen_eq (w : Watch) (c : Prop) [Decidable c] (b : Bool) (h : c ↔ b = true) :
    (if c then { w with due := true } else w) = { w with due := w.due || b } := by
  by_cases x : c
  · rw [if_pos x, h.mp x, Bool.or_true]
  · rw [if_neg x, Bool.eq_false_iff.mpr fun y => x (h.mpr y), Bool.or_false]

theorem stepPasses_eq (old new : Int) : Watch.stepPasses old new = watchAfter true old new :=
  funext fun w => dueWhen_eq w _ _ (by simp)

theorem stepReaches_eq (old new : Int) : Watch.stepReaches old new = watchAfter false old new :=
  funext fun w => dueWhen_eq w _ _ (by simp)

theorem transition_forward (r : Roll) (p : Bool × Bool) (s : State) : transition r p (nextPair p) s = countStep r 1 s := by
  obtain ⟨a, b⟩ := p
  cases a <;> cases b <;> rfl
theorem transition_backward (r : Roll) (p : Bool × Bool) (s : State) : transition r (nextPair p) p s = countStep r (-1) s := by
  obtain ⟨a, b⟩ := p
  cases a <;> cases b <;> rfl

/-- A legal change of levels is a step of the count (R25). -/
theorem transition_of_step (r : Roll) {old new : Bool × Bool} {d : Int} (h : new = nextPair old ∧ d = 1 ∨ nextPair new = old ∧ d = -1) (s : State) :
    transition r old new s = countStep r d s := by
  rcases h with ⟨rfl, rfl⟩ | ⟨rfl, rfl⟩
  · exact transition_forward r old s
  · exact transition_backward r new s

theorem exec_encoderStep (r : Roll) (a b : Bool) {s : State} (running : s.heldBy = []) :
    exec (.encoderStep r a b) s =
      .next (finish s (transition r (s.inputs.channels r) (a, b) { s with inputs := setChannels r a b s.inputs })) :=
  congrArg Host.Outcome.next (inputEvent_of_running running _ _)

theorem countStep_within {r : Roll} {d : Int} {s : State} (h : ((s.roll r).count + d).natAbs ≤ 549755813887) :
    countStep r d s = stepWatches r (s.roll r).pos (moveRoll d (s.roll r)).pos (setRoll r (moveRoll d (s.roll r)) s) :=
  if_pos (by unfold countLimit; omega)

theorem moveRoll_eq (d : Int) (r : RollBlock) : moveRoll d r = rollAfter d r := rfl

theorem map_limit_watchAfter (w : Option Watch) (passes : Bool) (old new : Int) : (w.map (watchAfter passes old new)).map (·.limit) = w.map (·.limit) := by
  cases w <;> rfl

/-- Settles O30: the step moves the roll and its watches, and no level depends on them. -/
theorem encoderStepMovesRoll : Obligations.EncoderStepMovesRoll := by
  intro s a b d settled
  refine ⟨fun step within => ?_, fun step within => ?_⟩
  · intro passes reaches
    have moved := countStep_within (r := .e1) (d := d) (s := { s with inputs := { s.inputs with e1A := a, e1B := b } }) within
    refine (exec_encoderStep .e1 a b settled.running).trans (congrArg Host.Outcome.next ?_)
    refine (congrArg (finish s) ((transition_of_step .e1 step _).trans moved)).trans ?_
    unfold stepWatches setRoll Watches.stepP1
    rw [stepPasses_eq, stepReaches_eq]
    refine finish_of_settled (settled.congr rfl rfl rfl rfl rfl rfl rfl rfl rfl rfl ?_ (settled.attn.congr rfl rfl rfl rfl rfl rfl)) rfl rfl
    exact map_limit_watchAfter s.watches.starve _ _ _
  · intro passes reaches
    have moved := countStep_within (r := .e2) (d := d) (s := { s with inputs := { s.inputs with e2A := a, e2B := b } }) within
    refine (exec_encoderStep .e2 a b settled.running).trans (congrArg Host.Outcome.next ?_)
    refine (congrArg (finish s) ((transition_of_step .e2 step _).trans moved)).trans ?_
    unfold stepWatches setRoll Watches.stepP2
    rw [stepPasses_eq, stepReaches_eq]
    exact finish_of_settled (settled.congr rfl rfl rfl rfl rfl rfl rfl rfl rfl rfl rfl (settled.attn.congr rfl rfl rfl rfl rfl rfl)) rfl rfl

end Sys2Proof.Machine
end

section
/-!
The end of a reset (R204, R210): the kind that goes, the load of the calibration entry by entry, and the state the part starts in.
-/
namespace Sys2Proof.Machine

/-! ### The kind that goes -/

theorem endHold_of_next {s : State} {k : ResetKind} (next : s.nextToGo = some k) : endHold s =
    if s.heldBy.filter (fun j => decide (j ≠ k)) = [] then startUp s else { s with heldBy := s.heldBy.filter (fun j => decide (j ≠ k)) } := by
  unfold endHold; rw [next]

theorem nextToGo_of_first {s : State} {k : ResetKind} (h : k ∈ s.heldBy) (first : k = .powerOn ∨ (.powerOn ∉ s.heldBy ∧ s.heldBy.head? = some k)) :
    s.nextToGo = some k := by
  unfold State.nextToGo
  rcases first with rfl | ⟨other, head⟩
  · exact if_pos h
  · rw [if_neg other]; exact head

theorem nextToGo_of_alone {s : State} {k : ResetKind} (h : k ∈ s.heldBy) (alone : ∀ j ∈ s.heldBy, j = k) : s.nextToGo = some k := by
  refine nextToGo_of_first h ?_
  by_cases power : k = .powerOn
  · exact .inl power
  · refine .inr ⟨fun held => power (alone _ held).symm, ?_⟩
    cases held : s.heldBy with
    | nil => rw [held] at h; cases h
    | cons j js => exact congrArg some (alone j (by rw [held]; exact List.mem_cons_self))

/-! ### The load -/

theorem goodEntry_eq (e : CalEntry) (x : StoredEntry) :
    goodEntry e x = decide (x.checkOk = true ∧ e.row.lo ≤ x.value ∧ x.value ≤ e.row.hi) := by
  unfold goodEntry CalEntry.inRange; simp

theorem loadValue_eq (e : CalEntry) (x : StoredEntry) : loadValue (e, x) = loadedValue e x := by
  unfold loadValue loadedValue
  rw [goodEntry_eq]
  simp only [decide_eq_true_eq]

theorem loaded_eq (s : State) : (withStore s.cal.store).map loadValue = loadedAll s :=
  List.map_congr_left fun x _ => loadValue_eq x.1 x.2

/-- The entry of a number with its stored value. -/
theorem withStore_getElem {store : List StoredEntry} {e : CalEntry} {x : StoredEntry} (h : store[e.index]? = some x) :
    (withStore store)[e.index]? = some (e, x) := by
  unfold withStore
  rw [List.getElem?_zip_eq_some]
  exact ⟨calEntries_getElem e, h⟩

theorem bitsOf_getLsbD (bs : List Bool) (n : Nat) : (bitsOf bs).getLsbD n = (decide (n < 64) && bs.getD n false) := by
  have fold (bs : List Bool) : ∀ (k : Nat) (acc : BitVec 64),
      ((bs.zipIdx k).foldl (fun acc b => if b.1 then acc ||| BitVec.twoPow 64 b.2 else acc) acc).getLsbD n
        = (acc.getLsbD n || (decide (n < 64) && decide (k ≤ n) && bs.getD (n - k) false)) := by
    induction bs with
    | nil => intro k acc; simp
    | cons b bs ih =>
      intro k acc
      rw [List.zipIdx_cons, List.foldl_cons, ih]
      rcases Nat.lt_trichotomy n k with below | rfl | above
      · have : ¬ k ≤ n := by omega
        have : ¬ k + 1 ≤ n := by omega
        have : k ≠ n := by omega
        cases b <;> simp [*, BitVec.getLsbD_twoPow]
      · cases b <;> simp [BitVec.getLsbD_twoPow]
      · have : k ≤ n := by omega
        have : k + 1 ≤ n := by omega
        have : k ≠ n := by omega
        cases b <;> simp [*, BitVec.getLsbD_twoPow, show n - k = n - (k + 1) + 1 by omega]
  unfold bitsOf
  rw [fold]; simp

/-! ### The line as the part starts -/

/-- The line block that a start leaves (R167): E_STOPPED with ESTOP latched where the E-stop input is active. -/
def startedLine (s : State) : LineBlock :=
  if s.inputs.eStop then { state := .eStopped, stop := none, firstFault := some ⟨.estop, 0, 0⟩, resume := some .unthreaded } else {}

/-- What a start leaves (R210). -/
def started (s : State) : State :=
  { readied s with
    line := startedLine s
    lam := { (readied s).lam with reclose := s.inputs.eStop && s.straps.laminator }
    link := { events := if s.inputs.eStop then [(startedLine s).event] else [], attn := s.inputs.eStop } }

theorem pumpStep_of_idle {s : State} (idle : s.station.cycle = .idle) (feeding : s.feeding = false) : pumpStep s = none := by
  rw [pumpStep_eq_none_iff]; simp [idle, feeding]

theorem commandOpen_of_unfitted {s : State} (h : s.straps.laminator = false) : commandOpen s = s := if_neg (by simp [h])

/-- An OPEN nip, or one on its way, is only remembered (R161). -/
theorem commandOpen_of_open {s : State} (fitted : s.straps.laminator = true) (nip : s.lam.nip = .opened ∨ s.lam.nip = .opening) :
    commandOpen s = { s with lam := { s.lam with reclose := true } } := by
  refine (if_pos fitted).trans ?_
  show (match s.lam.nip with | .closed => _ | .closing => _ | _ => _) = _
  rcases nip with nip | nip <;> rw [nip] <;> rfl

theorem enterEStop_readied {s : State} (stop : s.inputs.eStop = true) :
    enterEStop (readied s) = { readied s with
      line := startedLine s
      lam := { (readied s).lam with reclose := s.straps.laminator } } := by
  have enters : enterEStop (readied s) = commandOpen (outfeedEStop (stationEStop (setLine (startedLine s) (readied s)))) := by
    unfold startedLine; rw [if_pos stop]; rfl
  have station : stationEStop (setLine (startedLine s) (readied s)) = setLine (startedLine s) (readied s) := by
    have knife : (readied s).station.knife ≠ .homing := by
      show knifeByHomes s.inputs ≠ .homing
      rw [knifeByHomes_eq]; unfold knifeStands; split
      · exact nofun
      · split <;> exact nofun
    exact if_neg knife
  rw [enters, station]
  by_cases fitted : s.straps.laminator = true
  · have nip : (readied s).lam.nip = if s.inputs.nipOpen then .opened else .opening := if_pos fitted
    refine (commandOpen_of_open (s := outfeedEStop (setLine (startedLine s) (readied s))) fitted ?_).trans (by rw [fitted]; rfl)
    show (readied s).lam.nip = _ ∨ (readied s).lam.nip = _
    rw [nip]; split <;> simp
  · rw [Bool.not_eq_true] at fitted
    refine (commandOpen_of_unfitted (s := outfeedEStop (setLine (startedLine s) (readied s))) fitted).trans ?_
    rw [fitted]; rfl

theorem dwellRuns_of_off {s : State} (h : s.lam.heat = .off) : s.dwellRuns = false := by simp [State.dwellRuns, Heat.hot, h]
theorem idleRuns_of_off {s : State} (h : s.lam.heat = .off) : s.idleRuns = false := by simp [State.idleRuns, h]
theorem dwellAfter_of_off {s : State} (h : s.lam.heat = .off) : s.dwellAfter = none := if_neg (by simp [dwellRuns_of_off h])
theorem idleAfter_of_off {s : State} (h : s.lam.heat = .off) : s.idleAfter = none := if_neg (by simp [idleRuns_of_off h])

/-- A roller OFF and a line that does not feed have nothing but the infeed to bring up. -/
theorem levelled_of_off {s : State} (heat : s.lam.heat = .off) (feeding : s.feeding = false) : levelled s = { s with
    drives := { s.drives with infeedRef := 0 }
    lam := { s.lam with dwell := none, idle := none }
    watches := { s.watches with starve := none } } := by
  unfold levelled
  rw [dwellAfter_of_off (s := infeedUpdate s) heat, idleAfter_of_off heat, infeedReference_of_not_feeding feeding, starveAfter_of_not_feeding feeding]

theorem readied_settled (s : State) : Settled (readied s) :=
  ⟨rfl, pumpStep_of_idle rfl rfl, rfl, closeDemand_of_not_feeding rfl, by unfold InfeedFollows; rw [infeedReference_of_not_feeding rfl]; rfl, (dwellRuns_of_off rfl).symm, (idleRuns_of_off rfl).symm, rfl, rfl⟩

theorem startUp_eq_started (s : State) : startUp s = started s := by
  rw [startUp_eq]
  by_cases stop : s.inputs.eStop = true
  · have line : startedLine s = { state := .eStopped, stop := none, firstFault := some ⟨.estop, 0, 0⟩, resume := some .unthreaded } := if_pos stop
    have feeding : (enterEStop (readied s)).feeding = false := by
      rw [enterEStop_readied stop]; unfold State.feeding; dsimp only; rw [line]; rfl
    rw [show startLine (readied s) = enterEStop (readied s) from if_pos stop, finish_of_not_feeding feeding ?_ ?_, lineUpdate_of_changed ?_]
    · rw [levelled_of_off (by rw [enterEStop_readied stop]; rfl) feeding, enterEStop_readied stop]
      unfold started
      rw [stop]; rfl
    · rw [enterEStop_readied stop]; show (startedLine s).state ≠ _; rw [line]; exact nofun
    · exact pumpStep_of_idle (by rw [enterEStop_readied stop]; rfl) feeding
    · rw [enterEStop_readied stop]; unfold State.stopEnds; dsimp only; rw [line]; rfl
  · rw [show startLine (readied s) = readied s from if_neg stop, finish_of_settled (readied_settled s) rfl rfl]
    unfold started startedLine
    simp only [Bool.not_eq_true] at stop
    rw [stop]; rfl

/-! ### The obligation -/

theorem started_defaulted (s : State) {e : CalEntry} {x : StoredEntry} (store : s.cal.store[e.index]? = some x) :
    (started s).cal.defaulted.getLsbD e.index = (!goodEntry e x || (!loopOrders (loadedAll s) && isLoopEntry e)) := by
  have lt := index_lt e
  show (bitsOf _).getLsbD e.index = _
  rw [bitsOf_getLsbD, List.getD_eq_getElem?_getD, List.getElem?_map, withStore_getElem store, loaded_eq]
  simp only [Option.map_some, Option.getD_some, show e.index < 64 by omega, decide_true, Bool.true_and]

theorem started_work (s : State) {e : CalEntry} {x : StoredEntry} (full : s.cal.store.length = 58) (store : s.cal.store[e.index]? = some x) :
    (started s).work e = if isLoopEntry e && !loopOrders (loadedAll s) then e.row.default else loadedValue e x := by
  have loads : (loadedAll s).getD e.index 0 = loadedValue e x := by
    rw [← loaded_eq, List.getD_eq_getElem?_getD, List.getElem?_map, withStore_getElem store, ← loadValue_eq]; rfl
  have length : (loadedAll s).length = 58 := by rw [← loaded_eq]; exact (loaded_allInRange full).1
  show (if _ then _ else _ : List Int).getD e.index 0 = _
  rw [loaded_eq]
  by_cases broken : loopOrders (loadedAll s) = true
  · rw [broken, Bool.not_true, Bool.and_false]; exact loads
  · rw [Bool.not_eq_true] at broken
    rw [broken, Bool.not_false, Bool.and_true, if_pos rfl, defaultLoops_getD length, loads]

theorem started_working_length (s : State) (full : s.cal.store.length = 58) : (started s).cal.working.length = 58 := by
  have loaded := loaded_allInRange full
  show (if _ then _ else _ : List Int).length = 58
  split
  · exact (defaultLoops_allInRange loaded).1
  · exact loaded.1

/-- Settles O29: the last kind to go loads the working copy entry by entry and leaves every block fresh. -/
theorem resetEndStarts : Obligations.ResetEndStarts := by
  intro s k
  refine ⟨fun idle => ?_, fun held first ⟨j, other, ne⟩ => ?_, fun held alone full => ?_⟩
  · show Host.Outcome.next (endHold s) = _
    unfold endHold State.nextToGo; rw [idle]; rfl
  · have left : s.heldBy.filter (fun j => decide (j ≠ k)) ≠ [] := List.ne_nil_of_mem (List.mem_filter.mpr ⟨other, decide_eq_true ne⟩)
    refine congrArg Host.Outcome.next ((endHold_of_next (nextToGo_of_first held first)).trans ?_)
    exact if_neg left
  · have left : s.heldBy.filter (fun j => decide (j ≠ k)) = [] :=
      List.filter_eq_nil_iff.mpr fun j hj => by simp [alone j hj]
    refine ⟨started s, congrArg Host.Outcome.next ?_, rfl, rfl, rfl, rfl, rfl, started_working_length s full, rfl, rfl, fun e x store => ⟨?_, ?_, ?_⟩,
      fun n high => ?_, rfl, rfl, rfl, rfl, rfl, rfl, rfl, rfl, rfl, ?_, rfl, rfl, rfl, rfl, ?_, rfl, rfl, rfl, rfl, rfl, rfl, rfl, rfl, ?_, ?_, ?_, ?_, rfl⟩
    · exact (endHold_of_next (nextToGo_of_alone held alone)).trans ((if_pos left).trans (startUp_eq_started s))
    · exact started_work s full store
    · show ((withStore s.cal.store).map loadValue)[e.index]? = _
      rw [List.getElem?_map, withStore_getElem store, ← loadValue_eq]; rfl
    · rw [started_defaulted s store, goodEntry_eq, ← decide_not, Bool.and_comm]; rfl
    · show (bitsOf _).getLsbD n = _
      rw [bitsOf_getLsbD, List.getD_eq_getElem?_getD, List.getElem?_eq_none, Option.getD_none, Bool.and_false]
      rw [List.length_map, withStore, List.length_zip, full]; exact Nat.le_trans (Nat.min_le_right _ _) high
    · show (started s).freshReg = _
      by_cases manual : (started s).work .defaultLockMode = 2
      · simp only [State.freshReg, State.initialStretch, manual]; rfl
      · simp only [State.freshReg, State.initialStretch, manual]; rfl
    · show (if _ then _ else _) = _
      cases s.straps.laminator <;> rfl
    · exact knifeByHomes_eq _
    · show (startedLine s).state = _
      unfold startedLine; split <;> rfl
    · show (startedLine s).resume = _
      unfold startedLine; split <;> rfl
    · rfl

end Sys2Proof.Machine
end

section
/-!
The events that leave the station, the planner, the line and the laminator alone (`Calm`): after a settled state only the starvation watch and ATTN remain to be
brought up (R145, R196).
-/
namespace Sys2Proof.Machine

/-! ### Calm events -/

/-- `u` agrees with `s` on what the end of an event looks at, but for ATTN and the starvation watch. -/
structure Calm (s u : State) : Prop where
  held : u.heldBy = s.heldBy := by rfl
  station : u.station = s.station := by rfl
  planner : u.planner = s.planner := by rfl
  line : u.line = s.line := by rfl
  outfeed : u.drives.outfeed = s.drives.outfeed := by rfl
  setpoint : u.drives.setpoint = s.drives.setpoint := by rfl
  infeed : u.drives.infeedRef = s.drives.infeedRef := by rfl
  allowance : u.lineAllowance = s.lineAllowance := by rfl
  lam : u.lam = s.lam := by rfl
  zone : u.loop.zone = s.loop.zone := by rfl
  straps : u.straps = s.straps := by rfl

theorem Calm.trans {s t u : State} (a : Calm s t) (b : Calm t u) : Calm s u :=
  ⟨b.held.trans a.held, b.station.trans a.station, b.planner.trans a.planner, b.line.trans a.line, b.outfeed.trans a.outfeed, b.setpoint.trans a.setpoint,
    b.infeed.trans a.infeed, b.allowance.trans a.allowance, b.lam.trans a.lam, b.zone.trans a.zone, b.straps.trans a.straps⟩

theorem Calm.feeding {s u : State} (c : Calm s u) : u.feeding = s.feeding := by unfold State.feeding; rw [c.line]

theorem Calm.infeedReference {s u : State} (c : Calm s u) : u.infeedReference = s.infeedReference := by
  unfold State.infeedReference; rw [c.setpoint, loopAllowance_congr c.setpoint c.zone, lamAllowance_congr c.setpoint c.straps (by rw [c.lam]) (by rw [c.lam]), c.allowance]

/-- A calm event of a settled state brings up the starvation watch and ATTN, and nothing else. -/
theorem Calm.finish_eq {s u : State} (c : Calm s u) (h : Settled s) :
    finish s u = attnUpdate { u with watches := { u.watches with starve := u.starveAfter } } := by
  have close : u.closeDemand = false := by
    rw [← h.close]; unfold State.closeDemand
    rw [loopAllowance_congr c.setpoint c.zone, c.allowance, c.feeding, c.straps, c.lam, c.setpoint]
  have stop : u.stopEnds = false := by
    rw [← h.stop]; unfold State.stopEnds; rw [c.feeding, c.line, c.station, c.planner]
  have free : u.freeCond = s.freeCond := by unfold State.freeCond; rw [c.feeding, c.station, c.planner]
  have infeed : u.drives.infeedRef = u.infeedReference := by rw [c.infeed, c.infeedReference]; exact h.infeed
  have dwell : dwellUpdate u = u := dwellUpdate_of_stands (by
    have e := h.dwell; unfold State.dwellRuns at e ⊢; rw [c.straps, c.lam, c.infeed]; exact e)
  have idle : idleUpdate u = u := idleUpdate_of_stands (by
    have e := h.idle; unfold State.idleRuns at e ⊢; rw [c.straps, c.lam, c.line]; exact e)
  have up : bringUp u = { u with watches := { u.watches with starve := u.starveAfter } } := by
    unfold bringUp
    rw [closeUpdate_of_none close, infeedUpdate_of_follows infeed, dwell, idle, starveUpdate_eq]
  unfold finish
  rw [pump_of_none _ (pumpStep_none_congr c.station c.planner c.line c.outfeed h.station), endStop_of_stands stop]
  have run : freeUpdate s u = u := by
    unfold freeUpdate; rw [if_neg]; rintro ⟨x, y, _⟩; rw [free] at x; exact y x
  rw [run, up]
  exact congrArg attnUpdate (lineUpdate_of_same (congrArg (·.state) c.line) (congrArg (·.stop) c.line))

/-- Where the cursor is not IDLE or the line does not feed there is no starvation watch. -/
theorem starveAfter_of_cursor {u : State} (h : u.cursor1.state ≠ .idle) : u.starveAfter = none := by
  unfold State.starveAfter State.starveLimit; simp [h]

theorem starveAfter_of_settled {s : State} (h : Settled s) : s.starveAfter = s.watches.starve := by
  have stands := starveUpdate_of_stands h.starve
  rw [starveUpdate_eq] at stands
  exact congrArg (·.watches.starve) stands

/-- The starvation watch stands as it does while line, cursor and starvation base do. -/
theorem starveAfter_congr {s u : State} (h : Settled s) (line : u.line = s.line := by rfl) (state : u.cursor1.state = s.cursor1.state := by rfl)
    (base : u.drives.starveBase = s.drives.starveBase := by rfl) (max : u.work .unplannedMax = s.work .unplannedMax := by rfl)
    (watch : u.watches.starve = s.watches.starve := by rfl) (pos : u.p1 = s.p1 := by rfl) : u.starveAfter = s.watches.starve := by
  rw [← starveAfter_of_settled h]
  unfold State.starveAfter State.starveLimit State.feeding
  rw [line, state, base, max, watch, pos]

/-- A calm event that moves no cursor and queues no event changes nothing beyond itself. -/
theorem Calm.finish_still {s u : State} (c : Calm s u) (h : Settled s) (starve : u.starveAfter = u.watches.starve) (attn : AttnFollows u) :
    finish s u = u := by
  rw [c.finish_eq h, starve]
  exact attnUpdate_of_follows attn

theorem Calm.finish_starve {s u : State} (c : Calm s u) (h : Settled s) {w : Option Watch} (starve : u.starveAfter = w) (attn : AttnFollows u) :
    finish s u = { u with watches := { u.watches with starve := w } } := by
  rw [c.finish_eq h, starve]
  exact attnUpdate_of_follows (attn.congr rfl rfl rfl rfl rfl rfl)

theorem event_still {s : State} {f : State → State} (h : Settled s) (c : Calm s (f s)) (starve : (f s).starveAfter = (f s).watches.starve)
    (attn : AttnFollows (f s)) : event f s = f s := (event_of_running h.running).trans (c.finish_still h starve attn)

theorem inputEvent_still {s : State} {level : Inputs → Inputs} {f : State → State} (h : Settled s) {u : State}
    (act : f { s with inputs := level s.inputs } = u) (c : Calm s u) (starve : u.starveAfter = u.watches.starve) (attn : AttnFollows u) :
    inputEvent level f s = u := by
  rw [inputEvent_of_running h.running, act]; exact c.finish_still h starve attn

/-! ### Bars (R46 to R48) -/

/-- An event that moves inputs, sensors and the watches of sensors and windows alone ends with itself. -/
theorem finish_sensed {s : State} (h : Settled s) {i : Inputs} {a b : SensorBlock} {w : Watches} (starve : w.starve = s.watches.starve) :
    finish s { s with inputs := i, sensor1 := a, sensor2 := b, watches := w } = { s with inputs := i, sensor1 := a, sensor2 := b, watches := w } :=
  Calm.finish_still {} h ((starveAfter_congr h (watch := starve)).trans starve.symm) (h.attn.congr rfl rfl rfl rfl rfl rfl)

theorem exec_barLeadingEdge {s : State} (h : Settled s) (sn : Sensor) (light : s.inputs.dark sn = false) :
    exec (.barLeadingEdge sn) s = .next (finish s (leadingEdge sn { s with inputs := setDark sn true s.inputs })) := by
  show Host.Outcome.next (inputEvent _ (if s.inputs.dark sn then id else leadingEdge sn) s) = _
  rw [inputEvent_of_running h.running, light]; rfl

theorem exec_barTrailingEdge {s : State} (h : Settled s) (sn : Sensor) (dark : s.inputs.dark sn = true) :
    exec (.barTrailingEdge sn) s = .next (finish s (trailingEdge sn { s with inputs := setDark sn false s.inputs })) := by
  show Host.Outcome.next (inputEvent _ (if s.inputs.dark sn then trailingEdge sn else id) s) = _
  rw [inputEvent_of_running h.running, dark]; rfl

theorem exec_barMaxExceeded {s : State} (h : Settled s) (sn : Sensor) (due : watchDue (s.barWatch sn) = true) :
    exec (.barMaxExceeded sn) s = .next (finish s (exceedBar sn s)) :=
  congrArg Host.Outcome.next ((if_pos due).trans (event_of_running h.running))

theorem leadingEdge_of_none {s : State} {sn : Sensor} (bar : (s.sensor sn).bar = .none) : leadingEdge sn s =
    if s.armedAt sn then setBarWatch sn (some (watchPasses (s.ownPos sn) (s.ownPos sn + s.work .markMax))) (setBar sn (.counting (s.ownPos sn) false) s)
    else setBar sn .ignoring s := by
  unfold leadingEdge; rw [bar]

/-- A decision of the sensor's cursor waits for the bar in progress (R54, R72). -/
def State.decides (s : State) : Sensor → Bool
  | .m1 => s.cursor1.deciding
  | .m2 => s.cursor2.deciding

theorem lostBar_of_not_waited {s : State} {sn : Sensor} (waits : s.decides sn = false) : lostBar sn s = s := by
  cases sn <;> exact if_neg (by simp only [State.decides] at waits; simp [waits])

/-- A bar that is ignored, or of no valid length (R47). -/
theorem trailingEdge_of_lost {s : State} {sn : Sensor} (waits : s.decides sn = false)
    (bar : (s.sensor sn).bar = .ignoring ∨ ∃ l st, (s.sensor sn).bar = .counting l st
      ∧ ¬ (s.work .markMin ≤ s.ownPos sn - l ∧ s.ownPos sn - l ≤ s.work .markMax)) : trailingEdge sn s = endBar sn s := by
  unfold trailingEdge
  rcases bar with bar | ⟨l, st, bar, short⟩ <;> rw [bar]
  have invalid : s.validBar (s.ownPos sn - l) = false := decide_eq_false short
  have waits' : (endBar sn s).decides sn = false := by cases sn <;> exact waits
  dsimp only
  rw [invalid]
  exact lostBar_of_not_waited waits'

/-- Settles O32. -/
theorem barsBeginAndEnd : Obligations.BarsBeginAndEnd := by
  intro s h
  refine ⟨fun light bar => ?_, fun light bar => ?_, fun dark waits bar => ?_, fun dark waits bar => ?_, fun due waits => ?_, fun due waits => ?_⟩
  · refine (exec_barLeadingEdge h .m1 light).trans (congrArg Host.Outcome.next ((congrArg (finish s) (leadingEdge_of_none ?_)).trans ?_))
    · exact bar
    by_cases armed : s.roll1.armed = true
    · rw [if_pos armed]; exact (congrArg (finish s) (if_pos armed)).trans (finish_sensed h rfl)
    · rw [if_neg armed]; exact (congrArg (finish s) (if_neg armed)).trans (finish_sensed h rfl)
  · refine (exec_barLeadingEdge h .m2 light).trans (congrArg Host.Outcome.next ((congrArg (finish s) (leadingEdge_of_none ?_)).trans ?_))
    · exact bar
    by_cases armed : s.roll2.armed = true
    · rw [if_pos armed]; exact (congrArg (finish s) (if_pos armed)).trans (finish_sensed h rfl)
    · rw [if_neg armed]; exact (congrArg (finish s) (if_neg armed)).trans (finish_sensed h rfl)
  · refine (exec_barTrailingEdge h .m1 dark).trans (congrArg Host.Outcome.next ((congrArg (finish s) (trailingEdge_of_lost ?_ ?_)).trans (finish_sensed h ?_)))
    · exact waits
    · exact bar
    · rfl
  · refine (exec_barTrailingEdge h .m2 dark).trans (congrArg Host.Outcome.next ((congrArg (finish s) (trailingEdge_of_lost ?_ ?_)).trans (finish_sensed h ?_)))
    · exact waits
    · exact bar
    · rfl
  · refine (exec_barMaxExceeded h .m1 due).trans (congrArg Host.Outcome.next ((congrArg (finish s) (lostBar_of_not_waited ?_)).trans (finish_sensed h ?_)))
    · exact waits
    · rfl
  · refine (exec_barMaxExceeded h .m2 due).trans (congrArg Host.Outcome.next ((congrArg (finish s) (lostBar_of_not_waited ?_)).trans (finish_sensed h ?_)))
    · exact waits
    · rfl

/-! ### Web end (R61) -/

theorem raiseWhere_eq (f : Flag) (test : Panel → Bool) (s : State) :
    raiseWhere f test s = { s with panels := s.panels.map fun p => if test p = true ∧ p.state ≠ .done ∧ f ∉ p.flags then { p with flags := p.flags ++ [f] } else p } := by
  have each (p : Panel) : (if test p then p.raise f else p)
      = if test p = true ∧ p.state ≠ .done ∧ f ∉ p.flags then { p with flags := p.flags ++ [f] } else p := by
    unfold Panel.raise
    by_cases hit : test p = true <;> by_cases done : p.state = .done <;> by_cases held : f ∈ p.flags <;> simp [hit, done, held]
  unfold raiseWhere
  rw [List.map_congr_left fun p _ => each p]

theorem exec_webEndReport {s : State} (h : Settled s) (report : s.inputs.web1 = true ∧ s.feeding = true ∧ ¬ s.webEnd = true) :
    exec .webEndReport s = .next (finish s (reportWebEnd { s with inputs := { s.inputs with web1 := false } })) := by
  show Host.Outcome.next (inputEvent _ (if s.inputs.web1 ∧ s.feeding ∧ ¬ s.webEnd then reportWebEnd else id) s) = _
  rw [inputEvent_of_running h.running, if_pos report]

theorem done_of_raised {s : State} (f : Flag) (c : Panel → Prop) [∀ p, Decidable (c p)] :
    (s.panels.map fun p => if c p then { p with flags := p.flags ++ [f] } else p).any (fun p => decide (p.state = .done)) = s.donePending :=
  any_map_of_same _ _ _ fun p => by split <;> rfl

/-- Settles O36. -/
theorem webEndReported : Obligations.WebEndReported := by
  intro s h web clear
  refine ⟨fun feeding seq => ?_, fun rest => ?_⟩
  · rw [exec_webEndReport h ⟨web, feeding, by simp [clear]⟩]
    refine congrArg Host.Outcome.next ?_
    unfold reportWebEnd
    rw [raiseWhere_eq]
    simp only [Option.isNone_iff_eq_none]
    refine Calm.finish_starve ?_ h ?_ ?_
    · refine { allowance := ?_ }
      exact (if_pos ⟨feeding, .inr rfl⟩).trans (if_pos ⟨feeding, .inl seq⟩).symm
    · exact starveAfter_of_cursor nofun
    · exact h.attn.congr rfl (done_of_raised _ _) rfl rfl rfl rfl
  · show Host.Outcome.next (inputEvent _ (if s.inputs.web1 ∧ s.feeding ∧ ¬ s.webEnd then reportWebEnd else id) s) = _
    rw [if_neg (by simp [rest])]; exact congrArg Host.Outcome.next (inputEvent_reads h _)

/-! ### The ends of a teach (R63, R64) -/

theorem queueEvent_of_room {s : State} (room : s.link.events.length < 64) (e : Event) :
    queueEvent e s = { s with link := { s.link with events := s.link.events ++ [e] } } := if_pos room

theorem endTeach_of_some {s : State} {sn : Sensor} {t : Teach} (teach : (s.sensor sn).teach = some t) (r : TeachResult) : endTeach sn r s =
    queueEvent (.teachEnd sn r t.min t.max (s.work (thresholdEntry sn))) (setTeachWatch sn none (setSensor sn { s.sensor sn with teach := none } s)) := by
  unfold endTeach; rw [teach]
  cases sn <;> rfl

theorem followThreshold_eq (sn : Sensor) (s : State) : followThreshold sn s =
    setSensor sn { s.sensor sn with threshold := if (s.sensor sn).bar.inProgress then (s.sensor sn).threshold else s.work (thresholdEntry sn) } s := by
  unfold followThreshold
  cases bar : (s.sensor sn).bar with
  | counting l st => cases sn <;> rfl
  | _ => rfl

theorem completeTeach_of_some {s : State} {sn : Sensor} {t : Teach} {lo hi : Nat} (teach : (s.sensor sn).teach = some t) (min : t.min = some lo)
    (max : t.max = some hi) : completeTeach sn s =
      if s.work .contrastMin ≤ (hi : Int) - lo then endTeach sn .taught (followThreshold sn (setWork (thresholdEntry sn) ((lo + hi) / 2 : Nat) s))
      else endTeach sn .lowContrast s := by
  have value : taughtValue (s.work .contrastMin) t = if s.work .contrastMin ≤ (hi : Int) - lo then some (((lo + hi) / 2 : Nat) : Int) else none := by
    unfold taughtValue; rw [min, max]
  unfold completeTeach
  rw [teach]
  dsimp only
  rw [value]
  by_cases taught : s.work .contrastMin ≤ (hi : Int) - lo
  · rw [if_pos taught, if_pos taught]
  · rw [if_neg taught, if_neg taught]

/-- What a teach's end leaves of a calm event (R64). -/
theorem finish_endTeach {s u : State} (h : Settled s) (c : Calm s u) (starve : u.starveAfter = u.watches.starve) {sn : Sensor} {t : Teach}
    (teach : (u.sensor sn).teach = some t) (room : u.link.events.length < 64) (r : TeachResult) : finish s (endTeach sn r u) =
      attnUpdate { setTeachWatch sn none (setSensor sn { u.sensor sn with teach := none } u) with
        link := { u.link with events := u.link.events ++ [.teachEnd sn r t.min t.max (u.work (thresholdEntry sn))] } } := by
  rw [endTeach_of_some teach]
  cases sn with
  | m1 =>
    rw [queueEvent_of_room (by exact room), Calm.finish_eq (c.trans {}) h]
    exact congrArg (fun w => attnUpdate { (_ : State) with watches := { u.watches with teach1 := none, starve := w } }) starve
  | m2 =>
    rw [queueEvent_of_room (by exact room), Calm.finish_eq (c.trans {}) h]
    exact congrArg (fun w => attnUpdate { (_ : State) with watches := { u.watches with teach2 := none, starve := w } }) starve

theorem exec_teachSpanReached {s : State} (h : Settled s) (sn : Sensor) (due : watchDue (s.teachWatch sn) = true) :
    exec (.teachSpanReached sn) s = .next (finish s (completeTeach sn s)) :=
  congrArg Host.Outcome.next ((if_pos due).trans (event_of_running h.running))

theorem exec_teachTimeout {s : State} (h : Settled s) (sn : Sensor) {t : Teach} (teach : (s.sensor sn).teach = some t) :
    exec (.teachTimeout sn) s = .next (finish s (endTeach sn .timeout (reachTime t.timer.start t.timer.limit s))) := by
  show Host.Outcome.next (match (s.sensor sn).teach with | some t => _ | none => _) = _
  rw [teach]
  exact congrArg Host.Outcome.next (event_of_running h.running)

/-- A working value read after another entry is written (R203). -/
theorem work_setWork_of_ne {s : State} {e d : CalEntry} (ne : d.index ≠ e.index) (v : Int) : (setWork e v s).work d = s.work d := by
  unfold setWork State.work
  dsimp only
  rw [List.getD_eq_getElem?_getD, List.getElem?_set_ne ne.symm, ← List.getD_eq_getElem?_getD]

theorem work_setWork_self {s : State} (full : s.cal.working.length = 58) (e : CalEntry) (v : Int) : (setWork e v s).work e = v := by
  unfold setWork State.work
  dsimp only
  rw [List.getD_eq_getElem?_getD, List.getElem?_set_self (full ▸ index_lt e), Option.getD_some]

/-- A teach of enough contrast leaves a calm event (R45, R63). -/
theorem finish_taught {s : State} (h : Settled s) (full : s.cal.working.length = 58) {sn : Sensor} {t : Teach} {lo hi : Nat} (teach : (s.sensor sn).teach = some t)
    (min : t.min = some lo) (max : t.max = some hi) (room : s.link.events.length < 64) (taught : s.work .contrastMin ≤ (hi : Int) - lo) :
    let v : Int := ((lo + hi) / 2 : Nat)
    finish s (completeTeach sn s) = attnUpdate { setTeachWatch sn none (setSensor sn { s.sensor sn with
        teach := none, threshold := if (s.sensor sn).bar.inProgress then (s.sensor sn).threshold else v } (setWork (thresholdEntry sn) v s)) with
      link := { s.link with events := s.link.events ++ [.teachEnd sn .taught (some lo) (some hi) v] } } := by
  dsimp only
  rw [completeTeach_of_some teach min max, if_pos taught, followThreshold_eq, work_setWork_self full]
  generalize (((lo + hi) / 2 : Nat) : Int) = v
  have apart : CalEntry.unplannedMax.index ≠ (thresholdEntry sn).index := by cases sn <;> decide
  have written : (setWork (thresholdEntry sn) v s).work .unplannedMax = s.work .unplannedMax := work_setWork_of_ne apart v
  have value := work_setWork_self full (thresholdEntry sn) v
  rw [← min, ← max]
  cases sn with
  | m1 =>
    refine (finish_endTeach h (t := t) ?_ ?_ ?_ ?_ .taught).trans ?_
    · exact {}
    · exact starveAfter_congr (s := s) h (max := written)
    · exact teach
    · exact room
    · exact congrArg (fun x => attnUpdate { (_ : State) with
        link := { s.link with events := s.link.events ++ [.teachEnd _ .taught t.min t.max x] } }) value
  | m2 =>
    refine (finish_endTeach h (t := t) ?_ ?_ ?_ ?_ .taught).trans ?_
    · exact {}
    · exact starveAfter_congr (s := s) h (max := written)
    · exact teach
    · exact room
    · exact congrArg (fun x => attnUpdate { (_ : State) with
        link := { s.link with events := s.link.events ++ [.teachEnd _ .taught t.min t.max x] } }) value

/-- Settles O37. -/
theorem teachEnds : Obligations.TeachEnds := by
  intro s t lo hi h min max room
  dsimp only
  have early {sn : Sensor} (teach : (s.sensor sn).teach = some t) := (exec_teachTimeout h sn teach).trans
    (congrArg Host.Outcome.next (finish_endTeach h (u := reachTime t.timer.start t.timer.limit s) {} (starveAfter_congr (s := s) h) teach room .timeout))
  have low {sn : Sensor} (teach : (s.sensor sn).teach = some t) (poor : ¬ s.work .contrastMin ≤ (hi : Int) - lo) :=
    (congrArg (finish s) ((completeTeach_of_some teach min max).trans (if_neg poor))).trans
      (finish_endTeach h {} (starveAfter_of_settled h) teach room .lowContrast)
  have rich {sn : Sensor} (teach : (s.sensor sn).teach = some t) (full : s.cal.working.length = 58) (taught : s.work .contrastMin ≤ (hi : Int) - lo) :=
    finish_taught h full teach min max room taught
  refine ⟨fun teach due full => ?_, fun teach due full => ?_, fun teach => ?_, fun teach => ?_⟩
  · by_cases taught : s.work .contrastMin ≤ (hi : Int) - lo
    · simp only [taught, true_and, if_true]
      refine ⟨_, (exec_teachSpanReached h .m1 due).trans (congrArg Host.Outcome.next (rich (sn := .m1) teach full taught)), rfl, rfl, ?_, rfl, rfl, rfl, rfl, rfl, rfl⟩
      show (if s.sensor1.bar.inProgress = true then _ else _) = _
      cases s.sensor1.bar.inProgress <;> rfl
    · simp only [taught, false_and, if_false]
      refine ⟨_, (exec_teachSpanReached h .m1 due).trans (congrArg Host.Outcome.next (low (sn := .m1) teach taught)), ?_⟩
      exact ⟨rfl, rfl, rfl, by rw [← min, ← max]; rfl, rfl, rfl, rfl, rfl, rfl⟩
  · by_cases taught : s.work .contrastMin ≤ (hi : Int) - lo
    · simp only [taught, true_and, if_true]
      refine ⟨_, (exec_teachSpanReached h .m2 due).trans (congrArg Host.Outcome.next (rich (sn := .m2) teach full taught)), rfl, rfl, ?_, rfl, rfl, rfl, rfl, rfl, rfl⟩
      show (if s.sensor2.bar.inProgress = true then _ else _) = _
      cases s.sensor2.bar.inProgress <;> rfl
    · simp only [taught, false_and, if_false]
      refine ⟨_, (exec_teachSpanReached h .m2 due).trans (congrArg Host.Outcome.next (low (sn := .m2) teach taught)), ?_⟩
      exact ⟨rfl, rfl, rfl, by rw [← min, ← max]; rfl, rfl, rfl, rfl, rfl, rfl⟩
  · exact ⟨_, early (sn := .m1) teach, rfl, rfl, by rw [← min, ← max]; rfl, rfl, rfl, rfl, rfl, rfl⟩
  · exact ⟨_, early (sn := .m2) teach, rfl, rfl, by rw [← min, ← max]; rfl, rfl, rfl, rfl, rfl, rfl⟩

end Sys2Proof.Machine
end

section
/-!
The M1 cursor: what it takes up (R51, R52), what a resolution writes (R53 to R55), and the bars, expiries and splices that bring these about.
-/
namespace Sys2Proof.Machine

/-! ### Taking up -/

theorem takeUpM1_of_on_time {s : State} (runs : s.cursor1.state ≠ .halted) (late : (setExpect1 s).late1 = false) : takeUpM1 s = setExpect1 s := by
  refine (if_neg runs).trans ?_
  show (if (setExpect1 s).late1 = true then _ else setExpect1 s) = _
  rw [late]; rfl

/-- The blocks an M1 take-up starts from: the window's watch gone, a bar in progress stale (R51, R53). -/
def freshExpect1 (s : State) : State :=
  { s with watches := { s.watches with m1Window := none }, sensor1 := { s.sensor1 with bar := s.sensor1.bar.markStale } }

/-- What a take-up leaves, by what comes next (R51, R52). -/
theorem setExpect1_eq (s : State) : setExpect1 s = match s.next1 with
    | .tail r x => openWindow1 r .tail x (freshExpect1 s)
    | .head r x =>
      if s.cursor1.holdLimit.isSome then setCursor1 .spliceHold (some { panel := r, mark := .head, takeUp := s.p1 }) (freshExpect1 s)
      else match s.cursor1.seekPending, x with
        | false, some x => openWindow1 r .head x (freshExpect1 s)
        | _, _ => setCursor1 .seek (some { panel := r, mark := .head, takeUp := s.p1 }) (freshExpect1 s)
    | .nothing => becomeIdle1 (freshExpect1 s) := rfl

theorem setExpect1_of_tail {s : State} {r : PanelRef} {x : Int} (next : s.next1 = .tail r x) :
    setExpect1 s = openWindow1 r .tail x (freshExpect1 s) := by
  rw [setExpect1_eq, next]

theorem setExpect1_of_nothing {s : State} (next : s.next1 = .nothing) : setExpect1 s = becomeIdle1 (freshExpect1 s) := by
  rw [setExpect1_eq, next]

/-- A window that P1 has not left behind is not late. -/
theorem late1_openWindow1 {s : State} {r : PanelRef} {m : Mark} {x : Int} (ahead : s.p1 ≤ x + s.work .w1) : (openWindow1 r m x s).late1 = false := by
  show (true && (some _ : Option Expect1).any _) = false
  exact decide_eq_false (Int.not_lt.mpr ahead)

/-- The tail of the head last resolved is taken up in WINDOW (R52). -/
theorem takeUpM1_tail {s : State} {r : PanelRef} {x : Int} (runs : s.cursor1.state ≠ .halted) (next : s.next1 = .tail r x)
    (ahead : s.p1 ≤ x + s.work .w1) : takeUpM1 s = openWindow1 r .tail x (freshExpect1 s) := by
  have set := setExpect1_of_tail next
  rw [takeUpM1_of_on_time runs, set]
  rw [set]; exact late1_openWindow1 ahead

/-- A head is taken up in WINDOW where its expected position is known and no seek is pending (R52). -/
theorem takeUpM1_head {s : State} {r : PanelRef} {x : Int} (runs : s.cursor1.state ≠ .halted) (next : s.next1 = .head r (some x))
    (hold : s.cursor1.holdLimit = none) (seek : s.cursor1.seekPending = false) (ahead : s.p1 ≤ x + s.work .w1) :
    takeUpM1 s = openWindow1 r .head x (freshExpect1 s) := by
  have set : setExpect1 s = openWindow1 r .head x (freshExpect1 s) := by rw [setExpect1_eq, next]; dsimp only; rw [hold, seek]; rfl
  rw [takeUpM1_of_on_time runs, set]
  rw [set]; exact late1_openWindow1 ahead

/-- A head is held while a hold limit stands (R59). -/
theorem takeUpM1_held {s : State} {r : PanelRef} {x : Option Int} (runs : s.cursor1.state ≠ .halted) (next : s.next1 = .head r x)
    (hold : s.cursor1.holdLimit.isSome = true) :
    takeUpM1 s = setCursor1 .spliceHold (some { panel := r, mark := .head, takeUp := s.p1 }) (freshExpect1 s) := by
  have set : setExpect1 s = setCursor1 .spliceHold (some { panel := r, mark := .head, takeUp := s.p1 }) (freshExpect1 s) := by
    rw [setExpect1_eq, next]; exact if_pos hold
  rw [takeUpM1_of_on_time runs, set]
  rw [set]; rfl

/-- A head is sought where it has no expected position, or seek pending is set (R52). -/
theorem takeUpM1_seek {s : State} {r : PanelRef} {x : Option Int} (runs : s.cursor1.state ≠ .halted) (next : s.next1 = .head r x)
    (hold : s.cursor1.holdLimit = none) (seek : s.cursor1.seekPending = true ∨ x = none) :
    takeUpM1 s = setCursor1 .seek (some { panel := r, mark := .head, takeUp := s.p1 }) (freshExpect1 s) := by
  have set : setExpect1 s = setCursor1 .seek (some { panel := r, mark := .head, takeUp := s.p1 }) (freshExpect1 s) := by
    rw [setExpect1_eq, next]; dsimp only; rw [hold]
    rcases seek with seek | rfl
    · rw [seek]; rfl
    · cases s.cursor1.seekPending <;> rfl
  rw [takeUpM1_of_on_time runs, set]
  rw [set]; rfl

/-- With nothing to expect the cursor is IDLE (R51, R57). -/
theorem takeUpM1_idle {s : State} (runs : s.cursor1.state ≠ .halted) (next : s.next1 = .nothing) : takeUpM1 s = becomeIdle1 (freshExpect1 s) := by
  have set := setExpect1_of_nothing next
  rw [takeUpM1_of_on_time runs, set]
  rw [set]; rfl

theorem becomeIdle1_of_busy {s : State} (busy : s.cursor1.state ≠ .idle) : becomeIdle1 s = { s with
    cursor1 := { s.cursor1 with state := .idle, expect := none, deciding := false }
    drives := { s.drives with starveBase := some (s.cursor1.lastTail.getD s.p1) } } := by
  unfold becomeIdle1
  rw [if_neg busy]; rfl

/-! ### What comes next -/

theorem next1_of_head {s : State} {r : PanelRef} {p : Panel} {c : Coord} (last : s.cursor1.lastHead = some r) (panel : s.panel? r = some p)
    (tail : p.aTail = none) (runs : p.completion ≠ some .aborted) (head : p.aHead = some c) : s.next1 = .tail r (c.pos + p.lNom) := by
  unfold State.next1
  simp [last, panel, tail, runs, head]

theorem next1_of_queued {s : State} {p : Panel} (last : s.cursor1.lastHead = none)
    (first : s.panels.find? (fun q => decide (q.state = .queued)) = some p) : s.next1 = .head p.ref (s.cursor1.lastTail.map (· + p.gNom)) := by
  unfold State.next1
  simp only [last, Option.bind_none, first]

theorem next1_of_none {s : State} (last : s.cursor1.lastHead = none) (none : ∀ q ∈ s.panels, q.state ≠ .queued) : s.next1 = .nothing := by
  unfold State.next1
  have first : s.panels.find? (fun q => decide (q.state = .queued)) = Option.none :=
    List.find?_eq_none.mpr fun q hq => by simp [none q hq]
  simp only [last, Option.bind_none, first]

/-! ### Panels by name -/

/-- A panel found by its serial number after its record has changed. -/
theorem find?_changed {ps : List Panel} {n : Nat} {p : Panel} (f : Panel → Panel) (kept : ∀ q, (f q).serial = q.serial)
    (found : ps.find? (fun q => q.serial == n) = some p) :
    (ps.map fun q => if q.serial = n then f q else q).find? (fun q => q.serial == n) = some (f p) := by
  have serial : p.serial = n := by simpa using List.find?_some found
  rw [List.find?_map]
  have same : ((fun q : Panel => q.serial == n) ∘ fun q => if q.serial = n then f q else q) = fun q => q.serial == n := by
    funext q; simp only [Function.comp]; split <;> simp [kept]
  rw [same, found, Option.map_some, if_pos serial]

/-- The first panel of a state, after a change that leaves every state as it is. -/
theorem find?_state_changed {ps : List Panel} {st : PanelState} {p : Panel} (f : Panel → Panel) (kept : ∀ q, (f q).state = q.state)
    (found : ps.find? (fun q => decide (q.state = st)) = some p) : (ps.map f).find? (fun q => decide (q.state = st)) = some (f p) := by
  rw [List.find?_map]
  have same : ((fun q : Panel => decide (q.state = st)) ∘ f) = fun q => decide (q.state = st) := by funext q; simp [kept]
  rw [same, found, Option.map_some]

/-! ### Resolutions (R53 to R55) -/

/-- The panel of a mark resolved at M1. -/
def marked1 (coasted : Bool) (m : Mark) (pos : Int) (p : Panel) : Panel :=
  let q := writeMark1 m ⟨pos, coasted⟩ p
  if coasted then q.raise .coastedM1 else q

theorem raise_eq (f : Flag) (p : Panel) : p.raise f = { p with flags := if p.state ≠ .done ∧ f ∉ p.flags then p.flags ++ [f] else p.flags } := by
  unfold Panel.raise
  by_cases held : p.state = .done ∨ f ∈ p.flags
  · rw [if_pos held, if_neg fun ⟨open', new⟩ => held.elim open' new]
  · rw [if_neg held, if_pos (not_or.mp held)]

theorem writeMark1_kept (m : Mark) (c : Coord) (p : Panel) : (writeMark1 m c p).serial = p.serial ∧ (writeMark1 m c p).bHead = p.bHead
    ∧ (writeMark1 m c p).flags = p.flags ∧ ((writeMark1 m c p).state = .done ↔ p.state = .done) := by
  cases m with
  | head =>
    refine ⟨rfl, rfl, rfl, ?_⟩
    unfold writeMark1; dsimp only
    split
    · rename_i queued; rw [queued]; exact ⟨nofun, nofun⟩
    · exact Iff.rfl
  | tail => exact ⟨rfl, rfl, rfl, Iff.rfl⟩

theorem marked1_eq (coasted : Bool) (m : Mark) (pos : Int) (p : Panel) : marked1 coasted m pos p = { writeMark1 m ⟨pos, coasted⟩ p with
    flags := if coasted = true ∧ p.state ≠ .done ∧ .coastedM1 ∉ p.flags then p.flags ++ [.coastedM1] else p.flags } := by
  obtain ⟨_, _, flags, done⟩ := writeMark1_kept m ⟨pos, coasted⟩ p
  unfold marked1
  cases coasted with
  | false => rw [← flags]; rfl
  | true => simp only [if_true, raise_eq, flags, ne_eq, done, true_and]

/-- A resolution's record, before the planner and the M2 cursor hear of it. -/
def recorded1 (coasted : Bool) (e : Expect1) (pos : Int) (s : State) : State :=
  { s with
    cursor1 := { afterMark1 e.mark e.panel pos s.cursor1 with expect := none }
    watches := { s.watches with m1Window := none }
    panels := s.panels.map (fun q => if q.serial = e.panel.serial then marked1 coasted e.mark pos q else q)
    link := if coasted then (queueEvent (.markCoast .m1 e.panel.id e.mark) s).link else s.link }

theorem queueEvent_of_link {s t : State} (h : t.link = s.link) (e : Event) : queueEvent e t = { t with link := (queueEvent e s).link } := by
  unfold queueEvent; rw [h]; split <;> rfl

theorem resolveM1_of_expect {s : State} {e : Expect1} (expect : s.cursor1.expect = some e) (coasted : Bool) (pos : Int) : resolveM1 coasted pos s =
    notifyM2 (if e.mark = .tail then planTailM1 e.panel (recorded1 coasted e pos s) else recorded1 coasted e pos s) := by
  unfold resolveM1
  rw [expect]
  cases coasted with
  | false => rfl
  | true =>
    refine congrArg (fun x => notifyM2 (if e.mark = .tail then planTailM1 e.panel x else x)) ?_
    refine (if_pos rfl).trans ((queueEvent_of_link (s := s) ?_ _).trans ?_) <;> rfl

theorem planTailM1_of_before {r : PanelRef} {s : State} {p : Panel} (panel : s.panel? r = some p) (near : p.bHead = none) : planTailM1 r s = s := by
  unfold planTailM1
  rw [panel]
  dsimp only
  rw [near]
  cases p.aHead <;> cases p.aTail <;> rfl

theorem panel?_recorded1 {s : State} {e : Expect1} {p : Panel} (panel : s.panel? e.panel = some p) (coasted : Bool) (pos : Int) :
    (recorded1 coasted e pos s).panel? e.panel = some (marked1 coasted e.mark pos p) :=
  find?_changed (marked1 coasted e.mark pos) (fun q => by rw [marked1_eq]; exact (writeMark1_kept e.mark _ q).1) panel

/-- A resolution at M1 while the M2 cursor expects an earlier mark, of a head or of a panel whose head has not reached M2. -/
theorem resolveM1_eq {s : State} {e : Expect1} {p : Panel} (expect : s.cursor1.expect = some e) (panel : s.panel? e.panel = some p)
    (ahead : s.cursor2.state = .window) (near : e.mark = .tail → p.bHead = none) (coasted : Bool) (pos : Int) :
    resolveM1 coasted pos s = recorded1 coasted e pos s := by
  have plan : (if e.mark = .tail then planTailM1 e.panel (recorded1 coasted e pos s) else recorded1 coasted e pos s) = recorded1 coasted e pos s := by
    split
    · rename_i tail
      have before : (marked1 coasted e.mark pos p).bHead = none := by
        rw [marked1_eq]
        exact (writeMark1_kept e.mark ⟨pos, coasted⟩ p).2.1.trans (near tail)
      exact planTailM1_of_before (panel?_recorded1 panel coasted pos) before
    · rfl
  rw [resolveM1_of_expect expect, plan]
  have waits : ¬ ((recorded1 coasted e pos s).cursor2.state = .idle ∨ (recorded1 coasted e pos s).cursor2.state = .await) := by
    show ¬ (s.cursor2.state = .idle ∨ s.cursor2.state = .await)
    simp [ahead]
  exact if_neg waits

theorem recorded1_head {e : Expect1} (mark : e.mark = .head) (coasted : Bool) (pos : Int) (s : State) : recorded1 coasted e pos s =
    { s with
      cursor1 := { s.cursor1 with lastHead := some e.panel, seekPending := false, deciding := false, expect := none }
      watches := { s.watches with m1Window := none }
      panels := s.panels.map (fun q => if q.serial = e.panel.serial then { q with
        aHead := some ⟨pos, coasted⟩, state := if q.state = .queued then .infeed else q.state
        flags := if coasted = true ∧ q.state ≠ .done ∧ .coastedM1 ∉ q.flags then q.flags ++ [.coastedM1] else q.flags } else q)
      link := if coasted then (queueEvent (.markCoast .m1 e.panel.id .head) s).link else s.link } := by
  unfold recorded1
  simp only [marked1_eq]
  rw [mark]; rfl

theorem recorded1_tail {e : Expect1} (mark : e.mark = .tail) (coasted : Bool) (pos : Int) (s : State) : recorded1 coasted e pos s =
    { s with
      cursor1 := { s.cursor1 with lastHead := none, lastTail := some pos, deciding := false, expect := none }
      watches := { s.watches with m1Window := none }
      panels := s.panels.map (fun q => if q.serial = e.panel.serial then { q with
        aTail := some ⟨pos, coasted⟩
        flags := if coasted = true ∧ q.state ≠ .done ∧ .coastedM1 ∉ q.flags then q.flags ++ [.coastedM1] else q.flags } else q)
      link := if coasted then (queueEvent (.markCoast .m1 e.panel.id .tail) s).link else s.link } := by
  unfold recorded1
  simp only [marked1_eq]
  rw [mark]; rfl

/-- A head resolved at M1: the cursor expects the panel's tail (R52, R53). -/
theorem settleM1_head {s : State} {e : Expect1} {p : Panel} (expect : s.cursor1.expect = some e) (mark : e.mark = .head) (panel : s.panel? e.panel = some p)
    (ahead : s.cursor2.state = .window) (running : s.cursor1.state ≠ .halted) (tail : p.aTail = none) (runs : p.completion ≠ some .aborted) (coasted : Bool)
    {pos : Int} (room : s.p1 ≤ pos + p.lNom + s.work .w1) : settleM1 coasted pos s =
      openWindow1 e.panel .tail (pos + p.lNom) (freshExpect1 (recorded1 coasted e pos s)) := by
  have found := panel?_recorded1 panel coasted pos
  rw [marked1_eq, mark] at found
  unfold settleM1
  rw [resolveM1_eq expect panel ahead (by simp [mark])]
  refine takeUpM1_tail (by rw [recorded1_head mark]; exact running) (next1_of_head (by rw [recorded1_head mark]) found tail runs rfl) room

/-- A tail resolved at M1, of a panel whose head has not reached M2 (R55). -/
theorem settleM1_tail {s : State} {e : Expect1} {p : Panel} (expect : s.cursor1.expect = some e) (panel : s.panel? e.panel = some p)
    (ahead : s.cursor2.state = .window) (before : p.bHead = none) (coasted : Bool) (pos : Int) :
    settleM1 coasted pos s = takeUpM1 (recorded1 coasted e pos s) := by
  unfold settleM1
  rw [resolveM1_eq expect panel ahead fun _ => before]

/-- With no QUEUED panel the cursor is IDLE after a tail (R57, R145). -/
theorem takeUpM1_after_tail_idle {s : State} {e : Expect1} (mark : e.mark = .tail) (running : s.cursor1.state ≠ .halted)
    (none : ∀ q ∈ s.panels, q.state ≠ .queued) (coasted : Bool) (pos : Int) :
    takeUpM1 (recorded1 coasted e pos s) = becomeIdle1 (freshExpect1 (recorded1 coasted e pos s)) := by
  rw [recorded1_tail mark]
  refine takeUpM1_idle running (next1_of_none rfl fun q hq => ?_)
  obtain ⟨o, ho, rfl⟩ := List.mem_map.mp hq
  split <;> exact none o ho

/-- With a QUEUED panel, no seek pending and no hold, its head is expected at the tail + G_nom (R52). -/
theorem takeUpM1_after_tail_head {s : State} {e : Expect1} (mark : e.mark = .tail) (running : s.cursor1.state ≠ .halted) {k : Panel}
    (first : s.panels.find? (fun q => decide (q.state = .queued)) = some k) (hold : s.cursor1.holdLimit = none) (seek : s.cursor1.seekPending = false)
    (coasted : Bool) {pos : Int} (room : s.p1 ≤ pos + k.gNom + s.work .w1) :
    takeUpM1 (recorded1 coasted e pos s) = openWindow1 ⟨k.serial, k.id⟩ .head (pos + k.gNom) (freshExpect1 (recorded1 coasted e pos s)) := by
  have cursor : (recorded1 coasted e pos s).cursor1 = { s.cursor1 with lastHead := none, lastTail := some pos, deciding := false, expect := none } := by
    rw [recorded1_tail mark]
  have kept (q : Panel) : (if q.serial = e.panel.serial then marked1 coasted e.mark pos q else q).state = q.state
      ∧ (if q.serial = e.panel.serial then marked1 coasted e.mark pos q else q).ref = q.ref
      ∧ (if q.serial = e.panel.serial then marked1 coasted e.mark pos q else q).gNom = q.gNom := by
    split
    · rw [marked1_eq, mark]; exact ⟨rfl, rfl, rfl⟩
    · exact ⟨rfl, rfl, rfl⟩
  have next := next1_of_queued (s := recorded1 coasted e pos s) (by rw [cursor]) (find?_state_changed _ (fun q => (kept q).1) first)
  rw [(kept k).2.1, (kept k).2.2, cursor] at next
  exact takeUpM1_head (by rw [cursor]; exact running) next (by rw [cursor]; exact hold) (by rw [cursor]; exact seek) room

/-! ### A valid bar at M1 (R47, R53, R55) -/

theorem trailingEdge_of_valid {s : State} {sn : Sensor} {l : Int} {st : Bool} (bar : (s.sensor sn).bar = .counting l st)
    (valid : s.work .markMin ≤ s.ownPos sn - l ∧ s.ownPos sn - l ≤ s.work .markMax) : trailingEdge sn s = reportBar sn l st (endBar sn s) := by
  unfold trailingEdge
  rw [bar]
  exact if_pos (decide_eq_true valid)

theorem reportM1_of_seek {s : State} (seek : s.cursor1.state = .seek) (l : Int) : reportM1 l false s = settleM1 false l s := by
  unfold reportM1; rw [seek]; rfl

theorem reportM1_of_window {s : State} {e : Expect1} {w : Window1} {l : Int} (window : s.cursor1.state = .window) (expect : s.cursor1.expect = some e)
    (open' : e.window = some w) (low : w.lower ≤ l) (high : l ≤ w.upper) : reportM1 l false s = settleM1 false l s := by
  unfold reportM1; rw [window, expect, Option.bind_some, open']
  exact if_pos ⟨rfl, low, high⟩

/-- The light after a bar at M1: the state that its report finds (R47). -/
def lightened1 (s : State) : State :=
  { s with
    inputs := { s.inputs with dark1 := false }
    sensor1 := { s.sensor1 with bar := .none, threshold := s.work .threshM1 }
    watches := { s.watches with bar1 := none } }

theorem exec_validBar1 {s : State} (h : Settled s) {l : Int} (dark : s.inputs.dark1 = true) (bar : s.sensor1.bar = .counting l false)
    (long : s.work .markMin ≤ s.p1 - l) (short : s.p1 - l ≤ s.work .markMax) :
    exec (.barTrailingEdge .m1) s = .next (finish s (reportM1 l false (lightened1 s))) := by
  refine (exec_barTrailingEdge h .m1 dark).trans (congrArg (fun x => Host.Outcome.next (finish s x)) ?_)
  exact trailingEdge_of_valid (sn := .m1) (s := { s with inputs := setDark .m1 false s.inputs }) bar ⟨long, short⟩

/-- The limit of the starvation watch that stands after an event (R145). -/
theorem starveAfter_limit (u : State) : u.starveAfter.map (·.limit) = u.starveLimit := by
  unfold State.starveAfter
  cases limit : u.starveLimit with
  | none => rfl
  | some l =>
    dsimp only; split
    · rename_i stands
      cases watch : u.watches.starve with
      | none => rw [watch] at stands; cases stands
      | some w => rw [watch] at stands; exact congrArg some (of_decide_eq_true stands)
    · rfl

theorem starve_of_cursor {s : State} (h : Settled s) (busy : s.cursor1.state ≠ .idle) : s.watches.starve = none :=
  (starveAfter_of_settled h).symm.trans (starveAfter_of_cursor busy)

/-- Settles O33. -/
theorem barResolvesHead : Obligations.BarResolvesHead := by
  intro s l e p h dark bar long short expect panel ahead
  dsimp only
  have serial : p.serial = e.panel.serial := by
    have found := List.find?_some (p := fun q : Panel => q.serial == e.panel.serial) panel
    simpa using found
  refine ⟨fun head state queued tail runs room => ?_, fun w tail window open' low high before none => ?_,
    fun w k tail window open' low high before first hold seek room => ?_⟩
  · have report : reportM1 l false (lightened1 s) = settleM1 false l (lightened1 s) := by
      rcases state with seek | ⟨window, w, open', low, high⟩
      · exact reportM1_of_seek (s := lightened1 s) seek l
      · exact reportM1_of_window (s := lightened1 s) window expect open' low high
    have running : s.cursor1.state ≠ .halted := by rcases state with x | ⟨x, _⟩ <;> rw [x] <;> exact nofun
    rw [exec_validBar1 h dark bar long short, report, settleM1_head (s := lightened1 s) expect head panel ahead running tail runs false room]
    have idle : s.cursor1.state ≠ .idle := by rcases state with x | ⟨x, _⟩ <;> rw [x] <;> exact nofun
    rw [recorded1_head head, serial]
    simp only [Bool.false_eq_true, false_and, if_false]
    refine congrArg Host.Outcome.next ((Calm.finish_still ?_ h ?_ ?_).trans ?_)
    · exact {}
    · exact (starveAfter_of_cursor (by exact nofun)).trans (starve_of_cursor h idle).symm
    · refine h.attn.congr rfl (any_map_of_same _ _ _ fun q => ?_) rfl rfl rfl rfl
      split
      · exact decide_eq_decide.mpr (writeMark1_kept .head ⟨l, false⟩ q).2.2.2
      · rfl
    · rfl
  · rw [exec_validBar1 h dark bar long short, reportM1_of_window (s := lightened1 s) window expect open' low high,
      settleM1_tail (s := lightened1 s) expect panel ahead before false l,
      takeUpM1_after_tail_idle (s := lightened1 s) tail (by exact fun x => nomatch window.symm.trans x) none, recorded1_tail tail]
    simp only [Bool.false_eq_true, false_and, if_false]
    refine ⟨_, rfl, ?_⟩
    rw [becomeIdle1_of_busy (by exact fun x => nomatch window.symm.trans x), Calm.finish_starve ?_ h rfl ?_]
    · refine ⟨rfl, rfl, rfl, rfl, ?_, rfl, rfl, rfl, rfl, rfl, rfl, rfl, rfl, rfl⟩
      refine (starveAfter_limit _).trans ?_
      unfold State.starveLimit
      by_cases feeding : s.feeding = true
      · rw [if_pos feeding]; exact if_pos ⟨rfl, feeding⟩
      · rw [if_neg feeding]; exact if_neg fun x => feeding x.2
    · exact {}
    · refine h.attn.congr rfl (any_map_of_same _ _ _ fun q => ?_) rfl rfl rfl rfl
      split <;> rfl
  · rw [exec_validBar1 h dark bar long short, reportM1_of_window (s := lightened1 s) window expect open' low high,
      settleM1_tail (s := lightened1 s) expect panel ahead before false l,
      takeUpM1_after_tail_head (s := lightened1 s) tail (by exact fun x => nomatch window.symm.trans x) first hold seek false room, recorded1_tail tail]
    simp only [Bool.false_eq_true, false_and, if_false]
    have idle : s.cursor1.state ≠ .idle := fun x => nomatch window.symm.trans x
    refine congrArg Host.Outcome.next ((Calm.finish_still ?_ h ?_ ?_).trans ?_)
    · exact {}
    · exact (starveAfter_of_cursor (by exact nofun)).trans (starve_of_cursor h idle).symm
    · refine h.attn.congr rfl (any_map_of_same _ _ _ fun q => ?_) rfl rfl rfl rfl
      split <;> rfl
    · rfl

end Sys2Proof.Machine
end

section
/-!
The Disturbance List (R82): where a point goes, what a lost one costs, and the splices that add them (R58 to R60, R164).
-/
namespace Sys2Proof.Machine

/-! ### Points -/

/-- A new point goes between those before it and those behind it. -/
theorem insertPoint_eq (k : PointKind) {pos : Int} : ∀ {ps : List Point}, ps.Pairwise (fun p q => p.pos < q.pos) → (∀ p ∈ ps, p.pos ≠ pos) →
    insertPoint ⟨k, pos⟩ ps = ps.filter (fun p => decide (p.pos < pos)) ++ ⟨k, pos⟩ :: ps.filter (fun p => decide (pos < p.pos)) := by
  intro ps
  induction ps with
  | nil => intro _ _; rfl
  | cons q qs ih =>
    intro ordered new
    obtain ⟨first, rest⟩ := List.pairwise_cons.mp ordered
    have off := new q List.mem_cons_self
    unfold insertPoint
    by_cases before : pos < q.pos
    · have low : (q :: qs).filter (fun p => decide (p.pos < pos)) = [] := List.filter_eq_nil_iff.mpr fun p hp => by
        rcases List.mem_cons.mp hp with rfl | tail
        · simp; omega
        · have := first p tail
          simp; omega
      have high : (q :: qs).filter (fun p => decide (pos < p.pos)) = q :: qs := List.filter_eq_self.mpr fun p hp => by
        rcases List.mem_cons.mp hp with rfl | tail
        · exact decide_eq_true before
        · have := first p tail
          simp; omega
      rw [if_pos before, low, high]; rfl
    · have behind : q.pos < pos := by omega
      have low : (q :: qs).filter (fun p => decide (p.pos < pos)) = q :: qs.filter (fun p => decide (p.pos < pos)) :=
        List.filter_cons_of_pos (decide_eq_true behind)
      have high : (q :: qs).filter (fun p => decide (pos < p.pos)) = qs.filter (fun p => decide (pos < p.pos)) :=
        List.filter_cons_of_neg (by simpa using before)
      rw [if_neg before, ih rest fun p hp => new p (List.mem_cons_of_mem _ hp), low, high]; rfl

/-- The events of a point that is lost as a seventeenth in AUTO and FOLLOW (R81, R82). -/
def pointEvents (pos : Int) (x : RegBlock) : List Event :=
  if (∀ p ∈ x.points, p.pos ≠ pos) ∧ 16 ≤ x.points.length ∧ x.lock = .auto ∧ x.mode = .follow then
    .mode .capture .overflow .auto :: (if x.register = .inRegister then [.register .outOfRegister .modeLeft] else [])
  else []

theorem addPoint_eq {s : State} (ordered : PointsOrdered s) (k : PointKind) (pos : Int) :
    addPoint k pos s = queueEvents (pointEvents pos s.reg) { s with reg := pointAdded k pos s.reg } := by
  by_cases held : ∃ p ∈ s.reg.points, p.pos = pos
  · have absorbed : s.reg.points.any (fun p => decide (p.pos = pos)) = true := by simpa using held
    have none : pointEvents pos s.reg = [] := if_neg fun x => by obtain ⟨p, hp, same⟩ := held; exact x.1 p hp same
    have same : pointAdded k pos s.reg = s.reg := if_pos held
    rw [none, same]; exact if_pos absorbed
  · have new : ∀ p ∈ s.reg.points, p.pos ≠ pos := fun p hp same => held ⟨p, hp, same⟩
    have absorbed : ¬ s.reg.points.any (fun p => decide (p.pos = pos)) = true := by simpa using held
    refine (if_neg absorbed).trans ?_
    by_cases room : s.reg.points.length < 16
    · have none : pointEvents pos s.reg = [] := if_neg fun x => by omega
      have added : pointAdded k pos s.reg = { s.reg with points := insertPoint ⟨k, pos⟩ s.reg.points } := by
        rw [insertPoint_eq k ordered.2 new]; exact (if_neg held).trans (if_pos room)
      rw [none, added]; exact if_pos room
    · refine (if_neg room).trans ?_
      by_cases follow : s.reg.lock = .auto ∧ s.reg.mode = .follow
      · have added : pointAdded k pos s.reg = { s.reg with mode := .capture, register := .outOfRegister, lockCount := 0 } :=
          (if_neg held).trans ((if_neg room).trans (if_pos follow))
        have told : pointEvents pos s.reg = .mode .capture .overflow .auto :: (if s.reg.register = .inRegister then [.register .outOfRegister .modeLeft] else []) :=
          if_pos ⟨new, by omega, follow⟩
        rw [added, told, if_pos follow]
        obtain ⟨auto, mode⟩ := follow
        have step : changeMode .capture .overflow { reg := s.reg } =
            ⟨{ s.reg with mode := .capture, register := .outOfRegister, lockCount := 0 }, some .overflow,
              if s.reg.register = .inRegister then some .modeLeft else none, none⟩ := by
          unfold changeMode takeOut
          simp [mode, auto]
        rw [step]
        unfold applyReg regEvents
        by_cases locked : s.reg.register = .inRegister
        · simp [locked, mode, auto]
        · simp [locked, mode, auto]
      · have added : pointAdded k pos s.reg = s.reg := (if_neg held).trans ((if_neg room).trans (if_neg follow))
        have none : pointEvents pos s.reg = [] := if_neg fun x => follow x.2.2
        rw [added, none]; exact if_neg follow

theorem pointEvents_length (pos : Int) (x : RegBlock) : (pointEvents pos x).length ≤ 2 := by
  unfold pointEvents; split
  · split <;> decide
  · decide

theorem pointEvents_of_room {pos : Int} {x : RegBlock} (room : x.points.length < 16) : pointEvents pos x = [] := if_neg fun h => by omega

theorem pointTold_of_subset {pos : Int} {x : RegBlock} {es : List Event} (all : ∀ e ∈ pointEvents pos x, e ∈ es) : pointTold pos x es := by
  intro new full auto follow
  have told : pointEvents pos x = .mode .capture .overflow .auto :: (if x.register = .inRegister then [.register .outOfRegister .modeLeft] else []) :=
    if_pos ⟨new, full, auto, follow⟩
  rw [told] at all
  refine ⟨all _ List.mem_cons_self, fun locked => all _ ?_⟩
  rw [if_pos locked]
  exact List.mem_cons_of_mem _ List.mem_cons_self

theorem queueEvents_of_room {es : List Event} : ∀ {s : State}, s.link.events.length + es.length ≤ 64 →
    queueEvents es s = { s with link := { s.link with events := s.link.events ++ es } } := by
  induction es with
  | nil => intro s _; rw [List.append_nil]; rfl
  | cons e es ih =>
    intro s room
    rw [List.length_cons] at room
    show queueEvents es (queueEvent e s) = _
    rw [queueEvent_of_room (by omega), ih (by simp only [List.length_append, List.length_singleton]; omega)]
    simp only [List.append_assoc, List.singleton_append]

theorem queueEvent_queueEvents (e : Event) (es : List Event) (s : State) : queueEvent e (queueEvents es s) = queueEvents (es ++ [e]) s := by
  unfold queueEvents; rw [List.foldl_append]; rfl

/-- A point and the event of its cause, with room for them all. -/
theorem queueEvent_addPoint {s : State} (ordered : PointsOrdered s) (k : PointKind) (pos : Int) (e : Event) (room : s.link.events.length ≤ 61) :
    queueEvent e (addPoint k pos s) = { s with
      reg := pointAdded k pos s.reg
      link := { s.link with events := s.link.events ++ (pointEvents pos s.reg ++ [e]) } } := by
  have short := pointEvents_length pos s.reg
  rw [addPoint_eq ordered, queueEvent_queueEvents, queueEvents_of_room]
  show s.link.events.length + _ ≤ 64
  rw [List.length_append, List.length_singleton]; omega

/-! ### Print splices (R58 to R60) -/

/-- A splice with no tail in WINDOW and no hold limit before it: a head is held, or the cursor is IDLE (R59). -/
theorem spliceCursor1_eq {s : State} (state : s.cursor1.state = .seek ∨ s.cursor1.state = .spliceHold ∨ s.cursor1.state = .idle)
    (hold : s.cursor1.holdLimit = none) (limit : Int) : ∃ e b, spliceCursor1 limit s = { s with
      cursor1 := { s.cursor1 with
        state := if ∃ q ∈ s.panels, q.state = .queued then .spliceHold else .idle
        expect := e, seekPending := true, holdLimit := some limit, lastHead := none, deciding := false }
      watches := { s.watches with m1Window := none, hold := some (watchPasses s.p1 limit) }
      sensor1 := { s.sensor1 with bar := s.sensor1.bar.markStale }
      drives := { s.drives with starveBase := b } } := by
  have window : s.cursor1.state ≠ .window := by rcases state with x | x | x <;> rw [x] <;> exact nofun
  have running : s.cursor1.state ≠ .halted := by rcases state with x | x | x <;> rw [x] <;> exact nofun
  have act : spliceCursor1 limit s = takeUpM1 { s with
      cursor1 := { s.cursor1 with seekPending := true, holdLimit := some limit, lastHead := none }
      watches := { s.watches with hold := some (watchPasses s.p1 limit) } } := by
    unfold spliceCursor1
    rw [decide_eq_false window, Bool.false_and]
    dsimp only
    rw [hold]
  rw [act]
  by_cases queued : ∃ q ∈ s.panels, q.state = .queued
  · obtain ⟨k, first⟩ := Option.isSome_iff_exists.mp (List.find?_isSome (p := fun q : Panel => decide (q.state = .queued)).mpr
      (by simpa using queued))
    refine ⟨some { panel := k.ref, mark := .head, takeUp := s.p1 }, s.drives.starveBase, ?_⟩
    rw [if_pos queued]
    exact takeUpM1_held running (next1_of_queued rfl first) rfl
  · refine ⟨none, if s.cursor1.state = .idle then s.drives.starveBase else some (s.cursor1.lastTail.getD s.p1), ?_⟩
    rw [if_neg queued]
    exact takeUpM1_idle running (next1_of_none rfl fun q hq x => queued ⟨q, hq, x⟩)

/-- A panel that a flag has been raised against, if a test holds of it. -/
def flagWhere (f : Flag) (test : Panel → Bool) (p : Panel) : Panel :=
  if test p = true ∧ p.state ≠ .done ∧ f ∉ p.flags then { p with flags := p.flags ++ [f] } else p

theorem flagWhere_state (f : Flag) (test : Panel → Bool) (p : Panel) : (flagWhere f test p).state = p.state := by unfold flagWhere; split <;> rfl

theorem exists_queued_flagWhere (f : Flag) (test : Panel → Bool) (ps : List Panel) :
    (∃ q ∈ ps.map (flagWhere f test), q.state = .queued) ↔ ∃ q ∈ ps, q.state = .queued := by
  simp [flagWhere_state]

/-- A print splice with no tail in WINDOW and no hold limit before it (R58 to R60). -/
theorem takeSplice_eq {s : State} (state : s.cursor1.state = .seek ∨ s.cursor1.state = .spliceHold ∨ s.cursor1.state = .idle)
    (hold : s.cursor1.holdLimit = none) (ordered : PointsOrdered s) (room : s.link.events.length ≤ 61) : ∃ e b, takeSplice s = { s with
      panels := s.panels.map (flagWhere .splice (Panel.touches (s.p1 - s.work .spliceZone) (s.p1 + s.work .spliceZone)))
      cursor1 := { s.cursor1 with
        state := if ∃ q ∈ s.panels, q.state = .queued then .spliceHold else .idle
        expect := e, seekPending := true, holdLimit := some (s.p1 + s.work .spliceZone), lastHead := none, deciding := false }
      watches := { s.watches with m1Window := none, hold := some (watchPasses s.p1 (s.p1 + s.work .spliceZone)) }
      sensor1 := { s.sensor1 with bar := s.sensor1.bar.markStale }
      drives := { s.drives with starveBase := b }
      reg := pointAdded .printSplice s.p1 s.reg
      link := { s.link with events := s.link.events ++ (pointEvents s.p1 s.reg ++ [.splice false s.p1]) } } := by
  have raised := raiseWhere_eq .splice (Panel.touches (s.p1 - s.work .spliceZone) (s.p1 + s.work .spliceZone)) s
  obtain ⟨e, b, cursor⟩ := spliceCursor1_eq (s := { s with
    panels := s.panels.map (flagWhere .splice (Panel.touches (s.p1 - s.work .spliceZone) (s.p1 + s.work .spliceZone))) }) state hold (s.p1 + s.work .spliceZone)
  simp only [exists_queued_flagWhere] at cursor
  refine ⟨e, b, ?_⟩
  unfold takeSplice
  refine (congrArg (fun x => queueEvent _ (addPoint _ _ x)) ((congrArg _ raised).trans cursor)).trans ?_
  refine (queueEvent_addPoint ?_ .printSplice s.p1 (.splice false s.p1) ?_).trans ?_
  · exact ordered
  · exact room
  · rfl

/-- A film splice (R164). -/
theorem takeFilmSplice_eq {s : State} (ordered : PointsOrdered s) (room : s.link.events.length ≤ 61) : takeFilmSplice s = { s with
      panels := s.panels.map (flagWhere .filmSplice
        (Panel.touches (s.p1 - s.work .dNip - s.work .spliceZone) (s.p1 - s.work .dNip + s.work .spliceZone)))
      reg := pointAdded .filmSplice (s.p1 - s.work .dNip) s.reg
      link := { s.link with events := s.link.events ++ (pointEvents (s.p1 - s.work .dNip) s.reg ++ [.splice true (s.p1 - s.work .dNip)]) } } := by
  unfold takeFilmSplice
  refine (congrArg (fun x => queueEvent _ (addPoint _ _ x)) (raiseWhere_eq ..)).trans ?_
  refine (queueEvent_addPoint ?_ .filmSplice _ _ ?_).trans ?_
  · exact ordered
  · exact room
  · rfl

/-- Settles O35. -/
theorem splicesAndHold : Obligations.SplicesAndHold := by
  intro s h
  dsimp only
  have done (f : Flag) (test : Panel → Bool) : (s.panels.map (flagWhere f test)).any (fun p => decide (p.state = .done)) = s.donePending :=
    any_map_of_same _ _ _ fun q => by rw [flagWhere_state]
  refine ⟨fun clear state hold ordered room => ?_, fun fitted clear threaded ordered room => ?_, fun p due held last seek first => ?_, fun due free => ?_⟩
  · have running : ¬ (s.inputs.splice = true ∨ s.cursor1.state = .halted) := by
      rw [clear]; rintro (x | x)
      · cases x
      · rcases state with y | y | y <;> rw [y] at x <;> cases x
    have act : exec .printSplice s = .next (finish s (takeSplice { s with inputs := { s.inputs with splice := true } })) := by
      show Host.Outcome.next (inputEvent _ (if s.inputs.splice = true ∨ s.cursor1.state = .halted then id else takeSplice) s) = _
      rw [inputEvent_of_running h.running, if_neg running]
    obtain ⟨e, b, spliced⟩ := takeSplice_eq (s := { s with inputs := { s.inputs with splice := true } }) state hold ordered room
    refine ⟨_, act.trans (congrArg Host.Outcome.next ((congrArg (finish s) spliced).trans (Calm.finish_eq ?_ h))), ?_⟩
    · exact {}
    refine ⟨rfl, rfl, rfl, rfl, rfl, rfl, ?_, ?_, fun free => ?_, rfl, rfl, rfl, rfl, rfl⟩
    · exact List.mem_append_right _ (List.mem_append_right _ List.mem_cons_self)
    · exact pointTold_of_subset fun e he => List.mem_append_right _ (List.mem_append_left _ he)
    · exact congrArg (fun es => s.link.events ++ (es ++ _)) (pointEvents_of_room free)
  · have running : ¬ (s.inputs.filmSplice = true ∨ s.line.state = .unthreaded) := by simp [clear, threaded]
    have act : exec .filmSplice s = .next (finish s (takeFilmSplice { s with inputs := { s.inputs with filmSplice := true } })) := by
      show Host.Outcome.next (inputEvent _ (if s.inputs.filmSplice = true ∨ s.line.state = .unthreaded then id else ifFitted takeFilmSplice) s) = _
      rw [inputEvent_of_running h.running, if_neg running]
      exact congrArg (fun x => Host.Outcome.next (finish s x)) (if_pos fitted)
    refine ⟨_, act.trans (congrArg Host.Outcome.next ((congrArg (finish s) (takeFilmSplice_eq ?_ ?_)).trans (Calm.finish_eq ?_ h))), ?_⟩
    · exact ordered
    · exact room
    · exact {}
    refine ⟨rfl, rfl, ?_, ?_, fun free => ?_, rfl, rfl, rfl, rfl, rfl, rfl, rfl⟩
    · exact List.mem_append_right _ (List.mem_append_right _ List.mem_cons_self)
    · exact pointTold_of_subset fun e he => List.mem_append_right _ (List.mem_append_left _ he)
    · exact congrArg (fun es => s.link.events ++ (es ++ _)) (pointEvents_of_room free)
  · have act : exec .spliceHoldRelease s = .next (finish s (releaseHold1 s)) :=
      congrArg Host.Outcome.next ((if_pos due).trans (event_of_running h.running))
    have sought : releaseHold1 s = setCursor1 .seek (some { panel := p.ref, mark := .head, takeUp := s.p1 })
        (freshExpect1 { s with cursor1 := { s.cursor1 with holdLimit := none }, watches := { s.watches with hold := none } }) := by
      refine (if_pos held).trans (takeUpM1_seek ?_ (next1_of_queued last first) rfl (.inl seek))
      show s.cursor1.state ≠ .halted
      rw [held]; exact nofun
    refine ⟨_, act.trans (congrArg Host.Outcome.next ((congrArg (finish s) sought).trans (Calm.finish_eq ?_ h))), ?_⟩
    · exact {}
    · exact ⟨rfl, rfl, rfl, rfl, rfl, rfl, rfl⟩
  · have act : exec .spliceHoldRelease s = .next (finish s (releaseHold1 s)) :=
      congrArg Host.Outcome.next ((if_pos due).trans (event_of_running h.running))
    refine act.trans (congrArg Host.Outcome.next ((congrArg (finish s) (if_neg free)).trans (Calm.finish_still ?_ h ?_ ?_)))
    · exact {}
    · exact starveAfter_congr (s := s) h
    · exact h.attn.congr rfl rfl rfl rfl rfl rfl

end Sys2Proof.Machine
end

section
/-!
The Registration Unit and the M2 cursor: what a resolution at M2 writes (R73, R83), what the cursor takes up after it (R68 to R70), and a panel handed to the planner whose
commit must wait (R88, R89, R100).
-/
namespace Sys2Proof.Machine

/-! ### The Disturbance List after a resolution (R83) -/

theorem consumePoints_reg (a : Int) (x : RegStep) : (consumePoints a x).reg = consumed a x.reg := by
  have gone : (x.reg.points.filter fun p => decide (a < p.pos)).length = x.reg.points.length ↔ ¬ ∃ p ∈ x.reg.points, p.pos ≤ a := by
    rw [List.length_filter_eq_length_iff]; simp
  unfold consumePoints consumed
  dsimp only
  by_cases held : ∃ p ∈ x.reg.points, p.pos ≤ a
  · rw [if_neg fun same => gone.mp same held]
    by_cases auto : x.reg.lock = .auto
    · have both : (∃ p ∈ x.reg.points, p.pos ≤ a) ∧ x.reg.lock = .auto := ⟨held, auto⟩
      rw [if_pos auto, if_pos both]
      unfold takeOut changeMode
      by_cases follow : x.reg.mode = .follow
      · simp [auto, follow, takeOut]
      · simp [auto, follow]
    · have manual : ¬ ((∃ p ∈ x.reg.points, p.pos ≤ a) ∧ x.reg.lock = .auto) := fun h => auto h.2
      rw [if_neg auto, if_neg manual]
  · have all : (x.reg.points.filter fun p => decide (a < p.pos)) = x.reg.points :=
      List.filter_eq_self.mpr fun p hp => decide_eq_true (Int.not_le.mp fun low => held ⟨p, hp, low⟩)
    have none : ¬ ((∃ p ∈ x.reg.points, p.pos ≤ a) ∧ x.reg.lock = .auto) := fun h => held h.1
    rw [if_pos (gone.mpr held), if_neg none, all]

theorem consumePoints_clamped (a : Int) (x : RegStep) : (consumePoints a x).clamped = x.clamped := by
  unfold consumePoints changeMode takeOut
  dsimp only
  repeat' split
  all_goals rfl

/-! ### One panel's record -/

/-- The record of every panel of one serial number, replaced. -/
def setPanel (r : PanelRef) (q : Panel) (s : State) : State := { s with panels := s.panels.map fun o => if o.serial = r.serial then q else o }

theorem updPanel_of_only {s : State} {r : PanelRef} {p : Panel} (only : ∀ q ∈ s.panels, q.serial = r.serial → q = p) (f : Panel → Panel) :
    updPanel r f s = setPanel r (f p) s := by
  unfold updPanel setPanel
  rw [List.map_congr_left]
  intro o ho
  split
  · rw [only o ho ‹_›]
  · rfl

theorem updPanel_setPanel {r : PanelRef} {q : Panel} (serial : q.serial = r.serial) (f : Panel → Panel) (s : State) :
    updPanel r f (setPanel r q s) = setPanel r (f q) s := by
  unfold updPanel setPanel
  dsimp only
  rw [List.map_map]
  refine congrArg (fun ps => { s with panels := ps }) (List.map_congr_left fun o _ => ?_)
  by_cases named : o.serial = r.serial <;> simp [named, serial]

theorem panel?_setPanel {s : State} {r : PanelRef} {p q : Panel} (found : s.panel? r = some p) (serial : q.serial = r.serial) :
    (setPanel r q s).panel? r = some q := by
  unfold State.panel? setPanel
  dsimp only
  rw [List.find?_map]
  have same : ((fun o : Panel => o.serial == r.serial) ∘ fun o => if o.serial = r.serial then q else o) = fun o => o.serial == r.serial := by
    funext o; simp only [Function.comp]; split <;> simp [*]
  have name : p.serial = r.serial := by simpa using List.find?_some found
  rw [same, show s.panels.find? _ = some p from found, Option.map_some, if_pos name]

/-! ### A commit that must wait (R99, R100) -/

theorem tryCommits_of_wait {s : State} (wait : ∀ q ∈ s.panels, q.state = .atOutfeed → 32 < q.cuts.length + s.planner.queue.length) : tryCommits s = s := by
  have none : s.nextCommit = none := by
    unfold State.nextCommit
    cases first : s.panels.find? (fun p => decide (p.state = .queued ∨ p.state = .infeed ∨ p.state = .atOutfeed)) with
    | none => rfl
    | some p =>
      refine if_neg fun ⟨state, room⟩ => ?_
      have long := wait p (List.mem_of_find?_eq_some first) state
      have fits : s.needs p + s.planner.queue.length ≤ 32 := of_decide_eq_true room
      unfold State.needs at fits
      omega
  unfold tryCommits
  cases s.panels.length with
  | zero => rfl
  | succ n => unfold commitLoop; rw [none]

/-- A head handed to the planner while no commit has room (R88, R89). -/
theorem planHead_of_wait {s : State} {r : PanelRef} {q : Panel} {b : Coord} (serial : q.serial = r.serial) (head : q.bHead = some b)
    (long : 32 < q.cuts.length + s.planner.queue.length)
    (wait : ∀ o ∈ s.panels, o.state = .atOutfeed → 32 < o.cuts.length + s.planner.queue.length) : planHead r (setPanel r q s) =
      setPanel r { q with
        l2 := some (headLength s.reg.s q)
        triggers := some (q.cuts.map (triggerOf b.pos (headLength s.reg.s q).len q.lNom (s.work .dMk))) } s := by
  have written : State.triggersOf (setPanel r { q with l2 := some (headLength s.reg.s q) } s) { q with l2 := some (headLength s.reg.s q) }
      = some (q.cuts.map (triggerOf b.pos (headLength s.reg.s q).len q.lNom (s.work .dMk))) := by
    unfold State.triggersOf; dsimp only; rw [head]; rfl
  unfold planHead
  dsimp only
  rw [updPanel_setPanel serial, updPanel_setPanel (by exact serial)]
  dsimp only
  rw [show (setPanel r q s).reg = s.reg from rfl, written]
  refine tryCommits_of_wait fun o ho state => ?_
  obtain ⟨k, hk, rfl⟩ := List.mem_map.mp ho
  by_cases named : k.serial = r.serial
  · rw [if_pos named]; exact long
  · rw [if_neg named] at state ⊢
    exact wait k hk state

/-! ### Flags of a resolution -/

/-- A flag among those of a panel that is not DONE, if it is given (R15). -/
def addFlag (given : Bool) (f : Flag) (fs : List Flag) : List Flag := if given = true ∧ f ∉ fs then fs ++ [f] else fs

theorem raise_if {p : Panel} (runs : p.state ≠ .done) (given : Bool) (f : Flag) :
    (if given = true then [f] else []).foldl (fun p f => p.raise f) p = { p with flags := addFlag given f p.flags } := by
  unfold addFlag
  cases given with
  | false => rfl
  | true =>
    show p.raise f = _
    rw [raise_eq]
    simp [runs]

/-- The flags that a resolution of a head gives its panel (R73). -/
theorem flags2_head {p : Panel} (runs : p.state ≠ .done) (coasted : Bool) (x : RegStep) : (flags2 .head coasted x).foldl (fun p f => p.raise f) p =
    { p with flags := addFlag coasted .coastedM2 (addFlag x.clamped.isSome .stretchLimit
      (addFlag (decide (x.reg.lock = .auto ∧ x.reg.register = .outOfRegister)) .unlocked p.flags)) } := by
  have split : flags2 .head coasted x = (if decide (x.reg.lock = .auto ∧ x.reg.register = .outOfRegister) = true then [.unlocked] else [])
      ++ (if x.clamped.isSome = true then [.stretchLimit] else []) ++ (if coasted = true then [.coastedM2] else []) := by
    unfold flags2; simp only [true_and, decide_eq_true_eq]
  rw [split, List.foldl_append, List.foldl_append, raise_if runs]
  refine (congrArg (fun q => List.foldl _ q _) (raise_if ?_ _ _)).trans (raise_if ?_ _ _)
  · exact runs
  · exact runs

/-! ### Taking up (R68 to R70) -/

theorem takeUp2_of_on_time {s : State} (late : (setExpect2 s).late2 = false) : takeUp2 markBound s = setExpect2 s := by
  show (if (setExpect2 s).late2 = true then _ else setExpect2 s) = _
  rw [late]; rfl

theorem setExpect2_of_window {s : State} {r : PanelRef} {m : Mark} {a : Int} (next : s.next2 = some (r, m, some a)) : setExpect2 s = { s with
    cursor2 := { s.cursor2 with state := .window, expect := some ⟨r, m, some (s.window2 a)⟩, deciding := false }
    watches := { s.watches with m2Window := some (watchPasses s.p2 (s.window2 a).upper) }
    sensor2 := { s.sensor2 with bar := s.sensor2.bar.markStale } } := by
  unfold setExpect2; rw [next]

theorem takeUp2_window {s : State} {r : PanelRef} {m : Mark} {a : Int} (next : s.next2 = some (r, m, some a)) (ahead : s.p2 ≤ (s.window2 a).upper) :
    takeUp2 markBound s = { s with
      cursor2 := { s.cursor2 with state := .window, expect := some ⟨r, m, some (s.window2 a)⟩, deciding := false }
      watches := { s.watches with m2Window := some (watchPasses s.p2 (s.window2 a).upper) }
      sensor2 := { s.sensor2 with bar := s.sensor2.bar.markStale } } := by
  have set := setExpect2_of_window next
  rw [takeUp2_of_on_time, set]
  rw [set]
  exact decide_eq_false (Int.not_lt.mpr ahead)

theorem takeUp2_await {s : State} {r : PanelRef} {m : Mark} (next : s.next2 = some (r, m, none)) : takeUp2 markBound s = { s with
    cursor2 := { s.cursor2 with state := .await, expect := some ⟨r, m, none⟩, deciding := false }
    watches := { s.watches with m2Window := none } } := by
  have set : setExpect2 s = { s with
      cursor2 := { s.cursor2 with state := .await, expect := some ⟨r, m, none⟩, deciding := false }
      watches := { s.watches with m2Window := none } } := by unfold setExpect2; rw [next]
  rw [takeUp2_of_on_time, set]
  rw [set]; rfl

theorem takeUp2_idle {s : State} (next : s.next2 = none) : takeUp2 markBound s = { s with
    cursor2 := { s.cursor2 with state := .idle, expect := none, deciding := false }
    watches := { s.watches with m2Window := none } } := by
  have set : setExpect2 s = { s with
      cursor2 := { s.cursor2 with state := .idle, expect := none, deciding := false }
      watches := { s.watches with m2Window := none } } := by unfold setExpect2; rw [next]
  rw [takeUp2_of_on_time, set]
  rw [set]; rfl

theorem next2_of_head {s : State} {r : PanelRef} {p : Panel} (last : s.cursor2.lastHead = some r) (panel : s.panel? r = some p) (tail : p.bTail = none)
    (runs : p.completion ≠ some .aborted) : s.next2 = some (r, .tail, p.aTail.map (·.pos)) := by
  unfold State.next2
  simp [last, panel, tail, runs]

theorem next2_of_none {s : State} (last : s.cursor2.lastHead = none) (none : ∀ q ∈ s.panels, q.state ≠ .infeed) : s.next2 = Option.none := by
  have first : s.panels.find? (fun q => decide (q.state = .infeed)) = Option.none := List.find?_eq_none.mpr fun q hq => by simp [none q hq]
  unfold State.next2
  simp only [last, Option.bind_none, first, Option.map_none, Option.or_none]

/-! ### Resolutions at M2 (R73) -/

/-- The unit's step at a resolution (R73, R83). -/
def State.resolution (s : State) (coasted : Bool) (b : Int) (w : Window2) : RegStep :=
  consumePoints w.a (if coasted then regCoast s else regMatch s w.a b w.predicted)

/-- A resolution's record at M2, before the planner hears of it. -/
def recorded2 (coasted : Bool) (b : Int) (r : PanelRef) (m : Mark) (w : Window2) (s : State) : State :=
  { s with
    reg := (s.resolution coasted b w).reg
    cursor2 := { state := .idle, expect := none, lastHead := if m = .head then some r else none, deciding := false }
    watches := { s.watches with m2Window := none } }

theorem resolveM2_of_panel {s : State} {r : PanelRef} {m : Mark} {w : Window2} {p : Panel} (expect : s.cursor2.expect = some ⟨r, m, some w⟩)
    (panel : s.panel? r = some p) (coasted : Bool) (b : Int) : resolveM2 coasted b s =
      queueEvents (events2 r m coasted s.reg (s.resolution coasted b w))
        (handToPlanner m r (updPanel r (fun p => (flags2 m coasted (s.resolution coasted b w)).foldl (fun p f => p.raise f) (writeMark2 m ⟨b, coasted⟩ p))
          (recorded2 coasted b r m w s))) := by
  unfold resolveM2
  rw [expect]
  dsimp only
  rw [panel]
  rfl

/-- A head resolved at M2 while no commit has room. -/
theorem resolveM2_head {s : State} {r : PanelRef} {w : Window2} {p : Panel} (expect : s.cursor2.expect = some ⟨r, .head, some w⟩)
    (panel : s.panel? r = some p) (only : ∀ q ∈ s.panels, q.serial = r.serial → q = p) (infeed : p.state = .infeed)
    (wait : ∀ q ∈ s.panels, q.state = .atOutfeed ∨ q.serial = p.serial → 32 < q.cuts.length + s.planner.queue.length) (coasted : Bool) (b : Int) :
    let x := s.resolution coasted b w
    let len := headLength x.reg.s p
    resolveM2 coasted b s = queueEvents (events2 r .head coasted s.reg x) (setPanel r { p with
      bHead := some ⟨b, coasted⟩, state := .atOutfeed
      flags := addFlag coasted .coastedM2 (addFlag x.clamped.isSome .stretchLimit
        (addFlag (decide (x.reg.lock = .auto ∧ x.reg.register = .outOfRegister)) .unlocked p.flags))
      l2 := some len
      triggers := some (p.cuts.map (triggerOf b len.len p.lNom (s.work .dMk))) } (recorded2 coasted b r .head w s)) := by
  dsimp only
  have serial : p.serial = r.serial := by simpa using List.find?_some panel
  have written : (flags2 .head coasted (s.resolution coasted b w)).foldl (fun p f => p.raise f) (writeMark2 .head ⟨b, coasted⟩ p) = { p with
      bHead := some ⟨b, coasted⟩, state := .atOutfeed
      flags := addFlag coasted .coastedM2 (addFlag (s.resolution coasted b w).clamped.isSome .stretchLimit
        (addFlag (decide ((s.resolution coasted b w).reg.lock = .auto ∧ (s.resolution coasted b w).reg.register = .outOfRegister)) .unlocked p.flags)) } := by
    have head : writeMark2 .head ⟨b, coasted⟩ p = { p with bHead := some ⟨b, coasted⟩, state := .atOutfeed } := by
      unfold writeMark2; dsimp only; rw [if_pos infeed]
    rw [head]
    refine flags2_head ?_ coasted _
    exact nofun
  rw [resolveM2_of_panel expect panel, updPanel_of_only (s := recorded2 coasted b r .head w s) only, written]
  refine congrArg _ ((planHead_of_wait (b := ⟨b, coasted⟩) ?_ ?_ ?_ ?_).trans ?_)
  · exact serial
  · rfl
  · exact wait p (List.mem_of_find?_eq_some panel) (.inr rfl)
  · exact fun o ho state => wait o ho (.inl state)
  · rfl

theorem planTailM2_of_coast {s : State} {r : PanelRef} {p : Panel} {b : Int} (panel : s.panel? r = some p) (tail : p.bTail = some ⟨b, true⟩) :
    planTailM2 r s = s := by
  unfold planTailM2
  rw [panel]
  dsimp only
  rw [tail]
  cases p.bHead <;> cases p.l2 <;> rfl

/-- A tail coasted at M2 changes its panel's record alone (R92). -/
theorem resolveM2_tail_coast {s : State} {r : PanelRef} {w : Window2} {p : Panel} (expect : s.cursor2.expect = some ⟨r, .tail, some w⟩)
    (panel : s.panel? r = some p) (b : Int) : resolveM2 true b s =
      queueEvents (events2 r .tail true s.reg (s.resolution true b w)) { recorded2 true b r .tail w s with
        panels := s.panels.map fun q => if q.serial = r.serial then { q with
          bTail := some ⟨b, true⟩
          flags := if q.state ≠ .done ∧ .coastedM2 ∉ q.flags then q.flags ++ [.coastedM2] else q.flags } else q } := by
  have written (q : Panel) : (flags2 .tail true (s.resolution true b w)).foldl (fun p f => p.raise f) (writeMark2 .tail ⟨b, true⟩ q) = { q with
      bTail := some ⟨b, true⟩, flags := if q.state ≠ .done ∧ .coastedM2 ∉ q.flags then q.flags ++ [.coastedM2] else q.flags } :=
    raise_eq .coastedM2 { q with bTail := some ⟨b, true⟩ }
  rw [resolveM2_of_panel expect panel]
  refine congrArg _ ?_
  simp only [written]
  refine planTailM2_of_coast (b := b)
    (p := { p with bTail := some ⟨b, true⟩, flags := if p.state ≠ .done ∧ .coastedM2 ∉ p.flags then p.flags ++ [.coastedM2] else p.flags }) ?_ rfl
  · exact find?_changed (fun q => { q with
      bTail := some ⟨b, true⟩, flags := if q.state ≠ .done ∧ .coastedM2 ∉ q.flags then q.flags ++ [.coastedM2] else q.flags }) (fun _ => rfl) panel

/-! ### What an expiry's events are -/

theorem queueEvent_events (e : Event) (s : State) :
    (queueEvent e s).link.events = s.link.events ++ if s.link.events.length < 64 then [e] else [] := by
  unfold queueEvent
  split
  · rfl
  · exact (List.append_nil _).symm

theorem queueEvents_grow (es : List Event) : ∀ s : State, ∃ rest, (queueEvents es s).link.events = s.link.events ++ rest := by
  induction es with
  | nil => exact fun s => ⟨[], (List.append_nil _).symm⟩
  | cons e es ih =>
    intro s
    obtain ⟨rest, more⟩ := ih (queueEvent e s)
    rw [queueEvent_events, List.append_assoc] at more
    exact ⟨_, more⟩

theorem queueEvents_first {e : Event} {es : List Event} {s : State} (room : s.link.events.length < 64) :
    ∃ rest, (queueEvents (e :: es) s).link.events = s.link.events ++ e :: rest := by
  obtain ⟨rest, more⟩ := queueEvents_grow es (queueEvent e s)
  rw [queueEvent_events, if_pos room, List.append_assoc] at more
  exact ⟨rest, more⟩

/-! ### Expiries (R54, R72) -/

theorem exec_m1WindowExpiry {s : State} (h : Settled s) (due : watchDue s.watches.m1Window = true) :
    exec .m1WindowExpiry s = .next (finish s (expireM1 s)) := congrArg Host.Outcome.next ((if_pos due).trans (event_of_running h.running))

theorem exec_m2WindowExpiry {s : State} (h : Settled s) (due : watchDue s.watches.m2Window = true) :
    exec .m2WindowExpiry s = .next (finish s (expireM2 s)) := congrArg Host.Outcome.next ((if_pos due).trans (event_of_running h.running))

/-- The M1 window's watch gone. -/
def unwatched1 (s : State) : State := { s with watches := { s.watches with m1Window := none } }
/-- The M2 window's watch gone. -/
def unwatched2 (s : State) : State := { s with watches := { s.watches with m2Window := none } }

theorem expireM1_of_no_bar {s : State} {e : Expect1} {w : Window1} (expect : s.cursor1.expect = some e) (window : e.window = some w)
    (bar : s.sensor1.bar = .none) : expireM1 s = settleM1 true w.expected (unwatched1 s) := by
  unfold expireM1 coastM1
  rw [expect, Option.bind_some, window]
  dsimp only
  rw [bar, expect, Option.bind_some, window]; rfl

theorem expireM2_of_no_bar {s : State} {r : PanelRef} {m : Mark} {w : Window2} (expect : s.cursor2.expect = some ⟨r, m, some w⟩)
    (bar : s.sensor2.bar = .none) : expireM2 s = settleM2 true w.predicted (unwatched2 s) := by
  unfold expireM2 coastM2
  rw [expect, Option.bind_some]
  dsimp only
  rw [bar, expect, Option.bind_some]; rfl

theorem expireM1_of_candidate {s : State} {e : Expect1} {w : Window1} {l : Int} (expect : s.cursor1.expect = some e) (window : e.window = some w)
    (bar : s.sensor1.bar = .counting l false) (low : w.lower ≤ l) (high : l ≤ w.upper) : expireM1 s = { s with
      cursor1 := { s.cursor1 with deciding := true }, watches := { s.watches with m1Window := none } } := by
  unfold expireM1
  rw [expect, Option.bind_some, window]
  dsimp only
  rw [bar]
  exact if_pos ⟨low, high⟩

theorem expireM2_of_candidate {s : State} {e : Expect2} {w : Window2} {l : Int} (expect : s.cursor2.expect = some e) (window : e.window = some w)
    (bar : s.sensor2.bar = .counting l false) (low : w.lower ≤ l) (high : l ≤ w.upper) : expireM2 s = { s with
      cursor2 := { s.cursor2 with deciding := true }, watches := { s.watches with m2Window := none } } := by
  unfold expireM2
  rw [expect, Option.bind_some, window]
  dsimp only
  rw [bar]
  exact if_pos ⟨low, high⟩

end Sys2Proof.Machine
end

section
/-!
The windows' expiries (R54, R72), head and tail, at M1 and M2.
-/
namespace Sys2Proof.Machine

/-- An event that may queue events and has moved no cursor to or from IDLE: the starvation watch stands as it did. -/
theorem Calm.finish_told {s u : State} (c : Calm s u) (h : Settled s) (starve : u.starveAfter = u.watches.starve) : finish s u = attnUpdate u := by
  rw [c.finish_eq h, starve]

theorem calm_unwatched1 (s : State) : Calm s (unwatched1 s) := by unfold unwatched1; exact {}
theorem calm_freshExpect1 (s : State) : Calm s (freshExpect1 s) := by unfold freshExpect1; exact {}
theorem calm_recorded1 (coasted : Bool) (e : Expect1) (pos : Int) (s : State) : Calm s (recorded1 coasted e pos s) := by unfold recorded1; exact {}
theorem calm_openWindow1 (r : PanelRef) (m : Mark) (x : Int) (s : State) : Calm s (openWindow1 r m x s) := by
  unfold openWindow1 setCursor1; exact {}
theorem calm_becomeIdle1 (s : State) : Calm s (becomeIdle1 s) := by unfold becomeIdle1 setCursor1; exact {}

/-- A tail coasted at M1 with no QUEUED panel (R54, R57). -/
theorem exec_coast_tail1 {s : State} (h : Settled s) {e : Expect1} {w : Window1} {p : Panel} (due : watchDue s.watches.m1Window = true)
    (state : s.cursor1.state = .window) (expect : s.cursor1.expect = some e) (tail : e.mark = .tail) (window : e.window = some w)
    (bar : s.sensor1.bar = .none) (panel : s.panel? e.panel = some p) (before : p.bHead = none) (none : ∀ q ∈ s.panels, q.state ≠ .queued)
    (ahead : s.cursor2.state = .window) :
    exec .m1WindowExpiry s = .next (finish s (becomeIdle1 (freshExpect1 (recorded1 true e w.expected (unwatched1 s))))) := by
  have running : (unwatched1 s).cursor1.state ≠ .halted := fun x => nomatch state.symm.trans x
  refine (exec_m1WindowExpiry h due).trans (congrArg (fun x => Host.Outcome.next (finish s x)) ?_)
  rw [expireM1_of_no_bar expect window bar, settleM1_tail (s := unwatched1 s) expect panel ahead before true,
    takeUpM1_after_tail_idle (s := unwatched1 s) tail running none]

/-- A head coasted at M1 (R52, R54). -/
theorem exec_coast_head1 {s : State} (h : Settled s) {e : Expect1} {w : Window1} {p : Panel} (due : watchDue s.watches.m1Window = true)
    (state : s.cursor1.state = .window) (expect : s.cursor1.expect = some e) (head : e.mark = .head) (window : e.window = some w)
    (bar : s.sensor1.bar = .none) (panel : s.panel? e.panel = some p) (tail : p.aTail = none) (runs : p.completion ≠ some .aborted)
    (ahead : s.cursor2.state = .window) (room : s.p1 ≤ w.expected + p.lNom + s.work .w1) : exec .m1WindowExpiry s =
      .next (attnUpdate (openWindow1 e.panel .tail (w.expected + p.lNom) (freshExpect1 (recorded1 true e w.expected (unwatched1 s))))) := by
  have running : (unwatched1 s).cursor1.state ≠ .halted := fun x => nomatch state.symm.trans x
  have busy : s.cursor1.state ≠ .idle := fun x => nomatch state.symm.trans x
  refine (exec_m1WindowExpiry h due).trans (congrArg Host.Outcome.next ?_)
  rw [expireM1_of_no_bar expect window bar, settleM1_head (s := unwatched1 s) expect head panel ahead running tail runs true room]
  refine Calm.finish_told ?_ h ?_
  · exact (((calm_unwatched1 s).trans (calm_recorded1 ..)).trans (calm_freshExpect1 _)).trans (calm_openWindow1 ..)
  · exact (starveAfter_of_cursor (by exact nofun)).trans (starve_of_cursor h busy).symm

theorem queueEvents_of_link (es : List Event) : ∀ {s t : State}, t.link = s.link → queueEvents es t = { t with link := (queueEvents es s).link } := by
  induction es with
  | nil => intro s t h; exact congrArg (fun l => { t with link := l }) h
  | cons e es ih =>
    intro s t h
    have next := queueEvent_of_link h e
    refine (ih (s := queueEvent e s) (t := queueEvent e t) (by rw [next])).trans ?_
    rw [next]; rfl

/-! ### A coast (R78, R81) -/

/-- What a coast leaves alone, and what it counts. -/
theorem regCoast_kept (s : State) : (regCoast s).reg.anchor = s.reg.anchor ∧ (regCoast s).reg.s = s.reg.s
    ∧ (regCoast s).reg.coastCount = min (s.reg.coastCount + 1) 15 ∧ (regCoast s).reg.points = s.reg.points ∧ (regCoast s).reg.lock = s.reg.lock
    ∧ (regCoast s).reg.choice = s.reg.choice ∧ (regCoast s).clamped = none := by
  unfold regCoast changeMode takeOut
  dsimp only
  by_cases auto : s.reg.lock = .auto
  · rw [if_pos auto]
    repeat' split
    all_goals exact ⟨rfl, rfl, rfl, rfl, rfl, rfl, rfl⟩
  · rw [if_neg auto]
    repeat' split
    all_goals exact ⟨rfl, rfl, rfl, rfl, rfl, rfl, rfl⟩

theorem consumed_kept (a : Int) (x : RegBlock) : (consumed a x).anchor = x.anchor ∧ (consumed a x).s = x.s ∧ (consumed a x).coastCount = x.coastCount
    ∧ (consumed a x).lock = x.lock ∧ (consumed a x).choice = x.choice := by
  unfold consumed; split <;> exact ⟨rfl, rfl, rfl, rfl, rfl⟩

theorem resolution_coast (s : State) (b : Int) (w : Window2) : (s.resolution true b w).reg = consumed w.a (regCoast s).reg
    ∧ (s.resolution true b w).clamped = none :=
  ⟨consumePoints_reg _ _, (consumePoints_clamped _ _).trans (regCoast_kept s).2.2.2.2.2.2⟩

theorem headLength_eq {p : Panel} {h : Coord} (head : p.aHead = some h) (stretch : Int) : headLength stretch p =
    ⟨scaleLength (match p.aTail with | some t => t.pos - h.pos | none => p.lNom) stretch, if p.aTail.isSome = true then .m1 else .nominal⟩ := by
  unfold headLength
  rw [head]
  cases p.aTail <;> rfl

theorem calm_unwatched2 (s : State) : Calm s (unwatched2 s) := by unfold unwatched2; exact {}
theorem calm_recorded2 (coasted : Bool) (b : Int) (r : PanelRef) (m : Mark) (w : Window2) (s : State) : Calm s (recorded2 coasted b r m w s) := by
  unfold recorded2; exact {}
theorem calm_setPanel (r : PanelRef) (q : Panel) (s : State) : Calm s (setPanel r q s) := by unfold setPanel; exact {}

/-- What an expiry of a head's window at M2 leaves to be taken up and brought to its end (R72, R73). -/
theorem exec_coast_head2 {s : State} (h : Settled s) {r : PanelRef} {w : Window2} {p : Panel} (due : watchDue s.watches.m2Window = true)
    (expect : s.cursor2.expect = some ⟨r, .head, some w⟩) (bar : s.sensor2.bar = .none) (panel : s.panel? r = some p)
    (only : ∀ q ∈ s.panels, q.serial = r.serial → q = p) (infeed : p.state = .infeed)
    (wait : ∀ q ∈ s.panels, q.state = .atOutfeed ∨ q.serial = p.serial → 32 < q.cuts.length + s.planner.queue.length) :
    let reg := consumed w.a (regCoast s).reg
    let len := headLength s.reg.s p
    ∃ l, exec .m2WindowExpiry s = .next (finish s (takeUp2 markBound { s with
        reg := reg
        cursor2 := { state := .idle, expect := none, lastHead := some r, deciding := false }
        watches := { s.watches with m2Window := none }
        panels := s.panels.map fun o => if o.serial = r.serial then { p with
          bHead := some ⟨w.predicted, true⟩, state := .atOutfeed
          flags := addFlag true .coastedM2 (addFlag (decide (reg.lock = .auto ∧ reg.register = .outOfRegister)) .unlocked p.flags)
          l2 := some len
          triggers := some (p.cuts.map (triggerOf w.predicted len.len p.lNom (s.work .dMk))) } else o
        link := l }))
      ∧ (s.link.events.length < 64 → ∃ rest, l.events = s.link.events ++ .markCoast .m2 r.id .head :: rest) := by
  have resolve := resolveM2_head (s := unwatched2 s) expect panel only infeed wait true w.predicted
  obtain ⟨stepReg, clamped⟩ := resolution_coast (unwatched2 s) w.predicted w
  have stretch : (consumed w.a (regCoast s).reg).s = s.reg.s := (consumed_kept _ _).2.1.trans (regCoast_kept s).2.1
  have none (fs : List Flag) : addFlag (Option.none : Option Int).isSome .stretchLimit fs = fs := rfl
  dsimp only at resolve ⊢
  rw [clamped, none, stepReg, show (regCoast (unwatched2 s)) = regCoast s from rfl, stretch] at resolve
  refine ⟨(queueEvents (events2 r .head true s.reg ((unwatched2 s).resolution true w.predicted w)) s).link,
    (exec_m2WindowExpiry h due).trans (congrArg (fun x => Host.Outcome.next (finish s x)) ?_), fun free => queueEvents_first free⟩
  rw [expireM2_of_no_bar expect bar]
  refine congrArg (takeUp2 markBound) (resolve.trans ((queueEvents_of_link _ (s := s) ?_).trans ?_))
  · rfl
  · unfold setPanel recorded2
    rw [stepReg]
    rfl

theorem exec_coast_tail2 {s : State} (h : Settled s) {r : PanelRef} {w : Window2} {p : Panel} (due : watchDue s.watches.m2Window = true)
    (expect : s.cursor2.expect = some ⟨r, .tail, some w⟩) (bar : s.sensor2.bar = .none) (panel : s.panel? r = some p) :
    ∃ l, exec .m2WindowExpiry s = .next (finish s (takeUp2 markBound { s with
        reg := consumed w.a (regCoast s).reg
        cursor2 := { state := .idle, expect := none, lastHead := none, deciding := false }
        watches := { s.watches with m2Window := none }
        panels := s.panels.map fun q => if q.serial = r.serial then { q with
          bTail := some ⟨w.predicted, true⟩
          flags := if q.state ≠ .done ∧ .coastedM2 ∉ q.flags then q.flags ++ [.coastedM2] else q.flags } else q
        link := l }))
      ∧ (s.link.events.length < 64 → ∃ rest, l.events = s.link.events ++ .markCoast .m2 r.id .tail :: rest) := by
  have resolve := resolveM2_tail_coast (s := unwatched2 s) expect panel w.predicted
  have stepReg := (resolution_coast (unwatched2 s) w.predicted w).1
  refine ⟨(queueEvents (events2 r .tail true s.reg ((unwatched2 s).resolution true w.predicted w)) s).link,
    (exec_m2WindowExpiry h due).trans (congrArg (fun x => Host.Outcome.next (finish s x)) ?_), fun free => queueEvents_first free⟩
  rw [expireM2_of_no_bar expect bar]
  refine congrArg (takeUp2 markBound) (resolve.trans ((queueEvents_of_link _ (s := s) ?_).trans ?_))
  · rfl
  · unfold recorded2
    rw [stepReg]
    rfl

/-- A window predicted from the anchor (R69, R70). -/
theorem window2_of_anchor {s : State} {ak bk : Int} (anchor : s.reg.anchor = some (ak, bk)) (a : Int) : s.window2 a =
    { a, takeUp := s.p2, predicted := bk + (a - ak) + roundDiv ((a - ak) * s.reg.s) 1000000, half := s.halfWidth
      lower := max (bk + (a - ak) + roundDiv ((a - ak) * s.reg.s) 1000000 - s.halfWidth) s.p2
      upper := bk + (a - ak) + roundDiv ((a - ak) * s.reg.s) 1000000 + s.halfWidth } := by
  unfold State.window2 State.predict
  rw [anchor]

/-- After a head the cursor expects the panel's tail (R68). -/
theorem next2_of_set {s t : State} {r : PanelRef} {p q : Panel} (panels : t.panels = s.panels.map fun o => if o.serial = r.serial then q else o)
    (last : t.cursor2.lastHead = some r) (panel : s.panel? r = some p) (serial : q.serial = r.serial) (tail : q.bTail = none)
    (runs : q.completion ≠ some .aborted) {x : Option Int} (known : q.aTail.map (·.pos) = x) : t.next2 = some (r, .tail, x) := by
  rw [← known]
  refine next2_of_head last ?_ tail runs
  unfold State.panel?
  rw [panels]
  exact panel?_setPanel panel serial

theorem map_named {p : Panel} {r : PanelRef} (serial : p.serial = r.serial) (q : Panel) (ps : List Panel) :
    (ps.map fun o => if o.serial = r.serial then q else o) = ps.map fun o => if o.serial = p.serial then q else o := by rw [serial]

/-- Settles O34. -/
theorem windowsExpire : Obligations.WindowsExpire := by
  intro s h
  refine ⟨fun e w p due state expect tail window bar panel before none ahead => ?_,
    fun e w p due state expect head window bar panel queued tail runs ahead room => ?_,
    fun r w p k due state expect bar panel only first infeed tail runs wait => ?_,
    fun r w p due state expect bar panel none => ?_, fun e w l due expect window bar low high => ?_, fun e w l due expect window bar low high => ?_⟩
  · refine ⟨_, exec_coast_tail1 h due state expect tail window bar panel before none ahead, ?_⟩
    rw [recorded1_tail tail]
    simp only [true_and, if_true]
    rw [becomeIdle1_of_busy (by exact fun x => nomatch state.symm.trans x), Calm.finish_eq ?_ h]
    · refine ⟨rfl, rfl, rfl, rfl, fun free => ?_, rfl, rfl, rfl, rfl, rfl⟩
      exact (queueEvent_events _ (unwatched1 s)).trans (congrArg _ (if_pos free))
    · exact {}
  · refine ⟨_, exec_coast_head1 h due state expect head window bar panel tail runs ahead room, ?_⟩
    rw [recorded1_head head]
    simp only [true_and, if_true]
    unfold attnUpdate openWindow1 setCursor1 freshExpect1
    refine ⟨rfl, rfl, rfl, fun free => ?_, rfl, rfl, rfl, rfl, rfl, rfl, rfl⟩
    exact (queueEvent_events _ (unwatched1 s)).trans (congrArg _ (if_pos free))
  · obtain ⟨l, act, told⟩ := exec_coast_head2 h due expect bar panel only infeed wait
    have stretch : (consumed w.a (regCoast s).reg).s = s.reg.s := (consumed_kept _ _).2.1.trans (regCoast_kept s).2.1
    have serial : p.serial = r.serial := by simpa using List.find?_some panel
    dsimp only at act ⊢
    rw [headLength_eq first] at act
    have unaborted : p.completion ≠ some .aborted := by rw [runs]; exact nofun
    refine ⟨fun none => ?_, fun a ak bk some' anchor room => ?_⟩
    · refine ⟨_, act.trans (congrArg Host.Outcome.next ((congrArg (finish s) (takeUp2_await (r := r) (m := .tail) ?_)).trans (Calm.finish_told ?_ h ?_))), ?_⟩
      · refine next2_of_set (q := ?q) ?panels ?_ panel ?_ ?_ ?_ ?_
        case panels => rfl
        · rfl
        · exact serial
        · exact tail
        · exact unaborted
        · exact congrArg (Option.map (·.pos)) none
      · exact {}
      · exact starveAfter_congr (s := s) h
      · exact ⟨map_named serial _ _, rfl, rfl, rfl, (consumed_kept _ _).1.trans (regCoast_kept s).1, stretch,
          (consumed_kept _ _).2.2.1.trans (regCoast_kept s).2.2.1, told, rfl, rfl, rfl, rfl, rfl, rfl⟩
    · have kept : (consumed w.a (regCoast s).reg).anchor = some (ak, bk) := ((consumed_kept _ _).1.trans (regCoast_kept s).1).trans anchor
      have known : (p.aTail.map (·.pos)) = some a.pos := by rw [some']; rfl
      refine ⟨_, act.trans (congrArg Host.Outcome.next ((congrArg (finish s) (takeUp2_window (r := r) (m := .tail) (a := a.pos) ?_ ?_)).trans (Calm.finish_told ?_ h ?_))), ?_⟩
      · refine next2_of_set (q := ?q) ?panels ?_ panel ?_ ?_ ?_ ?_
        case panels => rfl
        · rfl
        · exact serial
        · exact tail
        · exact unaborted
        · exact known
      · rw [window2_of_anchor kept]
        show s.p2 ≤ bk + (a.pos - ak) + roundDiv ((a.pos - ak) * (consumed w.a (regCoast s).reg).s) 1000000 + _
        rw [stretch]; exact room
      · exact {}
      · exact starveAfter_congr (s := s) h
      · rw [window2_of_anchor kept]
        dsimp only
        rw [stretch]
        exact ⟨map_named serial _ _, rfl, rfl, rfl, (consumed_kept _ _).1.trans (regCoast_kept s).1, stretch,
          (consumed_kept _ _).2.2.1.trans (regCoast_kept s).2.2.1, told, rfl, rfl, rfl, rfl, rfl, rfl⟩
  · obtain ⟨l, act, told⟩ := exec_coast_tail2 h due expect bar panel
    refine ⟨_, act.trans (congrArg Host.Outcome.next ((congrArg (finish s) (takeUp2_idle (next2_of_none ?_ ?_))).trans (Calm.finish_told ?_ h ?_))), ?_⟩
    · rfl
    · intro q hq
      obtain ⟨o, ho, rfl⟩ := List.mem_map.mp hq
      split <;> exact none o ho
    · exact {}
    · exact starveAfter_congr (s := s) h
    · exact ⟨rfl, rfl, (consumed_kept _ _).1.trans (regCoast_kept s).1, (consumed_kept _ _).2.1.trans (regCoast_kept s).2.1,
        (consumed_kept _ _).2.2.1.trans (regCoast_kept s).2.2.1, rfl, rfl, told, rfl, rfl, rfl, rfl, rfl⟩
  · rw [exec_m1WindowExpiry h due, expireM1_of_candidate expect window bar low high]
    refine congrArg Host.Outcome.next (Calm.finish_still ?_ h ?_ ?_)
    · exact {}
    · exact starveAfter_congr (s := s) h
    · exact h.attn.congr rfl rfl rfl rfl rfl rfl
  · rw [exec_m2WindowExpiry h due, expireM2_of_candidate expect window bar low high]
    refine congrArg Host.Outcome.next (Calm.finish_still ?_ h ?_ ?_)
    · exact {}
    · exact starveAfter_congr (s := s) h
    · exact h.attn.congr rfl rfl rfl rfl rfl rfl

end Sys2Proof.Machine
end

section
/-!
Matches and coasts (R74 to R81), and a valid bar at M2 (R71, R73, R92).
-/
namespace Sys2Proof.Machine

/-! ### A match (R75 to R80) -/

/-- What a match learns, judges and tracks, one after the other. -/
theorem regMatch_eq {s : State} (mode : s.reg.mode ≠ .seek) (a b bHat : Int) : regMatch s a b bHat =
    trackMatch (s.work .trackIn) (s.work .trackOut) (b - bHat) (judgeMatch (s.work .lockIn) (s.work .lockOut) (s.workNat .nLock) (b - bHat)
      (learn (s.work .spanMin) (s.work .sMax) a b { reg := { s.reg with coastCount := 0 } })) := if_neg mode

/-- Learning moves the stretch and the anchor alone, over a span of SPAN_MIN or more (R75, R76). -/
theorem learn_reg {x : RegStep} {ak bk : Int} (anchor : x.reg.anchor = some (ak, bk)) (spanMin sMax a b : Int) : (learn spanMin sMax a b x).reg =
    if 0 < a - ak ∧ spanMin ≤ a - ak then { x.reg with
      s := clampInt (-sMax) sMax (x.reg.s + roundDiv (measuredStretch b bk (a - ak) - x.reg.s) x.reg.mode.gain), anchor := some (a, b) } else x.reg := by
  unfold learn
  rw [anchor]
  dsimp only
  split <;> rfl

theorem judgeMatch_kept (lockIn lockOut : Int) (nLock : Nat) (e : Int) (x : RegStep) :
    (judgeMatch lockIn lockOut nLock e x).reg = { x.reg with
      register := (judgeMatch lockIn lockOut nLock e x).reg.register, lockCount := (judgeMatch lockIn lockOut nLock e x).reg.lockCount }
    ∧ (judgeMatch lockIn lockOut nLock e x).clamped = x.clamped := by
  unfold judgeMatch takeOut
  repeat' split
  all_goals exact ⟨rfl, rfl⟩

theorem changeMode_kept (m : Mode) (c : ModeCause) (x : RegStep) :
    (changeMode m c x).reg = { x.reg with
      mode := m, register := (changeMode m c x).reg.register, lockCount := (changeMode m c x).reg.lockCount }
    ∧ (changeMode m c x).clamped = x.clamped := by
  unfold changeMode takeOut
  by_cases same : x.reg.mode = m
  · subst same; rw [if_pos rfl]; exact ⟨rfl, rfl⟩
  · rw [if_neg same]
    dsimp only
    repeat' split
    all_goals exact ⟨rfl, rfl⟩

theorem trackMatch_kept (trackIn trackOut e : Int) (x : RegStep) :
    (trackMatch trackIn trackOut e x).reg = { x.reg with
      mode := (trackMatch trackIn trackOut e x).reg.mode
      register := (trackMatch trackIn trackOut e x).reg.register, lockCount := (trackMatch trackIn trackOut e x).reg.lockCount }
    ∧ (trackMatch trackIn trackOut e x).clamped = x.clamped := by
  have change (m : Mode) (c : ModeCause) : (changeMode m c x).reg = { x.reg with
      mode := (changeMode m c x).reg.mode, register := (changeMode m c x).reg.register, lockCount := (changeMode m c x).reg.lockCount } := by
    rw [(changeMode_kept m c x).1]
  unfold trackMatch
  repeat' split
  · exact ⟨change _ _, (changeMode_kept _ _ _).2⟩
  · exact ⟨change _ _, (changeMode_kept _ _ _).2⟩
  all_goals exact ⟨rfl, rfl⟩

/-- Leaving FOLLOW in AUTO (R81). -/
theorem changeMode_of_follow {x : RegStep} (mode : x.reg.mode = .follow) (auto : x.reg.lock = .auto) {m : Mode} (other : m ≠ .follow) (c : ModeCause) :
    (changeMode m c x).reg = { x.reg with mode := m, register := .outOfRegister, lockCount := 0 } := by
  unfold changeMode takeOut
  simp [mode, auto, other.symm]

/-- A change of mode that does not leave FOLLOW in AUTO (R81). -/
theorem changeMode_quiet {x : RegStep} (quiet : x.reg.mode ≠ .follow ∨ x.reg.lock ≠ .auto) (m : Mode) (c : ModeCause) :
    (changeMode m c x).reg = { x.reg with mode := m } := by
  unfold changeMode takeOut
  by_cases same : x.reg.mode = m
  · subst same; rw [if_pos rfl]
  · rw [if_neg same]
    rcases quiet with quiet | quiet
    · simp [quiet]
    · simp [quiet]

/-- The judge of a match speaks in AUTO and FOLLOW alone (R80). -/
theorem judgeMatch_of_other {x : RegStep} (other : x.reg.lock ≠ .auto ∨ x.reg.mode ≠ .follow) (lockIn lockOut : Int) (nLock : Nat) (e : Int) :
    judgeMatch lockIn lockOut nLock e x = x := if_neg fun h => other.elim (fun o => o h.1) (fun o => o h.2)

theorem judgeMatch_follow {x : RegStep} (auto : x.reg.lock = .auto) (mode : x.reg.mode = .follow) (lockIn lockOut : Int) (nLock : Nat) (e : Int) :
    (judgeMatch lockIn lockOut nLock e x).reg =
      if e.natAbs ≤ lockIn then { x.reg with
        lockCount := min (x.reg.lockCount + 1) nLock, register := if nLock ≤ x.reg.lockCount + 1 then .inRegister else x.reg.register }
      else { x.reg with
        lockCount := 0, register := if x.reg.register = .inRegister ∧ lockOut < e.natAbs then .outOfRegister else x.reg.register } := by
  unfold judgeMatch
  rw [if_pos ⟨auto, mode⟩]
  by_cases within : e.natAbs ≤ lockIn
  · rw [if_pos within, if_pos within]
    dsimp only
    have reached : nLock ≤ min (x.reg.lockCount + 1) nLock ↔ nLock ≤ x.reg.lockCount + 1 := by omega
    by_cases locked : x.reg.register = .inRegister
    · simp [locked]
    · by_cases now : nLock ≤ x.reg.lockCount + 1 <;> simp [locked, reached, now]
  · rw [if_neg within, if_neg within]
    by_cases lost : x.reg.register = .inRegister ∧ lockOut < e.natAbs
    · rw [if_pos lost, if_pos lost]
      unfold takeOut; rw [if_pos auto]
    · rw [if_neg lost, if_neg lost]

/-- What a match leaves of the unit, however it is learnt, judged and tracked. -/
theorem regMatch_kept {s : State} (mode : s.reg.mode ≠ .seek) (a b bHat : Int) :
    let y := learn (s.work .spanMin) (s.work .sMax) a b { reg := { s.reg with coastCount := 0 } }
    (regMatch s a b bHat).reg = { y.reg with
      mode := (regMatch s a b bHat).reg.mode
      register := (regMatch s a b bHat).reg.register, lockCount := (regMatch s a b bHat).reg.lockCount }
    ∧ (regMatch s a b bHat).clamped = y.clamped := by
  dsimp only
  rw [regMatch_eq mode]
  generalize learn _ _ a b _ = y
  obtain ⟨judged, clamped⟩ := judgeMatch_kept (s.work .lockIn) (s.work .lockOut) (s.workNat .nLock) (b - bHat) y
  generalize judgeMatch _ _ _ _ y = z at judged clamped
  obtain ⟨tracked, clamped'⟩ := trackMatch_kept (s.work .trackIn) (s.work .trackOut) (b - bHat) z
  refine ⟨?_, clamped'.trans clamped⟩
  rw [tracked, judged]

/-- Tracking in AUTO (R77). -/
theorem trackMatch_capture {x : RegStep} (auto : x.reg.lock = .auto) (mode : x.reg.mode = .capture) (trackIn trackOut e : Int) :
    (trackMatch trackIn trackOut e x).reg = { x.reg with mode := if e.natAbs ≤ trackIn then .follow else .capture } := by
  unfold trackMatch
  rw [if_pos auto]
  by_cases near : e.natAbs ≤ trackIn
  · rw [if_pos ⟨mode, near⟩, if_pos near]
    exact changeMode_quiet (.inl (by rw [mode]; exact nofun)) _ _
  · rw [if_neg fun h => near h.2, if_neg (by rw [mode]; exact fun h => nomatch h.1), if_neg near, ← mode]

theorem trackMatch_follow {x : RegStep} (auto : x.reg.lock = .auto) (mode : x.reg.mode = .follow) (trackIn trackOut e : Int) :
    (trackMatch trackIn trackOut e x).reg = if trackOut < e.natAbs then { x.reg with mode := .capture, register := .outOfRegister, lockCount := 0 } else x.reg := by
  unfold trackMatch
  rw [if_pos auto, if_neg (by rw [mode]; exact fun h => nomatch h.1)]
  by_cases far : trackOut < e.natAbs
  · rw [if_pos ⟨mode, far⟩, if_pos far]
    exact changeMode_of_follow mode auto (m := .capture) nofun _
  · rw [if_neg fun h => far h.2, if_neg far]

theorem trackMatch_manual {x : RegStep} (manual : x.reg.lock ≠ .auto) (trackIn trackOut e : Int) : trackMatch trackIn trackOut e x = x := if_neg manual

/-! ### A coast (R78, R81) -/

theorem takeOut_reg (c : RegCause) (x : RegStep) : (takeOut c x).reg = if x.reg.lock = .auto then { x.reg with register := .outOfRegister, lockCount := 0 } else x.reg := by
  unfold takeOut; split <;> rfl

theorem regCoast_cases (s : State) : let x := takeOut .coast { reg := { s.reg with coastCount := min (s.reg.coastCount + 1) 15 } }
    regCoast s = x ∧ ¬ (s.workNat .nSeek ≤ min (s.reg.coastCount + 1) 15 ∧ s.reg.mode ≠ .seek)
        ∧ ¬ (s.reg.lock = .auto ∧ s.workNat .nCoast ≤ min (s.reg.coastCount + 1) 15 ∧ s.reg.mode = .follow)
      ∨ regCoast s = changeMode .seek .seekCoasts x ∧ s.workNat .nSeek ≤ min (s.reg.coastCount + 1) 15 ∧ s.reg.mode ≠ .seek
      ∨ regCoast s = changeMode .capture .coasts x ∧ ¬ (s.workNat .nSeek ≤ min (s.reg.coastCount + 1) 15 ∧ s.reg.mode ≠ .seek)
        ∧ s.reg.lock = .auto ∧ s.workNat .nCoast ≤ min (s.reg.coastCount + 1) 15 ∧ s.reg.mode = .follow := by
  have mode : (takeOut .coast { reg := { s.reg with coastCount := min (s.reg.coastCount + 1) 15 } }).reg.mode = s.reg.mode := by rw [takeOut_reg]; split <;> rfl
  have lock : (takeOut .coast { reg := { s.reg with coastCount := min (s.reg.coastCount + 1) 15 } }).reg.lock = s.reg.lock := by rw [takeOut_reg]; split <;> rfl
  unfold regCoast
  dsimp only
  rw [mode, lock]
  split
  · rename_i seek; exact .inr (.inl ⟨rfl, seek⟩)
  · rename_i stays
    split
    · rename_i drop; exact .inr (.inr ⟨rfl, stays, drop⟩)
    · rename_i keeps; exact .inl ⟨rfl, stays, keeps⟩

/-- The mode and the verdict after a coast (R78, R81). -/
theorem regCoast_moves (s : State) :
    (regCoast s).reg.mode = (if s.workNat .nSeek ≤ min (s.reg.coastCount + 1) 15 then .seek
      else if s.reg.lock = .auto ∧ s.workNat .nCoast ≤ min (s.reg.coastCount + 1) 15 ∧ s.reg.mode = .follow then .capture else s.reg.mode)
    ∧ (s.reg.lock = .auto → (regCoast s).reg.register = .outOfRegister ∧ (regCoast s).reg.lockCount = 0)
    ∧ (s.reg.lock = .manual → (regCoast s).reg.register = s.reg.register ∧ (regCoast s).reg.lockCount = s.reg.lockCount) := by
  have step := takeOut_reg .coast { reg := { s.reg with coastCount := min (s.reg.coastCount + 1) 15 } }
  have cases := regCoast_cases s
  generalize takeOut .coast _ = x at step cases
  have out (auto : s.reg.lock = .auto) : x.reg.register = .outOfRegister ∧ x.reg.lockCount = 0 := by rw [step, if_pos auto]; exact ⟨rfl, rfl⟩
  have kept (manual : s.reg.lock = .manual) : x.reg = { s.reg with coastCount := min (s.reg.coastCount + 1) 15 } := by
    rw [step, if_neg (by rw [manual]; exact nofun)]
  have changed (m : Mode) (c : ModeCause) : (s.reg.lock = .auto → (changeMode m c x).reg.register = .outOfRegister ∧ (changeMode m c x).reg.lockCount = 0)
      ∧ (s.reg.lock = .manual → (changeMode m c x).reg.register = s.reg.register ∧ (changeMode m c x).reg.lockCount = s.reg.lockCount) := by
    refine ⟨fun auto => ?_, fun manual => ?_⟩
    · obtain ⟨register, count⟩ := out auto
      unfold changeMode
      dsimp only
      split
      · exact ⟨register, count⟩
      · split
        · rw [takeOut_reg]; split
          · exact ⟨rfl, rfl⟩
          · exact ⟨register, count⟩
        · exact ⟨register, count⟩
    · rw [changeMode_quiet (.inr (by rw [kept manual]; show s.reg.lock ≠ _; rw [manual]; exact nofun)), kept manual]
      exact ⟨rfl, rfl⟩
  have mode : x.reg.mode = s.reg.mode := by rw [step]; split <;> rfl
  dsimp only at cases
  rcases cases with ⟨same, stays, keeps⟩ | ⟨same, seek, other⟩ | ⟨same, stays, drop⟩ <;> rw [same]
  · refine ⟨?_, out, fun manual => by rw [kept manual]; exact ⟨rfl, rfl⟩⟩
    rw [mode, if_neg keeps]
    split
    · rename_i n
      exact Classical.not_not.mp fun h => stays ⟨n, h⟩
    · rfl
  · refine ⟨?_, changed _ _⟩
    rw [if_pos seek, (changeMode_kept _ _ _).1]
  · refine ⟨?_, changed _ _⟩
    have few : ¬ s.workNat .nSeek ≤ min (s.reg.coastCount + 1) 15 := fun n => stays ⟨n, by rw [drop.2.2]; exact nofun⟩
    rw [if_neg few, if_pos drop, (changeMode_kept _ _ _).1]

/-! ### A stretch clamped by a match (R76) -/

theorem regMatch_clamped_none {s : State} (anchor : s.reg.anchor = none) (a b bHat : Int) : (regMatch s a b bHat).clamped = none := by
  by_cases mode : s.reg.mode = .seek
  · refine (congrArg RegStep.clamped (if_pos mode)).trans ?_
    exact (changeMode_kept _ _ _).2
  · rw [(regMatch_kept mode a b bHat).2]
    unfold learn; dsimp only; rw [anchor]

theorem regMatch_clamped_some {s : State} {ak bk : Int} (anchor : s.reg.anchor = some (ak, bk)) (a b bHat : Int) :
    let new := s.reg.s + roundDiv (roundDiv ((b - bk - (a - ak)) * 1000000) (a - ak).toNat - s.reg.s) (if s.reg.mode = .follow then 8 else 2)
    (regMatch s a b bHat).clamped.isSome =
      decide (s.reg.mode ≠ .seek ∧ 0 < a - ak ∧ s.work .spanMin ≤ a - ak ∧ clampInt (-(s.work .sMax)) (s.work .sMax) new ≠ new) := by
  dsimp only
  by_cases mode : s.reg.mode = .seek
  · have none : (regMatch s a b bHat).clamped = none := (congrArg RegStep.clamped (if_pos mode)).trans (changeMode_kept _ _ _).2
    rw [none]; simp [mode]
  · rw [(regMatch_kept mode a b bHat).2]
    have gain : s.reg.mode.gain = if s.reg.mode = .follow then 8 else 2 := by cases s.reg.mode <;> rfl
    rw [← gain]
    unfold learn; dsimp only; rw [anchor]
    dsimp only
    by_cases span : 0 < a - ak ∧ s.work .spanMin ≤ a - ak
    · rw [if_pos span]
      unfold measuredStretch
      dsimp only
      generalize s.reg.s + roundDiv _ _ = new
      by_cases held : clampInt (-(s.work .sMax)) (s.work .sMax) new = new
      · rw [if_pos held]; simp [held]
      · rw [if_neg held]; exact (decide_eq_true ⟨mode, span.1, span.2, held⟩).symm
    · rw [if_neg span]
      refine (decide_eq_false fun h => span ⟨h.2.1, h.2.2.1⟩).symm

theorem regMatch_lock (s : State) (a b bHat : Int) : (regMatch s a b bHat).reg.lock = s.reg.lock := by
  by_cases mode : s.reg.mode = .seek
  · refine (congrArg (fun x : RegStep => x.reg.lock) (if_pos mode)).trans ?_
    unfold seekMatch
    rw [(changeMode_kept _ _ _).1]
  · rw [(regMatch_kept mode a b bHat).1]
    unfold learn
    dsimp only
    repeat' split
    all_goals rfl

/-! ### Tails at M2 (R92) -/

/-- A tail matched at M2, as it is handed to the planner. -/
theorem resolveM2_tail_match {s : State} {r : PanelRef} {w : Window2} {p : Panel} (expect : s.cursor2.expect = some ⟨r, .tail, some w⟩)
    (panel : s.panel? r = some p) (only : ∀ q ∈ s.panels, q.serial = r.serial → q = p) (b : Int) : resolveM2 false b s =
      queueEvents (events2 r .tail false s.reg (s.resolution false b w))
        (planTailM2 r (setPanel r { p with bTail := some ⟨b, false⟩ } (recorded2 false b r .tail w s))) := by
  rw [resolveM2_of_panel expect panel, updPanel_of_only (s := recorded2 false b r .tail w s) only]
  rfl

section
variable {s : State} {r : PanelRef} {p q : Panel} {h b : Coord} {l : Length2}

theorem planTailM2_of_far (panel : s.panel? r = some p) (serial : q.serial = r.serial) (head : q.bHead = some h) (tail : q.bTail = some b) (seen : b.coasted = false)
    (length : q.l2 = some l) (runs : q.state ≠ .done) (far : s.work .tailTol < ((b.pos - h.pos) - l.len).natAbs) : planTailM2 r (setPanel r q s) =
      setPanel r { q with flags := addFlag true .scaleFault q.flags, scaleRejecting := q.scaleRejecting || decide (s.reg.lock = .auto) } s := by
  have beyond : ¬ (((b.pos - h.pos) - l.len).natAbs : Int) ≤ s.work .tailTol := Int.not_le.mpr far
  have raised : q.raiseScale s.reg.lock = { q with
      flags := addFlag true .scaleFault q.flags, scaleRejecting := q.scaleRejecting || decide (s.reg.lock = .auto) } := by
    unfold Panel.raiseScale addFlag
    rw [if_neg runs, raise_eq]
    simp [runs]
  unfold planTailM2
  rw [panel?_setPanel panel serial]
  dsimp only
  rw [head, tail, length]
  dsimp only
  rw [seen, if_neg Bool.false_ne_true]
  refine (if_neg beyond).trans ?_
  rw [updPanel_setPanel serial]
  show setPanel r (q.raiseScale s.reg.lock) s = _
  rw [raised, head, tail, length]

theorem planTailM2_of_near (panel : s.panel? r = some p) (serial : q.serial = r.serial) (head : q.bHead = some h) (tail : q.bTail = some b) (seen : b.coasted = false)
    (length : q.l2 = some l) (waits : q.state = .atOutfeed) (near : ((b.pos - h.pos) - l.len).natAbs ≤ s.work .tailTol) : planTailM2 r (setPanel r q s) =
      setPanel r { q with
        l2 := some ⟨b.pos - h.pos, .m2⟩
        triggers := some (q.cuts.map (triggerOf h.pos (b.pos - h.pos) q.lNom (s.work .dMk))) } s := by
  have found := panel?_setPanel panel serial
  have news : State.triggersOf (setPanel r { q with l2 := some ⟨b.pos - h.pos, .m2⟩ } s) { q with l2 := some ⟨b.pos - h.pos, .m2⟩ }
      = some (q.cuts.map (triggerOf h.pos (b.pos - h.pos) q.lNom (s.work .dMk))) := by
    unfold State.triggersOf; dsimp only; rw [head]; rfl
  have act : planTailM2 r (setPanel r q s) = refresh r ⟨b.pos - h.pos, .m2⟩ (setPanel r q s) := by
    unfold planTailM2
    rw [found]
    dsimp only
    rw [head, tail, length]
    dsimp only
    rw [seen, if_neg Bool.false_ne_true]
    exact if_pos near
  rw [act]
  unfold refresh
  rw [found]
  dsimp only
  rw [if_neg (by rw [waits]; exact nofun), updPanel_setPanel serial, news]
  dsimp only
  unfold applyTriggers
  rw [if_pos waits, updPanel_setPanel (by exact serial)]

end

/-! ### A valid bar at M2 -/

/-- The light after a bar at M2: the state that its report finds (R47). -/
def lightened2 (s : State) : State :=
  { s with
    inputs := { s.inputs with dark2 := false }
    sensor2 := { s.sensor2 with bar := .none, threshold := s.work .threshM2 }
    watches := { s.watches with bar2 := none } }

theorem exec_validBar2 {s : State} (h : Settled s) {l : Int} (dark : s.inputs.dark2 = true) (bar : s.sensor2.bar = .counting l false)
    (long : s.work .markMin ≤ s.p2 - l) (short : s.p2 - l ≤ s.work .markMax) :
    exec (.barTrailingEdge .m2) s = .next (finish s (reportM2 l false (lightened2 s))) := by
  refine (exec_barTrailingEdge h .m2 dark).trans (congrArg (fun x => Host.Outcome.next (finish s x)) ?_)
  exact trailingEdge_of_valid (sn := .m2) (s := { s with inputs := setDark .m2 false s.inputs }) bar ⟨long, short⟩

theorem reportM2_of_window {s : State} {e : Expect2} {w : Window2} {l : Int} (window : s.cursor2.state = .window) (expect : s.cursor2.expect = some e)
    (open' : e.window = some w) (low : w.lower ≤ l) (high : l ≤ w.upper) : reportM2 l false s = settleM2 false l s := by
  unfold reportM2; rw [window, expect, Option.bind_some, open']
  exact if_pos ⟨rfl, low, high⟩

/-- What a match out of SEEK leaves of the unit (R75 to R77, R80). -/
theorem regMatch_moves {s : State} {a ak bk : Int} (mode : s.reg.mode ≠ .seek) (anchor : s.reg.anchor = some (ak, bk)) (b bHat : Int) :
    let d := a - ak
    let e : Int := (b - bHat).natAbs
    let x := (regMatch s a b bHat).reg
    let meas := roundDiv ((b - bk - d) * 1000000) d.toNat
    let new := s.reg.s + roundDiv (meas - s.reg.s) (if s.reg.mode = .follow then 8 else 2)
    x.coastCount = 0 ∧ x.lock = s.reg.lock ∧ x.choice = s.reg.choice ∧ x.points = s.reg.points
    ∧ (d ≤ 0 ∨ d < s.work .spanMin → x.s = s.reg.s ∧ x.anchor = s.reg.anchor)
    ∧ (0 < d → s.work .spanMin ≤ d → x.s = clampInt (-(s.work .sMax)) (s.work .sMax) new ∧ x.anchor = some (a, b))
    ∧ (s.reg.lock = .manual → x.mode = s.reg.mode ∧ x.register = s.reg.register ∧ x.lockCount = s.reg.lockCount)
    ∧ (s.reg.lock = .auto → s.reg.mode = .capture →
        x.mode = (if e ≤ s.work .trackIn then .follow else .capture) ∧ x.register = s.reg.register
        ∧ x.lockCount = s.reg.lockCount)
    ∧ (s.reg.lock = .auto → s.reg.mode = .follow →
        (s.work .trackOut < e → x.mode = .capture ∧ x.register = .outOfRegister ∧ x.lockCount = 0)
        ∧ (e ≤ s.work .trackOut → x.mode = .follow
          ∧ (e ≤ s.work .lockIn → x.lockCount = min (s.reg.lockCount + 1) (s.workNat .nLock)
              ∧ x.register = (if s.workNat .nLock ≤ s.reg.lockCount + 1 then .inRegister else s.reg.register))
          ∧ (s.work .lockIn < e → x.lockCount = 0
              ∧ x.register = (if s.reg.register = .inRegister ∧ s.work .lockOut < e then .outOfRegister else s.reg.register)))) := by
  obtain ⟨all, _⟩ := regMatch_kept mode a b bHat
  have learnt := learn_reg (x := { reg := { s.reg with coastCount := 0 } }) anchor (s.work .spanMin) (s.work .sMax) a b
  have parts := regMatch_eq mode a b bHat
  have gain : s.reg.mode.gain = if s.reg.mode = .follow then 8 else 2 := by cases s.reg.mode <;> rfl
  dsimp only at all learnt ⊢
  rw [gain] at learnt
  generalize learn _ _ a b _ = y at all learnt parts
  have kept : y.reg.coastCount = 0 ∧ y.reg.lock = s.reg.lock ∧ y.reg.choice = s.reg.choice ∧ y.reg.points = s.reg.points
      ∧ y.reg.mode = s.reg.mode ∧ y.reg.register = s.reg.register ∧ y.reg.lockCount = s.reg.lockCount := by
    rw [learnt]; split <;> exact ⟨rfl, rfl, rfl, rfl, rfl, rfl, rfl⟩
  obtain ⟨count, lock, choice, points, ymode, register, lockCount⟩ := kept
  refine ⟨?_, ?_, ?_, ?_, fun short => ?_, fun pos long => ?_, fun manual => ?_, fun auto capture => ?_, fun auto follow => ?_⟩
  · rw [all]; exact count
  · rw [all]; exact lock
  · rw [all]; exact choice
  · rw [all]; exact points
  · rw [all, learnt, if_neg (by omega)]; exact ⟨rfl, rfl⟩
  · rw [all, learnt, if_pos ⟨pos, long⟩]; exact ⟨rfl, rfl⟩
  · have off : y.reg.lock ≠ .auto := by rw [lock, manual]; exact nofun
    rw [parts, judgeMatch_of_other (.inl off), trackMatch_manual off]
    exact ⟨ymode, register, lockCount⟩
  · rw [parts, judgeMatch_of_other (.inr (by rw [ymode, capture]; exact nofun)), trackMatch_capture (lock.trans auto) (ymode.trans capture)]
    exact ⟨rfl, register, lockCount⟩
  · have judged := judgeMatch_follow (lock.trans auto) (ymode.trans follow) (s.work .lockIn) (s.work .lockOut) (s.workNat .nLock) (b - bHat)
    obtain ⟨frame, _⟩ := judgeMatch_kept (s.work .lockIn) (s.work .lockOut) (s.workNat .nLock) (b - bHat) y
    rw [parts]
    generalize judgeMatch _ _ _ _ y = z at judged frame
    rw [trackMatch_follow (by rw [frame]; exact lock.trans auto) (by rw [frame]; exact ymode.trans follow)]
    refine ⟨fun far => ?_, fun near => ?_⟩
    · rw [if_pos far]; exact ⟨rfl, rfl, rfl⟩
    · rw [if_neg (Int.not_lt.mpr near)]
      refine ⟨by rw [frame]; exact ymode.trans follow, fun within => ?_, fun beyond => ?_⟩
      · rw [judged, if_pos within]
        rw [lockCount, register]; exact ⟨rfl, rfl⟩
      · rw [judged, if_neg (Int.not_le.mpr beyond)]
        rw [register]; exact ⟨rfl, rfl⟩

/-- The unit after a bar at M2 that resolves a mark: the panel, the cursor and the registration; and what a valid bar leaves. -/
def matched2 (r : PanelRef) (q : Panel) (c : Cursor2) (reg : RegBlock) (l : Link) (s : State) : State :=
  { s with
    inputs := { s.inputs with dark2 := false }
    sensor2 := { s.sensor2 with bar := .none, threshold := s.work .threshM2 }
    watches := { s.watches with bar2 := none, m2Window := none }
    panels := s.panels.map fun o => if o.serial = r.serial then q else o
    cursor2 := c
    reg := reg
    link := l }

theorem finish_matched2 {s : State} (h : Settled s) (r : PanelRef) (q : Panel) (c : Cursor2) (reg : RegBlock) (l : Link) :
    finish s (matched2 r q c reg l s) = attnUpdate (matched2 r q c reg l s) := by
  unfold matched2
  refine Calm.finish_told ?_ h ?_
  · exact {}
  · exact starveAfter_congr (s := s) h

theorem none_infeed {ps : List Panel} (none : ∀ q ∈ ps, q.state ≠ .infeed) {r : PanelRef} {q p : Panel} (held : p ∈ ps) (state : q.state = p.state) :
    ∀ o ∈ ps.map (fun o => if o.serial = r.serial then q else o), o.state ≠ .infeed := by
  intro o ho
  obtain ⟨x, hx, rfl⟩ := List.mem_map.mp ho
  split
  · rw [state]; exact none p held
  · exact none x hx

/-- The unit's step at a match (R75, R83). -/
theorem resolution_match (s : State) (l : Int) (w : Window2) : (s.resolution false l w).reg = consumed w.a (regMatch s w.a l w.predicted).reg
    ∧ (s.resolution false l w).clamped = (regMatch s w.a l w.predicted).clamped := ⟨consumePoints_reg _ _, consumePoints_clamped _ _⟩

theorem recorded_match {s : State} {l : Int} {r : PanelRef} {m : Mark} {w : Window2} : recorded2 false l r m w (lightened2 s) =
    { lightened2 s with
      reg := consumed w.a (regMatch s w.a l w.predicted).reg
      cursor2 := { state := .idle, expect := none, lastHead := if m = .head then some r else none, deciding := false }
      watches := { (lightened2 s).watches with m2Window := none } } := by
  have same : regMatch (lightened2 s) w.a l w.predicted = regMatch s w.a l w.predicted := rfl
  unfold recorded2
  rw [(resolution_match (lightened2 s) l w).1, same]

section
variable {s : State} {r : PanelRef} {w : Window2} {p : Panel} {l : Int}

/-- A head matched at M2: the cursor awaits the panel's tail (R68, R73, R88). -/
theorem settle_match_head2 (expect : s.cursor2.expect = some ⟨r, .head, some w⟩) (panel : s.panel? r = some p)
    (only : ∀ q ∈ s.panels, q.serial = r.serial → q = p) (infeed : p.state = .infeed) (tail1 : p.aTail = none) (tail2 : p.bTail = none)
    (runs : p.completion = none) (wait : ∀ q ∈ s.panels, q.state = .atOutfeed ∨ q.serial = p.serial → 32 < q.cuts.length + s.planner.queue.length) :
    let reg := consumed w.a (regMatch s w.a l w.predicted).reg
    let len := p.lNom + roundDiv (p.lNom * reg.s) 1000000
    ∃ k, settleM2 false l (lightened2 s) = matched2 r
      { p with
        bHead := some ⟨l, false⟩, state := .atOutfeed, l2 := some ⟨len, .nominal⟩
        triggers := some (p.cuts.map (fun x => l + roundDiv (x * len) p.lNom.toNat + s.work .dMk))
        flags := addFlag (regMatch s w.a l w.predicted).clamped.isSome .stretchLimit
          (addFlag (decide (reg.lock = .auto ∧ reg.register = .outOfRegister)) .unlocked p.flags) }
      { state := .await, expect := some ⟨r, .tail, none⟩, lastHead := some r } reg k s := by
  have serial : p.serial = r.serial := by simpa using List.find?_some panel
  have resolve := resolveM2_head (s := lightened2 s) expect panel only infeed wait false l
  obtain ⟨stepReg, stepClamped⟩ := resolution_match (lightened2 s) l w
  have same : regMatch (lightened2 s) w.a l w.predicted = regMatch s w.a l w.predicted := rfl
  have basis : headLength (consumed w.a (regMatch s w.a l w.predicted).reg).s p
      = ⟨scaleLength p.lNom (consumed w.a (regMatch s w.a l w.predicted).reg).s, .nominal⟩ := by
    unfold headLength; rw [tail1]; cases p.aHead <;> rfl
  dsimp only at resolve
  rw [stepReg, stepClamped, same, basis, recorded_match] at resolve
  have unaborted : p.completion ≠ some .aborted := by rw [runs]; exact nofun
  refine ⟨(queueEvents (events2 r .head false s.reg ((lightened2 s).resolution false l w)) s).link,
    (congrArg (takeUp2 markBound) (resolve.trans (queueEvents_of_link _ (s := s) ?_))).trans ((takeUp2_await (r := r) (m := .tail) ?_).trans ?_)⟩
  · rfl
  · refine next2_of_set (q := ?q) ?panels ?_ panel ?_ ?_ ?_ ?_
    case panels => rfl
    · rfl
    · exact serial
    · exact tail2
    · exact unaborted
    · exact congrArg (Option.map (·.pos)) tail1
  · rfl

/-- A tail matched at M2, which the planner answers with the panel `q` (R73, R92). -/
theorem settle_match_tail2 (expect : s.cursor2.expect = some ⟨r, .tail, some w⟩) (panel : s.panel? r = some p)
    (only : ∀ q ∈ s.panels, q.serial = r.serial → q = p) (none : ∀ q ∈ s.panels, q.state ≠ .infeed) {q : Panel} (state : q.state = p.state)
    (plan : planTailM2 r (setPanel r { p with bTail := some ⟨l, false⟩ } (recorded2 false l r .tail w (lightened2 s)))
      = setPanel r q (recorded2 false l r .tail w (lightened2 s))) :
    ∃ k, settleM2 false l (lightened2 s) = matched2 r q { state := .idle, expect := Option.none, lastHead := Option.none }
      (consumed w.a (regMatch s w.a l w.predicted).reg) k s := by
  have resolve := (resolveM2_tail_match (s := lightened2 s) expect panel only l).trans (congrArg _ plan)
  rw [recorded_match] at resolve
  refine ⟨(queueEvents (events2 r .tail false s.reg ((lightened2 s).resolution false l w)) s).link,
    (congrArg (takeUp2 markBound) (resolve.trans (queueEvents_of_link _ (s := s) ?_))).trans ((takeUp2_idle (next2_of_none ?_ ?_)).trans ?_)⟩
  · rfl
  · rfl
  · exact none_infeed none (List.mem_of_find?_eq_some panel) state
  · rfl

end

/-- A valid bar at M2 that resolves the mark in the window leaves the unit as the match left it. -/
theorem exec_match2 {s : State} (h : Settled s) {e : Expect2} {w : Window2} {l : Int} (dark : s.inputs.dark2 = true) (bar : s.sensor2.bar = .counting l false)
    (long : s.work .markMin ≤ s.p2 - l) (short : s.p2 - l ≤ s.work .markMax) (window : s.cursor2.state = .window)
    (expect : s.cursor2.expect = some e) (open' : e.window = some w) (low : w.lower ≤ l) (high : l ≤ w.upper)
    {r : PanelRef} {q : Panel} {c : Cursor2} {reg : RegBlock} {k : Link} (settle : settleM2 false l (lightened2 s) = matched2 r q c reg k s) :
    exec (.barTrailingEdge .m2) s = .next (attnUpdate (matched2 r q c reg k s)) := by
  refine (exec_validBar2 h dark bar long short).trans (congrArg Host.Outcome.next ?_)
  rw [reportM2_of_window (s := lightened2 s) window expect open' low high, settle, finish_matched2 h]

/-- Settles O52. -/
theorem matchesAndCoasts : Obligations.MatchesAndCoasts := by
  refine ⟨fun s a b bHat ak bk mode anchor => ?_, fun s => ?_, fun s l r m w p h dark bar long short state expect low high panel only => ?_⟩
  · exact regMatch_moves mode anchor b bHat
  · obtain ⟨anchor, stretch, count, points, lock, choice, _⟩ := regCoast_kept s
    obtain ⟨mode, auto, manual⟩ := regCoast_moves s
    exact ⟨anchor, stretch, count, points, lock, choice, mode, auto, manual⟩
  · have serial : p.serial = r.serial := by simpa using List.find?_some panel
    have act := @exec_match2 s h _ w l dark bar long short state expect rfl low high
    dsimp only
    refine ⟨fun head infeed tail1 tail2 runs wait => ?_, fun k l2 tail first length runs none => ⟨fun far => ?_, fun near waits => ?_⟩⟩
    · subst head
      obtain ⟨k, settle⟩ := settle_match_head2 (l := l) expect panel only infeed tail1 tail2 runs wait
      refine ⟨_, act settle, ?_, rfl, rfl, rfl, rfl, rfl, rfl, rfl, rfl, rfl, rfl, rfl, rfl, rfl, rfl, rfl⟩
      cases anchor : s.reg.anchor with
      | none => rw [regMatch_clamped_none anchor]; exact map_named serial _ _
      | some k => rw [regMatch_clamped_some (ak := k.1) (bk := k.2) anchor]; exact map_named serial _ _
    · subst tail
      have lock : (recorded2 false l r .tail w (lightened2 s)).reg.lock = s.reg.lock :=
        (congrArg (·.lock) (resolution_match (lightened2 s) l w).1).trans ((consumed_kept _ _).2.2.2.1.trans (regMatch_lock _ _ _ _))
      have plan := planTailM2_of_far (s := recorded2 false l r .tail w (lightened2 s)) (q := { p with bTail := some ⟨l, false⟩ })
        panel serial first rfl rfl length runs far
      rw [lock] at plan
      obtain ⟨k, settle⟩ := settle_match_tail2 expect panel only none (by exact rfl) plan
      exact ⟨_, act settle, map_named serial _ _, rfl, rfl, rfl, rfl, rfl, rfl, rfl, rfl, rfl, rfl, rfl, rfl, rfl, rfl, rfl⟩
    · subst tail
      obtain ⟨k, settle⟩ := settle_match_tail2 expect panel only none (by exact rfl) (planTailM2_of_near (s := recorded2 false l r .tail w (lightened2 s))
        (q := { p with bTail := some ⟨l, false⟩ }) panel serial first rfl rfl length waits near)
      exact ⟨_, act settle, map_named serial _ _, rfl, rfl, rfl, rfl, rfl, rfl, rfl, rfl, rfl, rfl, rfl, rfl, rfl, rfl, rfl⟩

end Sys2Proof.Machine
end

section
/-!
PLAN accepted (R17 to R20, R51) and FETCH-DONE (R24, R201).
-/
namespace Sys2Proof.Machine

/-! ### A plan that passes every check -/

theorem planDetail_of_good {s : State} {f : PlanFields} (range : PlanInRange s.straps.blades f) (follows : PlanFollows s.lastPlan f) : planDetail s f = none := by
  obtain ⟨kind, proof, short, long, near, far, two, nine, apart, first, last, lanes⟩ := range
  have cuts : ¬ cutsGood f.lNom f.cuts = false := by
    rw [cutsGood_eq_false_iff]
    rintro (h | h | ⟨x, hx, h⟩ | ⟨x, hx, h⟩ | ⟨x, hx, h⟩)
    · omega
    · omega
    · have := apart x hx; omega
    · have := first x hx; omega
    · have := last x hx; omega
  have clear : ¬ overlaps s.lastPlan f = true := by
    rw [overlaps_iff]
    rintro ⟨l, hl, x, hx, h⟩
    have := follows l hl x hx; omega
  have kinds : ¬ ((f.kind ≠ 1 ∧ f.kind ≠ 2) ∨ 1 < f.proof) := by
    rintro (⟨one, two⟩ | high)
    · exact kind.elim one two
    · exact absurd proof (by bv_omega)
  unfold planDetail
  rw [if_neg kinds, if_neg (by omega), if_neg (by omega), if_neg cuts, if_neg (by omega), if_neg clear]

theorem planAct_of_good {s : State} {f : PlanFields} (room : s.panels.length < 48) (named : f.id ≠ 0) (new : ∀ q ∈ s.panels, q.id ≠ f.id)
    (range : PlanInRange s.straps.blades f) (follows : PlanFollows s.lastPlan f) : planAct f s = accept (acceptPlan f s) := by
  have fresh : ¬ (f.id = 0 ∨ (s.byId? f.id).isSome = true) := by
    rw [byId_isSome_iff]
    rintro (zero | ⟨q, hq, same⟩)
    · exact named zero
    · exact new q hq same
  unfold planAct
  rw [if_neg (by rw [credits_eq_zero_iff]; omega), if_neg fresh, planDetail_of_good range follows]

/-- A QUEUED panel more makes no DONE panel. -/
theorem any_done_append {q : Panel} (waits : q.state ≠ .done) (ps : List Panel) :
    ((ps ++ [q]).any fun p => decide (p.state = .done)) = ps.any fun p => decide (p.state = .done) := by
  simp [waits]

/-- Where no tail is to come and no panel is QUEUED before it, the new panel's head comes next (R52). -/
theorem next1_of_appended {s : State} {q : Panel} (queued : q.state = .queued) (unseen : q.aHead = none) (none : ∀ o ∈ s.panels, o.state ≠ .queued)
    (last : ∀ r ∈ s.cursor1.lastHead, ∀ o, s.panel? r = some o → o.aTail.isSome = true ∨ o.completion = some .aborted) :
    State.next1 { s with panels := s.panels ++ [q] } = .head q.ref (s.cursor1.lastTail.map (· + q.gNom)) := by
  have first : (s.panels ++ [q]).find? (fun o => decide (o.state = .queued)) = some q := by
    rw [List.find?_append, List.find?_eq_none.mpr fun o ho => by simp [none o ho]]
    simp [queued]
  have tail : (s.cursor1.lastHead.bind fun r => (State.panel? { s with panels := s.panels ++ [q] } r).bind fun p =>
      if p.aTail.isNone = true ∧ p.completion ≠ some .aborted then p.aHead.map (fun a => Next1.tail r (a.pos + p.lNom)) else Option.none) = Option.none := by
    refine Option.bind_eq_none_iff.mpr fun r hr => Option.bind_eq_none_iff.mpr fun o ho => ?_
    have either : s.panel? r = some o ∨ o = q := by
      unfold State.panel? at ho ⊢
      rw [List.find?_append, Option.or_eq_some_iff] at ho
      refine ho.imp id fun h => ?_
      simpa using List.mem_of_find?_eq_some h.2
    rcases either with held | rfl
    · refine if_neg fun h => ?_
      rcases last r hr o held with seen | aborted
      · simp [Option.isNone_iff_eq_none.mp h.1] at seen
      · exact h.2 aborted
    · rw [unseen]; exact ite_self _
  unfold State.next1
  dsimp only
  rw [tail, first]

/-- A plan in its slot, and the last plan (R20). -/
def slotted (f : PlanFields) (s : State) : State :=
  { s with
    nextSerial := s.nextSerial + 1
    panels := s.panels ++ [newPanel s.nextSerial f]
    lastPlan := some ⟨f.lNom, f.cuts.getLast?.getD 0⟩ }

theorem acceptPlan_of_busy {s : State} (f : PlanFields) (busy : s.cursor1.state ≠ .idle) : acceptPlan f s = slotted f s := if_neg busy

theorem acceptPlan_of_idle {s : State} (f : PlanFields) (idle : s.cursor1.state = .idle) : acceptPlan f s = takeUpM1 (slotted f s) := if_pos idle

/-- A plan accepted is answered in the state that its taking leaves. -/
theorem exec_plan_accepted {s t : State} {p : List Byte} (free : LinkFree s) (synced : s.link.synced = true) (fits : planFits p = true)
    (room : s.panels.length < 48) (named : idAt p ≠ 0) (new : ∀ q ∈ s.panels, q.id ≠ idAt p) (range : PlanInRange s.straps.blades (planFields p))
    (follows : PlanFollows s.lastPlan (planFields p)) (tag : Byte)
    (ended : finish (holding ⟨0x10, tag, p⟩ s) (acceptPlan (planFields p) (holding ⟨0x10, tag, p⟩ s)) = holding ⟨0x10, tag, p⟩ t) :
    exec (.plan tag p) s = .next (answered ⟨0x10, tag, p⟩ .ok [] t) := by
  rw [exec_plan_free free synced fits]
  exact congrArg Host.Outcome.next (serve_taken _ _ s t _ _
    (planAct_of_good (s := holding ⟨0x10, tag, p⟩ s) room named new range follows) rfl ended rfl)

/-- Settles O9. -/
theorem planAppendsPanel : Obligations.PlanAppendsPanel := by
  intro s tag p free h synced fits room named new range follows
  have accepted (t : State) := exec_plan_accepted (t := t) free synced fits room named new range follows tag
  have settled := settled_holding h ⟨0x10, tag, p⟩
  have waits : (newPanel s.nextSerial (planFields p)).state ≠ .done := nofun
  refine ⟨fun busy => accepted _ ?_, fun none idle last => ?_⟩
  · rw [acceptPlan_of_busy (s := holding ⟨0x10, tag, p⟩ s) _ busy, Calm.finish_still ?_ settled ?_ ?_]
    · rfl
    · exact {}
    · exact starveAfter_congr (s := holding ⟨0x10, tag, p⟩ s) settled
    · exact settled.attn.congr rfl (any_done_append waits _) rfl rfl rfl rfl
  · have running : (slotted (planFields p) (holding ⟨0x10, tag, p⟩ s)).cursor1.state ≠ .halted := fun x => nomatch idle.symm.trans x
    have next : (slotted (planFields p) (holding ⟨0x10, tag, p⟩ s)).next1 = .head ⟨s.nextSerial, (planFields p).id⟩ (s.cursor1.lastTail.map (· + (planFields p).gNom)) :=
      next1_of_appended (s := s) (q := newPanel s.nextSerial (planFields p)) rfl rfl none last
    have ended {u : State} (calm : Calm (holding ⟨0x10, tag, p⟩ s) u) (starve : u.starveAfter = Option.none)
        (panels : u.panels = s.panels ++ [newPanel s.nextSerial (planFields p)]) (link : u.link = (holding ⟨0x10, tag, p⟩ s).link) :
        finish (holding ⟨0x10, tag, p⟩ s) u = { u with watches := { u.watches with starve := Option.none } } := by
      refine calm.finish_starve settled starve (settled.attn.congr calm.held ?_ (by rw [link]) (by rw [link]) (by rw [calm.line]) (by rw [link]))
      unfold State.donePending; rw [panels]; exact any_done_append waits _
    refine ⟨fun hold => accepted _ ?_, fun hold seek => accepted _ ?_, fun l hold seek tail ahead => accepted _ ?_⟩
    · rw [acceptPlan_of_idle (s := holding ⟨0x10, tag, p⟩ s) _ idle, takeUpM1_held running next hold, ended ?_ (starveAfter_of_cursor ?_) ?_ ?_]
      · rfl
      · exact {}
      · exact nofun
      · rfl
      · rfl
    · rw [acceptPlan_of_idle (s := holding ⟨0x10, tag, p⟩ s) _ idle, takeUpM1_seek running next hold ?_, ended ?_ (starveAfter_of_cursor ?_) ?_ ?_]
      · rfl
      · exact {}
      · exact nofun
      · rfl
      · rfl
      · exact seek.imp id fun absent => congrArg (Option.map _) absent
    · have known : s.cursor1.lastTail.map (· + (planFields p).gNom) = some (l + (planFields p).gNom) := by rw [tail]; rfl
      rw [known] at next
      rw [acceptPlan_of_idle (s := holding ⟨0x10, tag, p⟩ s) _ idle, takeUpM1_head running next hold seek ahead, ended ?_ (starveAfter_of_cursor ?_) ?_ ?_]
      · rfl
      · exact {}
      · exact nofun
      · rfl
      · rfl

/-! ### FETCH-DONE (R24, R201) -/

theorem withoutDone_done (p : Panel) (ps : List Panel) (n : Nat) (done : p.state = .done) : withoutDone (n + 1) (p :: ps) = withoutDone n ps := by
  rw [withoutDone]; exact if_pos done

theorem withoutDone_running (p : Panel) (ps : List Panel) (n : Nat) (runs : p.state ≠ .done) : withoutDone n (p :: ps) = p :: withoutDone n ps := by
  cases n with
  | zero => rw [withoutDone, withoutDone]
  | succ n => rw [withoutDone]; exact if_neg runs

/-- What leaves the list is the oldest DONE panels, and no other. -/
theorem withoutDone_parts (ps : List Panel) : ∀ n, (withoutDone n ps).Sublist ps
    ∧ (withoutDone n ps).filter (fun p => decide (p.state = .done)) = (ps.filter fun p => decide (p.state = .done)).drop n
    ∧ (withoutDone n ps).filter (fun p => !decide (p.state = .done)) = ps.filter (fun p => !decide (p.state = .done)) := by
  induction ps with
  | nil => intro n; cases n <;> exact ⟨List.Sublist.refl _, (List.drop_nil).symm, rfl⟩
  | cons p ps ih =>
    intro n
    by_cases done : p.state = .done
    · cases n with
      | zero => rw [withoutDone]; exact ⟨List.Sublist.refl _, rfl, rfl⟩
      | succ n =>
        obtain ⟨sub, gone, kept⟩ := ih n
        rw [withoutDone_done p ps n done]
        exact ⟨sub.cons p, by simp [done, gone], by simp [done, kept]⟩
    · obtain ⟨sub, gone, kept⟩ := ih n
      rw [withoutDone_running p ps n done]
      exact ⟨sub.cons_cons p, by simp [done, gone], by simp [done, kept]⟩

theorem length_eq_done_add_running (ps : List Panel) :
    ps.length = (ps.filter fun p => decide (p.state = .done)).length + (ps.filter fun p => !decide (p.state = .done)).length := by
  simpa using (List.length_eq_length_filter_add (l := ps) fun p => decide (p.state = .done))

theorem length_withoutDone (n : Nat) (ps : List Panel) :
    (withoutDone n ps).length = ps.length - ((ps.filter fun p => decide (p.state = .done)).take n).length := by
  obtain ⟨_, gone, kept⟩ := withoutDone_parts ps n
  have after := length_eq_done_add_running (withoutDone n ps)
  have before := length_eq_done_add_running ps
  rw [gone, kept, List.length_drop] at after
  rw [List.length_take]
  omega

theorem length_leBytes (n : Nat) : ∀ v, (leBytes n v).length = n := by
  induction n with
  | zero => exact fun _ => rfl
  | succ n ih => exact fun v => congrArg (· + 1) (ih _)

theorem length_signedField (n : Nat) (v : Int) : (signedField n v).length = n := by
  unfold signedField intBytes; split <;> exact length_leBytes _ _

theorem length_markField (c : Option Coord) : (markField c).length = 7 := by
  cases c with
  | none => rfl
  | some c =>
    exact congrArg (· + 1) (length_signedField 6 c.pos)

theorem length_lengthField (l : Option Length2) : (lengthField l).length = 5 := by
  cases l with
  | none => rfl
  | some l =>
    unfold lengthField
    dsimp only
    rw [List.length_append, show (lenField l.len).length = 4 from length_signedField 4 l.len]; rfl

/-- A completion record is 24 bytes (R201). -/
theorem length_completionLayout (p : Panel) : (completionLayout p).length = 24 := by
  have code : ((p.completion.map Completion.code).getD [0]).length = 1 := by cases p.completion <;> rfl
  have flags : (flagSet p).length = 3 := by unfold flagSet; simp
  have id : (idField p.id).length = 2 := length_leBytes 2 _
  unfold completionLayout
  simp only [List.length_append, code, flags, id, length_markField, length_lengthField]
  rfl

theorem freedAwait2_eq (s : State) : freedAwait2 s = { s with cursor2 := (freedAwait2 s).cursor2 } := by
  unfold freedAwait2
  repeat' split
  all_goals rfl

/-- Settles O12. -/
theorem fetchDoneFreesOldest : Obligations.FetchDoneFreesOldest := by
  intro s tag n free h
  have row : exec (.fetchDone tag [n]) s = .next (request 0x05 tag [n] 1 true (fetchDoneAct n.toNat) s) := by rw [← natAt_singleton n]; rfl
  rw [row]
  refine ⟨fun one eight => ?_, fun outside => ?_⟩
  · obtain ⟨sub, gone, kept⟩ := withoutDone_parts s.panels n.toNat
    have act : fetchDoneAct n.toNat (holding ⟨0x05, tag, [n]⟩ s) = ⟨.ok, freeFetched n.toNat (holding ⟨0x05, tag, [n]⟩ s),
        fun _ => byteField (s.fetched n.toNat).length ++ (s.fetched n.toNat).flatMap completionRecord⟩ := if_neg (by omega)
    have ended : finish (holding ⟨0x05, tag, [n]⟩ s) (freeFetched n.toNat (holding ⟨0x05, tag, [n]⟩ s))
        = attnUpdate (freeFetched n.toNat (holding ⟨0x05, tag, [n]⟩ s)) := by
      unfold freeFetched
      rw [freedAwait2_eq]
      refine Calm.finish_told ?_ (settled_holding h _) ?_
      · exact {}
      · exact starveAfter_congr (s := s) h
    have served := request_served (n := 1) (u := true) free rfl (.inl rfl) act rfl
    rw [ended] at served
    unfold freeFetched at served
    rw [freedAwait2_eq] at served
    have credits : 48 - (withoutDone n.toNat s.panels).length
        = 48 - (s.panels.length - ((s.panels.filter fun p => decide (p.state = .done)).take n.toNat).length) := by rw [length_withoutDone]
    have records : (s.fetched n.toNat).flatMap completionRecord = ((s.fetched n.toNat).map completionLayout).flatten := by
      rw [← flatten_map_eq, funext completionLayout_eq]
    refine ⟨_, congrArg Host.Outcome.next served, ?_, fun p _ => length_completionLayout p, sub, gone, kept, credits, rfl, rfl, rfl, rfl, rfl, rfl, rfl, rfl, rfl⟩
    show some _ = some _
    rw [← credits]
    exact congrArg (fun r => some (Status.ok, 48 - (withoutDone n.toNat s.panels).length, byteField (s.fetched n.toNat).length ++ r)) records
  · exact congrArg Host.Outcome.next (request_refused free rfl (.inl rfl) (if_pos (by omega)) rfl nofun)

end Sys2Proof.Machine
end

section
/-!
What the planner, the station and the outfeed leave alone, and the station at rest on a line that lets no entry go on; CAL-WRITE (R206, R207).
-/
namespace Sys2Proof.Machine

/-- The state without what the planner, the station and the outfeed move. -/
def State.aside (s : State) : State :=
  { s with panels := [], planner := {}, station := { blades := [], knife := .unhomed }, drives := { s.drives with outfeed := .stopped } }

section aside
variable (s : State)

theorem aside_foldl {α : Type} {f : State → α → State} (h : ∀ s a, (f s a).aside = s.aside) (l : List α) (s : State) : (l.foldl f s).aside = s.aside := by
  induction l generalizing s with
  | nil => rfl
  | cons a l ih => exact (ih _).trans (h s a)

/-! ### The station and the outfeed -/

@[simp] theorem aside_updPanel (r : PanelRef) (f : Panel → Panel) : (updPanel r f s).aside = s.aside := rfl
@[simp] theorem aside_raiseFlag (f : Flag) (r : PanelRef) : (raiseFlag f r s).aside = s.aside := rfl
@[simp] theorem aside_raiseFlags (f : Flag) (rs : List PanelRef) : (raiseFlags f rs s).aside = s.aside :=
  aside_foldl (fun s r => aside_raiseFlag s f r) rs s
@[simp] theorem aside_setOutfeed (o : Outfeed) : (setOutfeed o s).aside = s.aside := rfl
@[simp] theorem aside_issueMove (p : Purpose) (o : Owner) (e : Int) : (issueMove p o e s).aside = s.aside := rfl
@[simp] theorem aside_askStation (p : Purpose) (e : Int) : (askStation p e s).aside = s.aside := by
  unfold askStation; repeat' split
  all_goals rfl
@[simp] theorem aside_stationStop : (stationStop s).1.aside = s.aside := by unfold stationStop; split <;> rfl
@[simp] theorem aside_startFreeRun : (startFreeRun s).aside = s.aside := by
  unfold startFreeRun; repeat' split
  all_goals rfl
@[simp] theorem aside_takeOverMove : (takeOverMove s).aside = s.aside := by unfold takeOverMove; split <;> rfl
@[simp] theorem aside_setEntry (e : EntryState) : (setEntry e s).aside = s.aside := by unfold setEntry updFirst; split <;> rfl
@[simp] theorem aside_setCycle (c : Cycle) : (setCycle c s).aside = s.aside := rfl
@[simp] theorem aside_clearRecords : (clearRecords s).aside = s.aside := rfl
@[simp] theorem aside_station (x : Station) : State.aside { s with station := x } = s.aside := rfl
@[simp] theorem aside_commandGate (p : GatePos) : (commandGate p s).aside = s.aside := by unfold commandGate; dsimp only; split <;> rfl
@[simp] theorem aside_commandBlades (l : Byte) : (commandBlades l s).aside = s.aside := rfl
@[simp] theorem aside_raiseRecut (e : Entry) : (raiseRecut e s).aside = s.aside := by unfold raiseRecut; split <;> simp
@[simp] theorem aside_prepareGate (e : Entry) : (prepareGate e s).aside = s.aside := by
  unfold prepareGate; split
  · rfl
  · dsimp only; split <;> simp
@[simp] theorem aside_prepare (e : Entry) : (prepare e s).aside = s.aside := by unfold prepare; simp
@[simp] theorem aside_judgeMiss (e : Entry) (err : Int) : (judgeMiss e err s).aside = s.aside := by
  have flagged (fs : Option Flag) (x : State) : (match fs with | some f => raiseFlags f (e.cuts.map fun c => c.panel) x | none => x : State).aside = x.aside := by
    cases fs <;> simp
  have laned (x : State) : (match e.lane with | some l => if x.work .rejectTol < err then raiseFlag .laneLate l.owner x else x | none => x : State).aside = x.aside := by
    cases e.lane with
    | none => rfl
    | some l => dsimp only; split <;> rfl
  exact (laned _).trans (flagged _ s)
@[simp] theorem aside_correct (e : Entry) : (correct e s).aside = s.aside := by unfold correct; simp
theorem aside_goOn {f : State → State} {s : State} (h : (f s).aside = s.aside) : (goOn f s).aside = s.aside := by
  unfold goOn; split
  · exact h
  · rfl
@[simp] theorem aside_arrive : (arrive s).aside = s.aside := by
  unfold arrive
  cases s.current with
  | none => rfl
  | some e =>
    dsimp only
    repeat' split
    · simp [aside_goOn]
    · simp [aside_goOn]
    · simp [aside_goOn]
@[simp] theorem aside_thenArrive (r : State × Bool) : (thenArrive r).aside = r.1.aside := by unfold thenArrive; split <;> simp
@[simp] theorem aside_takeUp : (takeUp s).aside = s.aside := by
  unfold takeUp; split
  · rfl
  · dsimp only; repeat' split
    all_goals simp

/-! ### The planner -/

@[simp] theorem aside_setQueue (q : List Entry) : (setQueue q s).aside = s.aside := rfl
@[simp] theorem aside_remark : (remark s).aside = s.aside := by
  unfold remark; repeat' split
  all_goals rfl
@[simp] theorem aside_approachTarget (o n : Option Int) : (approachTarget o n s).aside = s.aside := by
  unfold approachTarget; repeat' split
  all_goals simp
@[simp] theorem aside_targetUpdate : (targetUpdate s).aside = s.aside := by
  have remarked := aside_remark s
  unfold targetUpdate
  generalize remark s = t at remarked
  rw [← remarked]
  dsimp only
  repeat' split
  · rfl
  · exact aside_approachTarget _ _ _
  · rfl
@[simp] theorem aside_judgeCut (r : PanelRef) (a b : Int) : (judgeCut r a b s).aside = s.aside := by unfold judgeCut; split <;> simp
@[simp] theorem aside_judgeLane (r : PanelRef) (a : Int) : (judgeLane r a s).aside = s.aside := by
  unfold judgeLane; repeat' split
  all_goals simp
@[simp] theorem aside_judgeNewcomer (n : Entry) (a b : Int) : (judgeNewcomer n a b s).aside = s.aside := by
  unfold judgeNewcomer; cases n.cut <;> cases n.lane <;> simp
@[simp] theorem aside_flagMerged (c n : Entry) : (flagMerged c n s).aside = s.aside := by unfold flagMerged; split <;> simp
@[simp] theorem aside_placeEntry (fuel : Nat) (old : Option Int) (pushed : Bool) (w : Int) (e : Entry) (x : Int) :
    (placeEntry fuel old pushed w e x s).aside = s.aside := by
  induction fuel generalizing old pushed x with
  | zero => rfl
  | succ n ih =>
    unfold placeEntry
    repeat' split
    · rfl
    · simp
    · simp
    · simp
    · exact ih _ _ _
@[simp] theorem aside_place (old : Option Int) (e : Entry) : (place old e s).aside = s.aside := aside_placeEntry s _ _ _ _ _ _
@[simp] theorem aside_placeLane (l : LaneChange) (a : Option Int) (b : Int) : (placeLane l a b s).aside = s.aside := by
  unfold placeLane; dsimp only; split <;> simp
@[simp] theorem aside_placeCuts (r : PanelRef) (ts : List Int) : (placeCuts r ts s).aside = s.aside := aside_foldl (fun s _ => aside_place s _ _) _ s
@[simp] theorem aside_commitPanel (p : Panel) : (commitPanel p s).aside = s.aside := by
  unfold commitPanel
  dsimp only
  split <;> simp
@[simp] theorem aside_tryCommits : (tryCommits s).aside = s.aside := by
  have loop (n : Nat) (s : State) : (commitLoop n s).aside = s.aside := by
    induction n generalizing s with
    | zero => rfl
    | succ n ih =>
      unfold commitLoop; split
      · rw [ih, aside_commitPanel]
      · rfl
  exact loop _ s

end aside

/-! ### A line that lets no entry go on -/

/-- The line lets no entry past its arrival go on, and a LANE entry being prepared waits for its blades: the station can do nothing of itself. -/
structure Resting (s : State) : Prop where
  line : s.continuing = false
  lane : s.station.cycle = .preparing → ∀ e, s.current = some e → e.isLane = true → s.bladesConfirmed = false

theorem line_of_aside {s t : State} (same : t.aside = s.aside) : t.line = s.line :=
  (congrArg (fun u : State => u.line) same : t.aside.line = s.aside.line)
theorem continuing_of_aside {s t : State} (same : t.aside = s.aside) : t.continuing = s.continuing := by
  unfold State.continuing; rw [line_of_aside same]

theorem not_feeding_of_resting {s : State} (h : s.continuing = false) : s.feeding = false := by
  unfold State.continuing at h
  unfold State.feeding LineBlock.feeding
  simp only [decide_eq_false_iff_not, not_or] at h
  cases state : s.line.state <;> simp_all

theorem Resting.pumpStep {s : State} (h : Resting s) : pumpStep s = none := by
  have feeding := not_feeding_of_resting h.line
  refine (pumpStep_eq_none_iff s).mpr ⟨fun _ x => Bool.false_ne_true (feeding.symm.trans x.2), fun cycle e current prepared => ⟨?_, ?_⟩⟩
  · by_contra lane
    rw [Bool.not_eq_false] at lane
    unfold State.prepared at prepared
    rw [h.lane cycle e current lane] at prepared
    exact nomatch prepared
  · unfold State.mayTraverse; rw [h.line, Bool.and_false]

theorem Settled.resting {s : State} (h : Settled s) (line : s.continuing = false) : Resting s := by
  refine ⟨line, fun cycle e current lane => ?_⟩
  by_contra blades
  rw [Bool.not_eq_false] at blades
  have prepared : s.prepared e = true := by unfold State.prepared; rw [blades, lane]; rfl
  have unlaned := (((pumpStep_eq_none_iff s).mp h.station).2 cycle e current prepared).1
  exact absurd lane (by rw [unlaned]; exact nofun)

/-- The first entry, where it is not PENDING, was first before and carries a cut if it carried one. -/
def HeadKept (q q' : List Entry) : Prop :=
  ∀ e', q'.head? = some e' → e'.state ≠ .pending → ∃ e, q.head? = some e ∧ e.state ≠ .pending ∧ (e'.isLane = true → e.isLane = true)

theorem HeadKept.refl (q : List Entry) : HeadKept q q := fun e h state => ⟨e, h, state, id⟩

theorem HeadKept.trans {p q r : List Entry} (h : HeadKept p q) (g : HeadKept q r) : HeadKept p r := by
  intro e first state
  obtain ⟨d, first', state', lane⟩ := g e first state
  obtain ⟨c, first'', state'', lane'⟩ := h d first' state'
  exact ⟨c, first'', state'', lane' ∘ lane⟩

theorem current_eq_some_iff (s : State) (e : Entry) : s.current = some e ↔ s.planner.queue.head? = some e ∧ e.state ≠ .pending := by
  unfold State.current
  cases s.planner.queue with
  | nil => simp
  | cons d q =>
    by_cases pending : d.state = .pending
    · simp only [pending, if_true, List.head?_cons, Option.some.injEq]
      exact ⟨nofun, fun ⟨same, other⟩ => absurd (same ▸ pending) other⟩
    · simp only [pending, if_false, List.head?_cons, Option.some.injEq]
      exact ⟨fun same => ⟨same, same ▸ pending⟩, fun h => h.1⟩

theorem Resting.of_head {s t : State} (h : Resting s) (line : t.line = s.line) (station : t.station = s.station)
    (head : HeadKept s.planner.queue t.planner.queue) : Resting t := by
  refine ⟨by unfold State.continuing; rw [line]; exact h.line, fun cycle e current lane => ?_⟩
  obtain ⟨first, state⟩ := (current_eq_some_iff t e).mp current
  obtain ⟨d, first', state', lane'⟩ := head e first state
  unfold State.bladesConfirmed
  rw [station] at cycle ⊢
  exact h.lane cycle d ((current_eq_some_iff s d).mpr ⟨first', state'⟩) (lane' lane)

theorem headKept_map {q : List Entry} {f : Entry → Entry} (state : ∀ e, (f e).state = e.state) (lane : ∀ e, (f e).isLane = true → e.isLane = true) :
    HeadKept q (q.map f) := by
  cases q with
  | nil => exact .refl _
  | cons e q =>
    intro d first other
    cases first
    exact ⟨e, rfl, state e ▸ other, lane e⟩

theorem headKept_insertEntry {e : Entry} (pending : e.state = .pending) (q : List Entry) : HeadKept q (insertEntry e q) := by
  cases q with
  | nil => intro d first other; cases first; exact absurd pending other
  | cons c q =>
    unfold insertEntry
    split
    · intro d first other; cases first; exact absurd pending other
    · intro d first other; cases first; exact ⟨_, rfl, other, id⟩

/-- Placing an entry leaves the station and the first entry. -/
structure Placed (s t : State) : Prop where
  station : t.station = s.station
  head : HeadKept s.planner.queue t.planner.queue

theorem Placed.trans {s t u : State} (h : Placed s t) (g : Placed t u) : Placed s u := ⟨g.station.trans h.station, h.head.trans g.head⟩

theorem placed_foldl {α : Type} {f : State → α → State} (h : ∀ s a, Placed s (f s a)) (l : List α) (s : State) : Placed s (l.foldl f s) := by
  induction l generalizing s with
  | nil => exact ⟨rfl, .refl _⟩
  | cons a l ih => exact (h s a).trans (ih _)

theorem placed_raiseFlag (f : Flag) (r : PanelRef) (s : State) : Placed s (raiseFlag f r s) := ⟨rfl, .refl _⟩
theorem placed_raiseFlags (f : Flag) (rs : List PanelRef) (s : State) : Placed s (raiseFlags f rs s) := placed_foldl (fun s r => placed_raiseFlag f r s) rs s
theorem placed_judgeCut (r : PanelRef) (a b : Int) (s : State) : Placed s (judgeCut r a b s) := by
  unfold judgeCut; split <;> exact ⟨rfl, .refl _⟩
theorem placed_judgeLane (r : PanelRef) (a : Int) (s : State) : Placed s (judgeLane r a s) := by
  unfold judgeLane; repeat' split
  all_goals exact ⟨rfl, .refl _⟩
theorem placed_judgeNewcomer (n : Entry) (a b : Int) (s : State) : Placed s (judgeNewcomer n a b s) := by
  unfold judgeNewcomer
  cases n.cut <;> cases n.lane
  · exact ⟨rfl, .refl _⟩
  · exact placed_judgeLane _ _ _
  · exact placed_judgeCut _ _ _ _
  · exact (placed_judgeCut _ _ _ _).trans (placed_judgeLane _ _ _)
theorem placed_flagMerged (c n : Entry) (s : State) : Placed s (flagMerged c n s) := by
  unfold flagMerged; split
  · exact placed_raiseFlags _ _ _
  · exact ⟨rfl, .refl _⟩

theorem isLane_mergeEntries (c n : Entry) : (mergeEntries c n).isLane = true → c.isLane = true := by
  unfold mergeEntries Entry.isLane
  cases c.cut <;> simp

theorem placed_placeEntry (fuel : Nat) (old : Option Int) (pushed : Bool) (w : Int) {e : Entry} (pending : e.state = .pending) (x : Int) (s : State) :
    Placed s (placeEntry fuel old pushed w e x s) := by
  induction fuel generalizing old pushed x with
  | zero => exact ⟨rfl, .refl _⟩
  | succ n ih =>
    have inserted : Placed s (setQueue (insertEntry { e with trigger := x } s.planner.queue) s) := ⟨rfl, headKept_insertEntry (e := { e with trigger := x }) pending _⟩
    unfold placeEntry
    repeat' split
    · exact ⟨rfl, .refl _⟩
    · exact inserted.trans (placed_judgeNewcomer _ _ _ _)
    · exact inserted
    · rename_i c _ _
      have merged : Placed s (setQueue (s.planner.queue.map fun q => if q = c then mergeEntries c e else q) s) := by
        refine ⟨rfl, headKept_map (fun q => ?_) fun q => ?_⟩
        · split
          · rename_i same; rw [same]; rfl
          · rfl
        · split
          · rename_i same; rw [same]; exact isLane_mergeEntries c e
          · exact id
      exact merged.trans ((placed_flagMerged _ _ _).trans (placed_judgeNewcomer _ _ _ _))
    · exact ih _ _ _

theorem placed_place (old : Option Int) (e : Entry) (s : State) : Placed s (place old e s) := placed_placeEntry _ _ _ _ rfl _ _

theorem placed_placeLane (l : LaneChange) (a : Option Int) (b : Int) (s : State) : Placed s (placeLane l a b s) := by
  unfold placeLane
  dsimp only
  split
  · refine ⟨rfl, headKept_map (fun q => ?_) fun q => ?_⟩
    · split <;> rfl
    · split <;> exact id
  · exact placed_place _ _ _

theorem station_askStation (p : Purpose) (e : Int) (s : State) : (askStation p e s).station = s.station := by
  unfold askStation; repeat' split
  all_goals rfl
theorem station_stationStop (s : State) : (stationStop s).1.station = s.station := by unfold stationStop; split <;> rfl
theorem station_takeOverMove (s : State) : (takeOverMove s).station = s.station := by unfold takeOverMove; split <;> rfl

theorem goOn_of_resting {s : State} (line : s.continuing = false) (f : State → State) : goOn f s = setCycle .paused s := if_neg (by simp [line])

/-- On a line that lets no entry go on, an arrival prepares nothing. -/
theorem cycle_arrive_of_resting {s : State} (line : s.continuing = false) (cycle : s.station.cycle ≠ .preparing) : (arrive s).station.cycle ≠ .preparing := by
  unfold arrive
  cases s.current with
  | none => exact cycle
  | some e =>
    dsimp only
    have settled : (setEntry .settling { s with station := { s.station with lastErr := some (s.p2 - e.trigger) } }).continuing = false :=
      (continuing_of_aside (aside_setEntry _ _)).trans line
    generalize setEntry .settling _ = t at settled
    repeat' split
    · rw [goOn_of_resting settled]; exact nofun
    · rw [goOn_of_resting ((continuing_of_aside (aside_judgeMiss t e _)).trans settled)]; exact nofun
    · rw [goOn_of_resting settled]; exact nofun

theorem cycle_approachTarget_of_resting {s : State} (line : s.continuing = false) (cycle : s.station.cycle ≠ .preparing) (o n : Option Int) :
    (approachTarget o n s).station.cycle ≠ .preparing := by
  unfold approachTarget
  repeat' split
  · rw [station_takeOverMove]; exact nofun
  · have stopped := (continuing_of_aside (aside_stationStop s)).trans line
    have still : (stationStop s).1.station.cycle ≠ .preparing := by rw [station_stationStop]; exact cycle
    unfold thenArrive
    split
    · exact cycle_arrive_of_resting stopped still
    · exact still
  · rw [station_askStation]; exact cycle

theorem remark_of_other {s : State} (cycle : s.station.cycle ≠ .approach) : remark s = s := if_neg cycle

theorem Resting.targetUpdate {s : State} (h : Resting s) : Resting (targetUpdate s) := by
  by_cases approach : s.station.cycle = .approach
  · have line := (continuing_of_aside (aside_targetUpdate s)).trans h.line
    refine ⟨line, fun preparing => absurd preparing ?_⟩
    have cycle : (remark s).station.cycle ≠ .preparing := by
      have station : (remark s).station = s.station := by
        unfold remark; repeat' split
        all_goals rfl
      rw [station, approach]; exact nofun
    have still := (continuing_of_aside (aside_remark s)).trans h.line
    unfold Machine.targetUpdate
    generalize remark s = t at cycle still
    dsimp only
    repeat' split
    · exact cycle
    · refine cycle_approachTarget_of_resting ?_ ?_ _ _
      · exact still
      · exact cycle
    · exact cycle
  · unfold Machine.targetUpdate
    rw [remark_of_other approach]
    dsimp only
    split
    · exact h
    · exact h.of_head rfl rfl (.refl _)

theorem Resting.tryCommits {s : State} (h : Resting s) : Resting (tryCommits s) := by
  have commit (p : Panel) {s : State} (h : Resting s) : Resting (commitPanel p s) := by
    have committed : Resting (updPanel p.ref (fun q => { q with state := .committed }) s) := h.of_head rfl rfl (.refl _)
    have cuts : Placed (updPanel p.ref (fun q => { q with state := .committed }) s) (placeCuts p.ref (p.triggers.getD []) (updPanel p.ref (fun q => { q with state := .committed }) s)) :=
      placed_foldl (fun s _ => placed_place _ _ _) _ _
    have placed := committed.of_head (line_of_aside (aside_placeCuts _ _ _)) cuts.station cuts.head
    unfold commitPanel
    dsimp only
    refine Resting.targetUpdate ?_
    split
    · have laned := placed_placeLane ⟨p.lanes, p.ref⟩ s.lastCutTrigger ‹Int› (placeCuts p.ref (p.triggers.getD []) (updPanel p.ref (fun q => { q with state := .committed }) s))
      exact placed.of_head (line_of_aside (aside_placeLane _ _ _ _)) laned.station laned.head
    · exact placed
  have loop (n : Nat) {s : State} (h : Resting s) : Resting (commitLoop n s) := by
    induction n generalizing s with
    | zero => exact h
    | succ n ih =>
      unfold commitLoop; split
      · exact ih (commit _ h)
      · exact h
  exact loop _ h

/-! ### CAL-WRITE (R206, R207) -/

/-- On a line that lets no entry go on, a request that leaves line, station and planner alone and tries the commits ends with the levels brought up. -/
theorem finish_tryCommits {s u : State} (h : Settled s) (rest : s.continuing = false) (line : u.line = s.line) (station : u.station = s.station)
    (planner : u.planner = s.planner) : finish s (tryCommits u) = attnUpdate (levelled (tryCommits u)) := by
  have resting : Resting (tryCommits u) := ((h.resting rest).of_head line station (by rw [planner]; exact .refl _)).tryCommits
  have kept : (tryCommits u).line = s.line := (line_of_aside (aside_tryCommits u)).trans line
  have stop : (tryCommits u).stopEnds = false := by
    have moving : (tryCommits u).line.state ≠ .stopping := by
      rw [kept]; intro stopping
      unfold State.continuing at rest; simp [stopping] at rest
    unfold State.stopEnds; simp [moving]
  rw [finish_of_not_feeding (not_feeding_of_resting resting.line) resting.pumpStep stop]
  exact congrArg attnUpdate (lineUpdate_of_same (congrArg (fun l : LineBlock => l.state) kept) (congrArg (fun l : LineBlock => l.stop) kept))

theorem inRange_iff (e : CalEntry) (v : Int) : e.inRange v = true ↔ e.row.lo ≤ v ∧ v ≤ e.row.hi := by unfold CalEntry.inRange; simp

theorem exec_calWrite (tag i a b c d : Byte) (s : State) : exec (.calWrite tag [i, a, b, c, d]) s =
    .next (request 0x41 tag [i, a, b, c, d] 5 false (calWriteAct i.toNat (leInt [a, b, c, d])) s) := by
  rw [← natAt_singleton i]; rfl

/-- What an accepted write has done when the commits are tried (R206). -/
def written (e : CalEntry) (v : Int) (s : State) : State :=
  actOnWork e { s with cal := { s.cal with working := s.cal.working.set e.index v, write := some (e.index, v) } }

theorem clampStretch_eq (s : State) : clampStretch s = { s with
    reg := { s.reg with s := clampInt (-(s.work .sMax)) (s.work .sMax) s.reg.s }, link := (clampStretch s).link } := by
  unfold clampStretch
  dsimp only
  split
  · rename_i same; rw [same]
  · rw [queueEvent_eq]

theorem actOnWork_of_other {e : CalEntry} (notMax : e ≠ .sMax) (not1 : e ≠ .threshM1) (not2 : e ≠ .threshM2) (s : State) : actOnWork e s = s := by
  unfold actOnWork
  split
  · exact absurd rfl notMax
  · exact absurd rfl not1
  · exact absurd rfl not2
  · rfl

theorem followed_eq (bar : Bar) (old new : Int) : (if bar.inProgress = true then old else new) = if bar.inProgress = false then new else old := by
  cases bar.inProgress <;> rfl

theorem written_eq {s : State} (full : s.cal.working.length = 58) (e : CalEntry) (v : Int) : ∃ l, written e v s = { s with
    cal := { s.cal with working := s.cal.working.set e.index v, write := some (e.index, v) }
    reg := { s.reg with s := if e = .sMax then clampInt (-v) v s.reg.s else s.reg.s }
    sensor1 := { s.sensor1 with threshold := if e = .threshM1 ∧ s.sensor1.bar.inProgress = false then v else s.sensor1.threshold }
    sensor2 := { s.sensor2 with threshold := if e = .threshM2 ∧ s.sensor2.bar.inProgress = false then v else s.sensor2.threshold }
    link := l } := by
  have value : State.work { s with cal := { s.cal with working := s.cal.working.set e.index v, write := some (e.index, v) } } e = v :=
    work_setWork_self full e v
  unfold written
  by_cases max : e = .sMax
  · subst max
    refine ⟨(written .sMax v s).link, (clampStretch_eq _).trans ?_⟩
    rw [value]
    rfl
  by_cases first : e = .threshM1
  · subst first
    refine ⟨s.link, (followThreshold_eq .m1 _).trans ?_⟩
    rw [show State.work _ (thresholdEntry .m1) = v from value, followed_eq]
    simp only [true_and, reduceCtorEq, if_false, false_and]
    rfl
  by_cases second : e = .threshM2
  · subst second
    refine ⟨s.link, (followThreshold_eq .m2 _).trans ?_⟩
    rw [show State.work _ (thresholdEntry .m2) = v from value, followed_eq]
    simp only [true_and, reduceCtorEq, if_false, false_and]
    rfl
  refine ⟨s.link, (actOnWork_of_other max first second _).trans ?_⟩
  simp only [max, first, second, if_false, false_and]

theorem written_told {s : State} (full : s.cal.working.length = 58) {v : Int} (moves : clampInt (-v) v s.reg.s ≠ s.reg.s) (room : s.link.events.length < 64) :
    (written .sMax v s).link.events = s.link.events ++ [.stretchLimit none none s.reg.s (clampInt (-v) v s.reg.s)] := by
  have value : State.work { s with cal := { s.cal with working := s.cal.working.set CalEntry.sMax.index v, write := some (CalEntry.sMax.index, v) } } .sMax = v :=
    work_setWork_self full .sMax v
  show (clampStretch _).link.events = _
  unfold clampStretch
  rw [value]
  dsimp only
  rw [if_neg moves, queueEvent_events]
  exact congrArg (s.link.events ++ ·) (if_pos room)

/-- Settles O24. -/
theorem calWriteChecksAndWrites : Obligations.CalWriteChecksAndWrites := by
  refine ⟨fun s tag i a b c d free h synced full => ?_, fun s h => ⟨fun i v write => ?_, fun none => ?_⟩⟩
  · intro p v refused
    have refuses (st : Status) (hs : st.taken = false) (hb : st ≠ .badPlan)
        (act : calWriteAct i.toNat v (holding ⟨0x41, tag, p⟩ s) = refuse st (holding ⟨0x41, tag, p⟩ s)) : refused st := by
      show exec _ s = _
      rw [exec_calWrite]
      exact congrArg Host.Outcome.next (request_refused free rfl (.inr synced) act hs hb)
    refine ⟨fun high => refuses .badValue rfl nofun ?_, fun e index => ?_⟩
    · unfold calWriteAct; rw [ofIndex_of_large high]
    have act : calWriteAct i.toNat v (holding ⟨0x41, tag, p⟩ s) =
        if s.continuing then refuse .badState (holding ⟨0x41, tag, p⟩ s)
        else if s.cal.write.isSome then refuse .busy (holding ⟨0x41, tag, p⟩ s)
        else if ¬ e.inRange v then refuse .badValue (holding ⟨0x41, tag, p⟩ s)
        else if isLoopEntry e ∧ ¬ loopOrders (s.cal.working.set e.index v) then refuse .badValue (holding ⟨0x41, tag, p⟩ s)
        else accept (beginWrite e v (holding ⟨0x41, tag, p⟩ s)) := by
      unfold calWriteAct; rw [← index, ofIndex_index]; rfl
    have runs : s.continuing = true ↔ s.line.state = .running ∨ s.line.state = .stopping := by unfold State.continuing; simp
    split
    · rename_i running
      exact refuses .badState rfl nofun (act.trans (if_pos (runs.mpr running)))
    rename_i rest
    rw [if_neg (by rw [runs]; exact rest)] at act
    split
    · rename_i busy
      exact refuses .busy rfl nofun (act.trans (if_pos busy))
    rename_i free'
    rw [if_neg free'] at act
    split
    · rename_i outside
      refine refuses .badValue rfl nofun (act.trans (if_pos ?_))
      rw [inRange_iff]; omega
    rename_i within
    rw [if_neg (by rw [inRange_iff]; omega)] at act
    split
    · rename_i orders
      refine refuses .badValue rfl nofun (act.trans (if_pos ?_))
      unfold isLoopEntry; simpa using orders
    rename_i orders
    rw [if_neg (by unfold isLoopEntry; simpa using orders)] at act
    have still : (holding ⟨0x41, tag, p⟩ s).continuing = false := by
      unfold State.continuing; exact decide_eq_false rest
    obtain ⟨l, all⟩ := written_eq (s := holding ⟨0x41, tag, p⟩ s) full e v
    have told (max : e = .sMax) (moves : clampInt (-v) v s.reg.s ≠ s.reg.s) (room : s.link.events.length < 64) :
        (written e v (holding ⟨0x41, tag, p⟩ s)).link.events = s.link.events ++ [.stretchLimit none none s.reg.s (clampInt (-v) v s.reg.s)] := by
      rw [max]; exact written_told (s := holding ⟨0x41, tag, p⟩ s) full moves room
    have begins : beginWrite e v (holding ⟨0x41, tag, p⟩ s) = tryCommits (written e v (holding ⟨0x41, tag, p⟩ s)) := rfl
    have ended := finish_tryCommits (settled_holding h ⟨0x41, tag, p⟩) still (u := written e v (holding ⟨0x41, tag, p⟩ s)) (by rw [all]) (by rw [all]) (by rw [all])
    have served := request_served (n := 5) (u := false) free rfl (.inr synced) act rfl
    rw [begins] at served
    dsimp only at served
    rw [ended] at served
    have aside := aside_tryCommits (written e v (holding ⟨0x41, tag, p⟩ s))
    have plans := (kept_tryCommits (written e v (holding ⟨0x41, tag, p⟩ s))).plans
    generalize written e v (holding ⟨0x41, tag, p⟩ s) = u at all told served aside plans
    generalize tryCommits u = x at served aside plans
    have same {α : Type} (f : State → α) (kept : ∀ y : State, f y.aside = f y) : f x = f u := by rw [← kept x, aside, kept u]
    refine ⟨_, (exec_calWrite ..).trans (congrArg Host.Outcome.next served), (same (·.cal) fun _ => rfl).trans (by rw [all]),
      (same (·.roll1) fun _ => rfl).trans (by rw [all]), (same (·.roll2) fun _ => rfl).trans (by rw [all]), (same (·.loop) fun _ => rfl).trans (by rw [all]),
      (same (·.sampler) fun _ => rfl).trans (by rw [all]), (same (·.reg) fun _ => rfl).trans (by rw [all]), fun max moves room => ?_,
      (same (·.sensor1) fun _ => rfl).trans (by rw [all]), (same (·.sensor2) fun _ => rfl).trans (by rw [all]), rfl, plans.trans (by rw [all])⟩
    show _ ∈ x.link.events
    rw [same (·.link.events) fun _ => rfl, told max moves room]
    exact List.mem_append_right _ (List.mem_singleton.mpr rfl)
  · refine congrArg Host.Outcome.next ((event_of_running h.running).trans ?_)
    have done : completeWrite s = queueEvent (.calWritten i v) { s with cal := { s.cal with
        store := s.cal.store.set i ⟨v, true⟩, reported := s.cal.reported.set i v, write := none } } := by
      unfold completeWrite; rw [write]
    rw [done, queueEvent_eq]
    refine Calm.finish_told ?_ h ?_
    · exact {}
    · exact starveAfter_congr (s := s) h
  · refine congrArg Host.Outcome.next ((event_of_running h.running).trans ?_)
    rw [show completeWrite s = s by unfold completeWrite; rw [none]]
    exact Calm.finish_still {} h (starveAfter_of_settled h) h.attn

end Sys2Proof.Machine
end

section
/-!
Faults taken (R178, R179): the open command (R159, R161), what the station and the outfeed make of a fault (R116, R118, R125, R144), and the end of its event; the
encoder faults (R26, R27).
-/
namespace Sys2Proof.Machine

/-! ### The open command -/

/-- The laminator after a command to open (R159, R161). -/
def openedLam (s : State) : Laminator :=
  { s.lam with
    nip := nipAfterOpen s
    nipTimer := if nipOpens s then (if s.inputs.nipOpen then none else some ⟨s.now, s.workNat .nipTimeout⟩) else s.lam.nipTimer
    commandClose := if nipOpens s then false else s.lam.commandClose
    reclose := s.straps.laminator || s.lam.reclose }

theorem commandOpen_eq (s : State) : commandOpen s = { s with lam := openedLam s } := by
  have opens (closed : s.lam.nip = .closed ∨ s.lam.nip = .closing) (fitted : s.straps.laminator = true) :
      confirmNip (updLam (fun l => { l with nip := .opening, commandClose := false, nipTimer := some (s.startTimer (s.workNat .nipTimeout)) })
        (updLam (fun l => { l with reclose := true }) s)) = { s with lam := openedLam s } := by
    have yes : nipOpens s = true := by unfold nipOpens; simp [closed, fitted]
    unfold openedLam nipAfterOpen
    rw [yes, fitted]
    unfold confirmNip
    show (if s.inputs.nipOpen = true then _ else _) = _
    cases s.inputs.nipOpen <;> rfl
  unfold commandOpen
  by_cases fitted : s.straps.laminator = true
  · rw [if_pos fitted]
    have stays (other : ¬ (s.lam.nip = .closed ∨ s.lam.nip = .closing)) : { s with lam := { s.lam with reclose := true } } = { s with lam := openedLam s } := by
      have no : nipOpens s = false := by unfold nipOpens; simp [other]
      unfold openedLam nipAfterOpen
      rw [no, fitted]; rfl
    dsimp only
    split
    · rename_i nip; exact opens (.inl nip) fitted
    · rename_i nip; exact opens (.inr nip) fitted
    · rename_i one two; exact stays (not_or.mpr ⟨one, two⟩)
  · rw [if_neg fitted]
    have no : nipOpens s = false := by unfold nipOpens; simp [fitted]
    unfold openedLam nipAfterOpen
    rw [Bool.not_eq_true] at fitted
    rw [no, fitted]; rfl

/-- After a command to open no dwell runs (R162). -/
theorem dwellRuns_of_opened {s u : State} (lam : u.lam = openedLam s) (straps : u.straps = s.straps) : u.dwellRuns = false := by
  unfold State.dwellRuns
  rw [straps]
  by_cases fitted : s.straps.laminator = true
  · have open' : u.lam.nip ≠ .closed := by
      rw [lam]
      show nipAfterOpen s ≠ _
      unfold nipAfterOpen nipOpens
      cases nip : s.lam.nip <;> cases s.inputs.nipOpen <;> simp [fitted]
    simp [open']
  · simp [fitted]

/-! ### The station and the outfeed at a fault -/

/-- The station's cycle after a fault (R116, R118, R125). -/
def cycleAfterFault : Cycle → Cycle
  | .approach => .idle
  | .correct => .paused
  | .preparing => .paused
  | c => c

/-- The queue after a fault (R116, R118, R125). -/
def queueAfterFault (s : State) : List Entry :=
  if s.station.cycle = .approach then firstSet true .pending s.planner.queue
  else if s.station.cycle = .correct ∨ s.station.cycle = .preparing then firstSet true .settling s.planner.queue
  else s.planner.queue

theorem setEntry_eq (e : EntryState) (s : State) : setEntry e s = { s with planner := { s.planner with queue := firstSet true e s.planner.queue } } := by
  unfold setEntry updFirst
  cases queue : s.planner.queue with
  | nil => rw [← queue]; unfold firstSet; rw [queue]; exact congrArg (fun q => { s with planner := { s.planner with queue := q } }) queue
  | cons d q => rfl

theorem stationFault_eq (s : State) : stationFault s = { s with
    station := { s.station with cycle := cycleAfterFault s.station.cycle }, planner := { s.planner with queue := queueAfterFault s } } := by
  unfold stationFault queueAfterFault
  by_cases approach : s.station.cycle = .approach
  · have ended : endApproach s = setCycle .idle (setEntry .pending s) := if_pos approach
    rw [ended, setEntry_eq, if_pos approach, approach]
    exact if_neg (not_or.mpr ⟨nofun, nofun⟩)
  · have stays : endApproach s = s := if_neg approach
    rw [stays, if_neg approach]
    unfold pauseSequence
    by_cases pauses : s.station.cycle = .correct ∨ s.station.cycle = .preparing
    · rw [if_pos pauses, if_pos pauses, setEntry_eq]
      rcases pauses with cycle | cycle <;> rw [cycle] <;> rfl
    · rw [if_neg pauses, if_neg pauses]
      have same : cycleAfterFault s.station.cycle = s.station.cycle := by
        cases cycle : s.station.cycle <;> simp_all [cycleAfterFault]
      rw [same]

/-- The outfeed after a fault (R144). -/
def outfeedAfterFault : Outfeed → Outfeed
  | .moving m => .moving (stopNow m m.owner false)
  | _ => .stopped

theorem outfeedFault_eq (s : State) : outfeedFault s = { s with drives := { s.drives with outfeed := outfeedAfterFault s.drives.outfeed } } := by
  unfold outfeedFault
  cases outfeed : s.drives.outfeed with
  | stopped => exact congrArg (fun o => { s with drives := { s.drives with outfeed := o } }) outfeed
  | _ => rfl

/-! ### A fault taken -/

/-- A line that enters FAULTED, with what the other blocks make of it (R178). -/
def faulted (c : FaultCause) (s : State) : State :=
  { s with
    line := { state := .faulted, stop := none, firstFault := some ⟨c, s.p1, s.p2⟩, resume := some (resumeFrom s.line.state) }
    station := { s.station with cycle := cycleAfterFault s.station.cycle }
    planner := { s.planner with queue := queueAfterFault s }
    drives := { s.drives with outfeed := outfeedAfterFault s.drives.outfeed }
    lam := openedLam s }

theorem enterFaulted_eq (c : FaultCause) (s : State) : enterFaulted c s = faulted c s := by
  unfold enterFaulted
  dsimp only
  rw [stationFault_eq, outfeedFault_eq, commandOpen_eq]
  rfl

theorem cycleAfterFault_rests (c : Cycle) : cycleAfterFault c ≠ .preparing := by cases c <;> exact nofun

/-- Where the line does not feed, the station neither idle with work nor preparing does nothing of itself. -/
theorem pumpStep_of_rest {s : State} (feeding : s.feeding = false) (cycle : s.station.cycle ≠ .preparing) : pumpStep s = none :=
  (pumpStep_eq_none_iff s).mpr ⟨fun _ x => Bool.false_ne_true (feeding.symm.trans x.2), fun preparing => absurd preparing cycle⟩

/-- The end of the event in which the line enters FAULTED. -/
theorem finish_faulted {old u : State} {c : FaultCause} (running : old.line.state ≠ .faulted) :
    finish old (faulted c u) =
      attnUpdate (queueEvent (faulted c u).line.event { faulted c u with
        drives := { (faulted c u).drives with infeedRef := 0 }
        lam := { (faulted c u).lam with dwell := none, idle := none }
        watches := { u.watches with starve := none } }) := by
  have feeding : (faulted c u).feeding = false := rfl
  have rests : pumpStep (faulted c u) = none := pumpStep_of_rest feeding (cycleAfterFault_rests _)
  have dwell : (infeedUpdate (faulted c u)).dwellAfter = none := if_neg (by
    rw [dwellRuns_of_opened (s := u) (u := infeedUpdate (faulted c u)) rfl rfl]; exact nofun)
  have idle : (faulted c u).idleAfter = none := if_neg (by
    unfold State.idleRuns
    show ¬ (_ && decide (LineState.faulted = .holding ∨ LineState.faulted = .threaded) && _) = true
    simp)
  rw [finish_of_not_feeding feeding rests rfl]
  refine congrArg attnUpdate ?_
  rw [lineUpdate_of_changed (old := old) fun same => running same.symm]
  unfold levelled
  rw [dwell, idle, infeedReference_of_not_feeding feeding, starveAfter_of_not_feeding feeding]
  rfl

theorem resumeFrom_eq (l : LineState) : resumeFrom l = if l = .running ∨ l = .stopping then .holding else l := by cases l <;> rfl

/-- A link that has been told something: its events, the lost marker and ATTN apart, it is as it was. -/
def ToldOnly (k l : Link) : Prop := { l with events := k.events, eventsLost := k.eventsLost, attn := k.attn } = k

theorem ToldOnly.trans {k l m : Link} (h : ToldOnly k l) (g : ToldOnly l m) : ToldOnly k m := by
  unfold ToldOnly at *
  rw [← g] at h
  exact h

theorem toldOnly_queueEvent (e : Event) (s : State) : ToldOnly s.link (queueEvent e s).link := by
  unfold queueEvent; split <;> rfl

/-- The state after the event in which a fault is taken. -/
def faultEnded (c : FaultCause) (u : State) (l : Link) : State :=
  { faulted c u with
    drives := { (faulted c u).drives with infeedRef := 0 }
    lam := { (faulted c u).lam with dwell := none, idle := none }
    watches := { u.watches with starve := none }
    link := l }

/-- The event in which a fault is taken, but for what it tells the host. -/
theorem finish_raiseFault {old u : State} (c : FaultCause) (line : u.line.state = old.line.state)
    (running : ¬ (u.line.state = .faulted ∨ u.line.state = .eStopped)) : ∃ l, finish old (raiseFault c u) = faultEnded c u l
      ∧ ToldOnly u.link l
      ∧ (u.link.events.length ≤ 62 → l.events = u.link.events ++ [.fault c true u.p1 u.p2, (faulted c u).line.event]) := by
  have act : raiseFault c u = faulted c (queueEvent (.fault c true u.p1 u.p2) u) := (if_neg running).trans (enterFaulted_eq _ _)
  have first := toldOnly_queueEvent (.fault c true u.p1 u.p2) u
  have events := queueEvent_events (.fault c true u.p1 u.p2) u
  rw [act, finish_faulted fun x => running (.inl (line.trans x)), queueEvent_eq (.fault c true u.p1 u.p2) u]
  generalize (queueEvent (.fault c true u.p1 u.p2) u).link = k at first events
  refine ⟨_, congrArg attnUpdate (queueEvent_eq _ _), ?_, fun room => ?_⟩
  · exact first.trans (toldOnly_queueEvent _ _)
  · rw [if_pos (by omega)] at events
    refine (queueEvent_events _ _).trans ?_
    show k.events ++ (if k.events.length < 64 then _ else _) = _
    rw [events, if_pos (by rw [List.length_append]; exact Nat.lt_of_le_of_lt (Nat.add_le_add_right room 1) (by decide)), List.append_assoc]
    rfl

/-- A fault raised on a line that was not FAULTED or E_STOPPED is taken (R178, R179). -/
theorem faultTaken {old u : State} (c : FaultCause) (line : u.line.state = old.line.state) (running : ¬ (u.line.state = .faulted ∨ u.line.state = .eStopped)) :
    FaultTaken c u (finish old (raiseFault c u)) := by
  obtain ⟨l, ended, quiet, events⟩ := finish_raiseFault (old := old) c line running
  rw [ended]
  exact {
    line := congrArg (fun r => ({ state := .faulted, stop := none, firstFault := some ⟨c, u.p1, u.p2⟩, resume := some r } : LineBlock)) (resumeFrom_eq _)
    infeed := rfl
    outfeed := by show outfeedAfterFault _ = _; cases u.drives.outfeed <;> rfl
    cycle := by show cycleAfterFault _ = _; cases u.station.cycle <;> rfl
    queue := rfl
    station := rfl
    starve := rfl
    nip := rfl
    nipTimer := rfl
    commandClose := rfl
    reclose := rfl
    timers := ⟨rfl, rfl⟩
    events := events
    kept := ⟨⟨rfl, rfl⟩, rfl, rfl, rfl, rfl, ⟨rfl, rfl, rfl⟩, ⟨rfl, rfl⟩, rfl, rfl, rfl, ⟨rfl, rfl, rfl, rfl⟩, ⟨rfl, rfl, rfl, rfl⟩, rfl, rfl, rfl, rfl, rfl, quiet⟩ }

/-- A fault raised on a line FAULTED or E_STOPPED is noted (R179). -/
theorem faultNoted {old u : State} (c : FaultCause) (h : Settled u) (line : u.line = old.line) (noted : u.line.state = .faulted ∨ u.line.state = .eStopped) :
    FaultNoted c u (finish old (raiseFault c u)) := by
  have act : raiseFault c u = queueEvent (.fault c false u.p1 u.p2) u := if_pos noted
  have rests (x : State) (same : x.line = u.line) : x.freeCond = false := by
    refine freeCond_of_not_feeding ?_
    unfold State.feeding LineBlock.feeding; rw [same]
    rcases noted with state | state <;> rw [state]
  unfold FaultNoted
  rw [act, queueEvent_eq]
  refine finish_of_settled_attn ?_ line ?_
  · exact h.linked _
  · rw [rests old line.symm]; exact rests _ rfl

/-- A fault raised by an event that leaves a settled state settled and the line as it was. -/
theorem faultRaised {old u : State} (c : FaultCause) (h : Settled u) (line : u.line = old.line) : FaultRaised c u (finish old (raiseFault c u)) := by
  unfold FaultRaised
  split
  · rename_i noted; exact faultNoted c h line noted
  · rename_i running; exact faultTaken c (by rw [line]) running

/-! ### Encoder faults (R26, R27) -/

theorem FaultRaised.rolls {c : FaultCause} {s t : State} (h : FaultRaised c s t) : t.roll1 = s.roll1 ∧ t.roll2 = s.roll2 := by
  unfold FaultRaised at h
  split at h
  · unfold FaultNoted at h; rw [h, queueEvent_eq]; exact ⟨rfl, rfl⟩
  · exact h.kept.rolls

/-- A transition that both channels make at once is illegal (R26). -/
theorem transition_of_illegal (r : Roll) (a b : Bool) (s : State) : transition r (a, b) (!a, !b) s = encoderFault r s := by
  cases a <;> cases b <;> rfl

/-- What leads a count nowhere: a legal step beyond its limit, or an illegal transition. -/
def StepBlocked (old new : Bool × Bool) (count : Int) : Prop :=
  (new = nextPair old ∧ count = 549755813887) ∨ (nextPair new = old ∧ count = -549755813887) ∨ (new.1 = !old.1 ∧ new.2 = !old.2)

theorem transition_of_blocked {r : Roll} {old new : Bool × Bool} {s : State} (h : StepBlocked old new (s.roll r).count) :
    transition r old new s = encoderFault r s := by
  have beyond {d : Int} (h : 549755813887 < ((s.roll r).count + d).natAbs) : countStep r d s = encoderFault r s :=
    if_neg (by unfold countLimit; omega)
  rcases h with ⟨step, limit⟩ | ⟨step, limit⟩ | ⟨first, second⟩
  · rw [transition_of_step r (d := 1) (.inl ⟨step, rfl⟩)]; exact beyond (by omega)
  · rw [transition_of_step r (d := -1) (.inr ⟨step, rfl⟩)]; exact beyond (by omega)
  · obtain ⟨a, b⟩ := old
    obtain ⟨a', b'⟩ := new
    cases first; cases second
    exact transition_of_illegal r a b s

theorem exec_encoderStep_blocked {s : State} (h : Settled s) {r : Roll} {a b : Bool} (blocked : StepBlocked (s.inputs.channels r) (a, b) (s.roll r).count) :
    exec (.encoderStep r a b) s = .next (finish s (encoderFault r { s with inputs := setChannels r a b s.inputs })) := by
  rw [exec_encoderStep r a b h.running, transition_of_blocked]
  cases r <;> exact blocked

/-- The unit after an encoder fault's own rule (R26). -/
def encoderFaulty (r : Roll) (a b : Bool) (s : State) : State :=
  setRoll r { s.roll r with fault := true } { s with inputs := setChannels r a b s.inputs }

theorem settled_encoderFaulty {s : State} (h : Settled s) (r : Roll) (a b : Bool) : Settled (encoderFaulty r a b s) := by
  cases r <;> exact h.congr rfl rfl rfl rfl rfl rfl rfl rfl rfl rfl rfl (h.attn.congr rfl rfl rfl rfl rfl rfl)

theorem exec_encoderStep_unthreaded {s : State} (h : Settled s) {r : Roll} {a b : Bool} (off : s.line.state = .unthreaded)
    (blocked : StepBlocked (s.inputs.channels r) (a, b) (s.roll r).count) :
    exec (.encoderStep r a b) s = .next { s with inputs := setChannels r a b s.inputs } := by
  rw [exec_encoderStep_blocked h blocked]
  refine congrArg Host.Outcome.next ((congrArg (finish s) (if_pos off)).trans ?_)
  exact finish_of_settled (h.congr rfl rfl rfl rfl rfl rfl rfl rfl rfl rfl rfl (h.attn.congr rfl rfl rfl rfl rfl rfl)) rfl rfl

theorem exec_encoderStep_faulty {s : State} (h : Settled s) {r : Roll} {a b : Bool} (on : s.line.state ≠ .unthreaded)
    (blocked : StepBlocked (s.inputs.channels r) (a, b) (s.roll r).count) :
    ∃ t, exec (.encoderStep r a b) s = .next t ∧ FaultRaised (encoderCause r) (encoderFaulty r a b s) t := by
  refine ⟨_, (exec_encoderStep_blocked h blocked).trans (congrArg Host.Outcome.next (congrArg (finish s) (if_neg on))), ?_⟩
  cases r <;> exact faultRaised _ (settled_encoderFaulty h _ a b) rfl

/-- Settles O31. -/
theorem countStopsAtLimit : Obligations.CountStopsAtLimit := by
  intro s a b h
  obtain ⟨back1, back2⟩ := encoderStepMovesRoll s a b (-1) h
  obtain ⟨on1, on2⟩ := encoderStepMovesRoll s a b 1 h
  refine ⟨fun blocked => ?_, fun step limit => ?_, fun step limit => ?_, fun blocked => ?_, fun step limit => ?_, fun step limit => ?_⟩
  · by_cases off : s.line.state = .unthreaded
    · exact ⟨_, exec_encoderStep_unthreaded (r := .e1) h off blocked, rfl, rfl, by rw [if_pos off]; rfl⟩
    · obtain ⟨t, act, raised⟩ := exec_encoderStep_faulty (r := .e1) h off blocked
      refine ⟨t, act, by rw [raised.rolls.1]; rfl, by rw [raised.rolls.1]; rfl, ?_⟩
      rw [if_neg off]
      exact ⟨by rw [raised.rolls.1]; rfl, raised⟩
  · exact ⟨_, back1 (.inr ⟨step, rfl⟩) (by omega), by show s.roll1.count + -1 = _; omega⟩
  · exact ⟨_, on1 (.inl ⟨step, rfl⟩) (by omega), by show s.roll1.count + 1 = _; omega⟩
  · by_cases off : s.line.state = .unthreaded
    · exact ⟨_, exec_encoderStep_unthreaded (r := .e2) h off blocked, rfl, rfl, by rw [if_pos off]; rfl⟩
    · obtain ⟨t, act, raised⟩ := exec_encoderStep_faulty (r := .e2) h off blocked
      refine ⟨t, act, by rw [raised.rolls.2]; rfl, by rw [raised.rolls.2]; rfl, ?_⟩
      rw [if_neg off]
      exact ⟨by rw [raised.rolls.2]; rfl, raised⟩
  · exact ⟨_, back2 (.inr ⟨step, rfl⟩) (by omega), by show s.roll2.count + -1 = _; omega⟩
  · exact ⟨_, on2 (.inl ⟨step, rfl⟩) (by omega), by show s.roll2.count + 1 = _; omega⟩

end Sys2Proof.Machine
end

section
/-!
Events that leave the station, the planner, the line and the outfeed alone, but may feed and close the nip (`Unmoved`): the close command and the reclosure's point (R159 to R161),
the infeed (R136), the dwell and idle timers (R158, R162). The laminator's confirms and timers.
-/
namespace Sys2Proof.Machine

/-! ### A point added -/

theorem addPoint_frame (k : PointKind) (pos : Int) (s : State) : ∃ x l, addPoint k pos s = { s with reg := x, link := l } := by
  unfold addPoint
  repeat' split
  · exact ⟨_, _, rfl⟩
  · exact ⟨_, s.link, rfl⟩
  · exact ⟨_, _, applyReg_eq _ _⟩
  · exact ⟨_, _, rfl⟩

theorem addPoint_told {s : State} (ordered : PointsOrdered s) (k : PointKind) (pos : Int) : ∃ l, addPoint k pos s = { s with reg := pointAdded k pos s.reg, link := l }
    ∧ (s.link.events.length ≤ 62 → pointTold pos s.reg l.events) := by
  refine ⟨_, (addPoint_eq ordered k pos).trans (queueEvents_eq _ _), fun room => pointTold_of_subset fun e he => ?_⟩
  have short := pointEvents_length pos s.reg
  rw [queueEvents_of_room (by show s.link.events.length + _ ≤ 64; omega)]
  exact List.mem_append_right _ he

/-! ### The close command -/

/-- The laminator after a command to close, given to a nip OPEN or OPENING (R159, R161). -/
def closedLam (s : State) : Laminator :=
  { s.lam with
    nip := if s.inputs.nipClosed then .closed else .closing
    commandClose := true
    nipTimer := if s.inputs.nipClosed then none else some ⟨s.now, s.workNat .nipTimeout⟩
    reclose := !s.inputs.nipClosed && s.lam.reclose }

/-- A closure that the reclose record remembers comes to the Disturbance List (R161). -/
theorem confirmNip_closed {s : State} (nip : s.lam.nip = .closing) (active : s.inputs.nipClosed = true) (ordered : PointsOrdered s) : ∃ l,
    confirmNip s = { s with
      lam := { s.lam with nip := .closed, nipTimer := none, reclose := false }
      reg := if s.lam.reclose = true then pointAdded .nipReclose (s.p1 - s.work .dNip) s.reg else s.reg
      link := l }
    ∧ (s.lam.reclose = true → s.link.events.length ≤ 62 → pointTold (s.p1 - s.work .dNip) s.reg l.events) := by
  have act : confirmNip s = if s.lam.reclose then addPoint .nipReclose (s.p1 - s.work .dNip) (updLam (fun l => { l with nip := .closed, nipTimer := none, reclose := false }) s)
      else updLam (fun l => { l with nip := .closed, nipTimer := none, reclose := false }) s := by
    unfold confirmNip; rw [nip]; exact if_pos active
  by_cases reclose : s.lam.reclose = true
  · obtain ⟨l, added, told⟩ := addPoint_told (s := updLam (fun l => { l with nip := .closed, nipTimer := none, reclose := false }) s) ordered .nipReclose (s.p1 - s.work .dNip)
    rw [act, if_pos reclose, if_pos reclose]
    exact ⟨l, added, fun _ => told⟩
  · rw [act, if_neg reclose, if_neg reclose]
    exact ⟨s.link, rfl, fun h => absurd h reclose⟩

theorem commandClose_eq {s : State} (nip : s.lam.nip = .opened ∨ s.lam.nip = .opening) (ordered : PointsOrdered s) : ∃ l,
    commandClose s = { s with
      lam := closedLam s
      reg := if s.inputs.nipClosed = true ∧ s.lam.reclose = true then pointAdded .nipReclose (s.p1 - s.work .dNip) s.reg else s.reg
      link := l }
    ∧ (s.inputs.nipClosed = true → s.lam.reclose = true → s.link.events.length ≤ 62 → pointTold (s.p1 - s.work .dNip) s.reg l.events) := by
  have act : commandClose s = confirmNip (updLam (fun l => { l with
      nip := .closing, commandClose := true, nipTimer := some (s.startTimer (s.workNat .nipTimeout)) }) s) := by
    unfold commandClose
    rcases nip with nip | nip <;> rw [nip]
  unfold closedLam
  by_cases active : s.inputs.nipClosed = true
  · obtain ⟨l, closed, told⟩ := confirmNip_closed (s := updLam (fun l => { l with
      nip := .closing, commandClose := true, nipTimer := some (s.startTimer (s.workNat .nipTimeout)) }) s) rfl active ordered
    refine ⟨l, (act.trans closed).trans ?_, fun _ => told⟩
    simp only [active, true_and, if_true, Bool.not_true, Bool.false_and]
    rfl
  · rw [Bool.not_eq_true] at active
    refine ⟨s.link, act.trans ?_, fun h => absurd (active.symm.trans h) nofun⟩
    simp only [active, Bool.false_eq_true, false_and, if_false, Bool.not_false, Bool.true_and]
    exact if_neg (by rw [show State.inputs (updLam _ s) = s.inputs from rfl, active]; exact nofun)

/-! ### Feeding -/

/-- What the line would feed but for the laminator is the least of the other three allowances (R136). -/
theorem feedBesideNip_eq (s : State) : feedBesideNip s = min s.drives.setpoint (min s.loopAllowance s.lineAllowance) := by
  unfold feedBesideNip State.loopAllowance State.lineAllowance
  by_cases on : s.feeding = true ∧ (s.drives.webSeq = .none ∨ s.drives.webSeq = .feedingOut)
  · rw [if_pos on, if_pos on]
    cases s.loop.zone <;> simp only <;> omega
  · rw [if_neg on, if_neg on]; omega

theorem infeedReference_eq (s : State) : s.infeedReference = if s.lamReady = true then feedBesideNip s else 0 := by
  rw [feedBesideNip_eq]
  unfold State.infeedReference State.lamAllowance
  split <;> omega

/-- The close demand is that of a roller READY or OFF whose nip closes (R160). -/
theorem closeDemand_eq (s : State) : s.closeDemand = (decide (s.lam.heat = .ready ∨ s.lam.heat = .off) && nipCloses s) := by
  unfold State.closeDemand nipCloses
  rw [← feedBesideNip_eq, Bool.eq_iff_iff]
  have feeds : 0 < feedBesideNip s → s.feeding = true := by
    intro some
    by_contra none
    have : feedBesideNip s = 0 := if_neg fun h => none h.1
    omega
  simp only [Bool.and_eq_true, decide_eq_true_eq]
  tauto

/-! ### Events that move neither station, planner, line nor outfeed -/

structure Unmoved (s u : State) : Prop where
  station : u.station = s.station := by rfl
  planner : u.planner = s.planner := by rfl
  line : u.line = s.line := by rfl
  outfeed : u.drives.outfeed = s.drives.outfeed := by rfl

theorem closeUpdate_frame (s : State) : ∃ x y l, closeUpdate s = { s with lam := x, reg := y, link := l } := by
  have confirm (s : State) : ∃ x y l, confirmNip s = { s with lam := x, reg := y, link := l } := by
    unfold confirmNip
    repeat' split
    · obtain ⟨y, l, added⟩ := addPoint_frame .nipReclose (s.p1 - s.work .dNip) (updLam (fun l => { l with nip := .closed, nipTimer := none, reclose := false }) s)
      exact ⟨_, y, l, added⟩
    · exact ⟨_, s.reg, s.link, rfl⟩
    · exact ⟨_, _, _, rfl⟩
    · exact ⟨_, s.reg, s.link, rfl⟩
    · exact ⟨_, _, _, rfl⟩
    · exact ⟨_, _, _, rfl⟩
  unfold closeUpdate commandClose
  repeat' split
  · obtain ⟨x, y, l, e⟩ := confirm (updLam (fun l => { l with nip := .closing, commandClose := true, nipTimer := some (s.startTimer (s.workNat .nipTimeout)) }) s)
    exact ⟨x, y, l, e⟩
  · obtain ⟨x, y, l, e⟩ := confirm (updLam (fun l => { l with nip := .closing, commandClose := true, nipTimer := some (s.startTimer (s.workNat .nipTimeout)) }) s)
    exact ⟨x, y, l, e⟩
  · exact ⟨_, _, _, rfl⟩
  · exact ⟨_, _, _, rfl⟩

theorem bringUp_eq (u : State) : bringUp u = levelled (closeUpdate u) := by
  unfold bringUp
  rw [dwellUpdate_eq, idleUpdate_eq, starveUpdate_eq]
  rfl

theorem Unmoved.finish_eq {s u : State} (c : Unmoved s u) (h : Settled s) : finish s u = attnUpdate (levelled (closeUpdate u)) := by
  have stop : u.stopEnds = false := by
    rw [← h.stop]; unfold State.stopEnds State.feeding; rw [c.line, c.station, c.planner]
  have free : u.freeCond = s.freeCond := by unfold State.freeCond State.feeding; rw [c.line, c.station, c.planner]
  have line : (closeUpdate u).line = s.line := by
    obtain ⟨x, y, l, e⟩ := closeUpdate_frame u
    rw [e]; exact c.line
  unfold finish
  rw [pump_of_none _ (pumpStep_none_congr c.station c.planner c.line c.outfeed h.station), endStop_of_stands stop]
  have run : freeUpdate s u = u := by
    unfold freeUpdate; rw [if_neg]; rintro ⟨x, y, _⟩; rw [free] at x; exact y x
  rw [run, bringUp_eq]
  exact congrArg attnUpdate (lineUpdate_of_same (congrArg (·.state) line) (congrArg (·.stop) line))

/-- With no close demand only the levels are brought up. -/
theorem Unmoved.finish_open {s u : State} (c : Unmoved s u) (h : Settled s) (close : u.closeDemand = false) : finish s u = attnUpdate (levelled u) := by
  rw [c.finish_eq h, closeUpdate_of_none close]

/-! ### Levels that stand -/

theorem dwellAfter_of_stands {u : State} (h : u.lam.dwell.isSome = u.dwellRuns) : u.dwellAfter = u.lam.dwell := by
  unfold State.dwellAfter
  cases dwell : u.lam.dwell with
  | none => rw [dwell] at h; rw [← h]; rfl
  | some d => rw [dwell] at h; rw [← h]; rfl

theorem idleAfter_of_stands {u : State} (h : u.lam.idle.isSome = u.idleRuns) : u.idleAfter = u.lam.idle := by
  unfold State.idleAfter
  cases idle : u.lam.idle with
  | none => rw [idle] at h; rw [← h]; rfl
  | some d => rw [idle] at h; rw [← h]; rfl

theorem dwellAfter_of_not {u : State} (h : u.dwellRuns = false) : u.dwellAfter = none := if_neg (by rw [h]; exact nofun)
theorem idleAfter_of_not {u : State} (h : u.idleRuns = false) : u.idleAfter = none := if_neg (by rw [h]; exact nofun)

theorem lamReady_of_open {s : State} (fitted : s.straps.laminator = true) (nip : s.lam.nip ≠ .closed) : s.lamReady = false := by
  unfold State.lamReady; simp [fitted, nip]

theorem dwellRuns_of_open {s : State} (nip : s.lam.nip ≠ .closed) : s.dwellRuns = false := by unfold State.dwellRuns; simp [nip]

/-- A roller whose nip is not CLOSED stops the infeed, and no dwell runs. -/
theorem levelled_of_open {u : State} (fitted : u.straps.laminator = true) (nip : u.lam.nip ≠ .closed)
    (idle : u.lam.idle.isSome = u.idleRuns) (starve : u.starveAfter = u.watches.starve) :
    levelled u = { u with drives := { u.drives with infeedRef := 0 }, lam := { u.lam with dwell := none } } := by
  have infeed : u.infeedReference = 0 := by rw [infeedReference_eq, lamReady_of_open fitted nip]; rfl
  have dwell : (infeedUpdate u).dwellAfter = none := dwellAfter_of_not (dwellRuns_of_open nip)
  unfold levelled
  rw [infeed, dwell, idleAfter_of_stands idle, starve]

/-! ### The nip's confirms (R159, R161) -/

theorem exec_nipConfirm {s : State} (h : Settled s) (fitted : s.straps.laminator = true) (i : NipInput) :
    exec (.nipConfirm i) s = .next (finish s (confirmNip { s with inputs := setNipInput i true s.inputs })) :=
  congrArg Host.Outcome.next ((inputEvent_of_running h.running _ _).trans (congrArg (finish s) (if_pos fitted)))

theorem exec_nipConfirmLost {s : State} (h : Settled s) (fitted : s.straps.laminator = true) (i : NipInput) :
    exec (.nipConfirmLost i) s = .next (finish s (springNip i { s with inputs := setNipInput i false s.inputs })) :=
  congrArg Host.Outcome.next ((inputEvent_of_running h.running _ _).trans (congrArg (finish s) (if_pos fitted)))

/-- An event that leaves a fitted nip not CLOSED, and no demand to close it. -/
theorem finish_nip_open {s u : State} (h : Settled s) (c : Unmoved s u) (fitted : u.straps.laminator = true) (nip : u.lam.nip ≠ .closed)
    (close : u.closeDemand = false) (idle : u.lam.idle.isSome = u.idleRuns) (starve : u.starveAfter = u.watches.starve) (attn : AttnFollows u) :
    finish s u = { u with drives := { u.drives with infeedRef := 0 }, lam := { u.lam with dwell := none } } := by
  rw [c.finish_open h close, levelled_of_open fitted nip idle starve]
  exact attnUpdate_of_follows (attn.congr rfl rfl rfl rfl rfl rfl)

theorem Settled.dwell_none {s : State} (h : Settled s) (nip : s.lam.nip ≠ .closed) : s.lam.dwell = none := by
  have none := h.dwell
  rw [dwellRuns_of_open nip] at none
  exact Option.isSome_eq_false_iff.mp none |> Option.isNone_iff_eq_none.mp

theorem Settled.infeed_of_open {s : State} (h : Settled s) (fitted : s.straps.laminator = true) (nip : s.lam.nip ≠ .closed) : s.drives.infeedRef = 0 := by
  rw [h.infeed, infeedReference_eq, lamReady_of_open fitted nip]; rfl

/-- Settles O42. -/
theorem nipConfirms : Obligations.NipConfirms := by
  intro s h fitted timer
  refine ⟨fun nip ordered => ?_, fun nip => ?_, fun nip => ?_, fun nip => ?_⟩
  · obtain ⟨l, closed, told⟩ := confirmNip_closed (s := { s with inputs := { s.inputs with nipClosed := true } }) nip rfl ordered
    have close : State.closeDemand { s with
        inputs := { s.inputs with nipClosed := true }
        lam := { s.lam with nip := .closed, nipTimer := none, reclose := false }
        reg := if s.lam.reclose = true then pointAdded .nipReclose (s.p1 - s.work .dNip) s.reg else s.reg
        link := l } = false := by
      unfold State.closeDemand; simp
    refine ⟨_, (exec_nipConfirm h fitted .nipClosed).trans (congrArg Host.Outcome.next ((congrArg (finish s) closed).trans (Unmoved.finish_open {} h close))), ?_⟩
    exact ⟨rfl, rfl, rfl, rfl, rfl, told, rfl, rfl, rfl, rfl, ⟨rfl, rfl, rfl, rfl, rfl, rfl, rfl, ⟨rfl, rfl⟩, rfl⟩⟩
  · have confirmed : confirmNip { s with inputs := { s.inputs with nipOpen := true } } = { s with
        inputs := { s.inputs with nipOpen := true }, lam := { s.lam with nip := .opened, nipTimer := none } } := by
      unfold confirmNip; dsimp only; rw [nip]; rfl
    have apart : s.lam.nip ≠ .closed := by rw [nip]; exact nofun
    rw [exec_nipConfirm h fitted]
    refine congrArg Host.Outcome.next ((congrArg (finish s) confirmed).trans ((finish_nip_open h ?_ ?_ ?_ ?_ ?_ ?_ ?_).trans ?_))
    · exact {}
    · exact fitted
    · exact nofun
    · refine Eq.trans ?_ h.close
      unfold State.closeDemand; rw [nip]; rfl
    · exact h.idle
    · exact starveAfter_congr (s := s) h
    · exact h.attn.congr rfl rfl rfl rfl rfl rfl
    · rw [← h.infeed_of_open fitted apart, ← h.dwell_none apart]
  · have sprung : springNip .nipClosed { s with inputs := { s.inputs with nipClosed := false } } = { s with
        inputs := { s.inputs with nipClosed := false }, lam := { s.lam with nip := .closing, nipTimer := timer, reclose := true } } := by
      unfold springNip; dsimp only; rw [nip]; rfl
    rw [exec_nipConfirmLost h fitted]
    refine congrArg Host.Outcome.next ((congrArg (finish s) sprung).trans (finish_nip_open h ?_ ?_ ?_ ?_ ?_ ?_ ?_))
    · exact {}
    · exact fitted
    · exact nofun
    · unfold State.closeDemand; simp
    · exact h.idle
    · exact starveAfter_congr (s := s) h
    · exact h.attn.congr rfl rfl rfl rfl rfl rfl
  · have sprung : springNip .nipOpen { s with inputs := { s.inputs with nipOpen := false } } = { s with
        inputs := { s.inputs with nipOpen := false }, lam := { s.lam with nip := .opening, nipTimer := timer } } := by
      unfold springNip; dsimp only; rw [nip]; rfl
    have apart : s.lam.nip ≠ .closed := by rw [nip]; exact nofun
    rw [exec_nipConfirmLost h fitted]
    refine congrArg Host.Outcome.next ((congrArg (finish s) sprung).trans ((finish_nip_open h ?_ ?_ ?_ ?_ ?_ ?_ ?_).trans ?_))
    · exact {}
    · exact fitted
    · exact nofun
    · refine Eq.trans ?_ h.close
      unfold State.closeDemand; rw [nip]; rfl
    · exact h.idle
    · exact starveAfter_congr (s := s) h
    · exact h.attn.congr rfl rfl rfl rfl rfl rfl
    · rw [← h.infeed_of_open fitted apart, ← h.dwell_none apart]

end Sys2Proof.Machine
end

section
/-!
The faults of the drives, the devices and the knife (R123, R128, R132, R138, R143, R144, R159).
-/
namespace Sys2Proof.Machine

/-! ### What a fault raised keeps -/

theorem FaultRaised.outside {c : FaultCause} {s t : State} (h : FaultRaised c s t) : t.now = s.now ∧ t.inputs = s.inputs := by
  unfold FaultRaised at h
  split at h
  · unfold FaultNoted at h; rw [h, queueEvent_eq]; exact ⟨rfl, rfl⟩
  · exact ⟨h.kept.outside.2.1, h.kept.outside.2.2.1⟩

theorem FaultRaised.timeoutFlag {c : FaultCause} {s t : State} (h : FaultRaised c s t) : t.drives.timeoutFlag = s.drives.timeoutFlag := by
  unfold FaultRaised at h
  split at h
  · unfold FaultNoted at h; rw [h, queueEvent_eq]; rfl
  · exact congrArg (·.timeoutFlag) h.kept.drives

/-- A fault leaves of the station all but its cycle. -/
theorem FaultRaised.station {c : FaultCause} {s t : State} (h : FaultRaised c s t) : { t.station with cycle := s.station.cycle } = s.station := by
  unfold FaultRaised at h
  split at h
  · unfold FaultNoted at h; rw [h, queueEvent_eq]; rfl
  · exact h.station

/-! ### Events that raise a fault -/

/-- A fault raised by an event that leaves the line as it was, and a state settled where that line has stopped. -/
theorem faultRaised_of_halted {old u : State} (c : FaultCause) (line : u.line = old.line)
    (settled : u.line.state = .faulted ∨ u.line.state = .eStopped → Settled u) : FaultRaised c u (finish old (raiseFault c u)) := by
  unfold FaultRaised
  split
  · rename_i noted; exact faultNoted c (settled noted) line noted
  · rename_i running; exact faultTaken c (by rw [line]) running

theorem inputEvent_raises {s : State} (h : Settled s) {c : FaultCause} (level : Inputs → Inputs) :
    ∃ t, inputEvent level (raiseFault c) s = t ∧ t.inputs = level s.inputs ∧ FaultRaised c { s with inputs := level s.inputs } t := by
  have raised : FaultRaised c { s with inputs := level s.inputs } (finish s (raiseFault c { s with inputs := level s.inputs })) :=
    faultRaised c (h.inputs _) rfl
  exact ⟨_, inputEvent_of_running h.running _ _, raised.outside.2, raised⟩

/-- A timer's end that raises a fault out of `u`. -/
theorem timerEvent_raises {s u : State} (h : Settled s) {c : FaultCause} {k : Timer} {f : State → State}
    (act : f (reachTime k.start k.limit s) = raiseFault c u) (line : u.line = s.line)
    (settled : s.line.state = .faulted ∨ s.line.state = .eStopped → Settled u) : ∃ t, timerEvent (some k) f s = t ∧ FaultRaised c u t := by
  have ran : timerEvent (some k) f s = finish s (f (reachTime k.start k.limit s)) :=
    event_of_running (f := fun s => f (reachTime k.start k.limit s)) h.running
  refine ⟨finish s (raiseFault c u), by rw [ran, act], faultRaised_of_halted c line fun halted => settled ?_⟩
  rwa [line] at halted

/-! ### States that stay settled -/

theorem Settled.reach {s : State} (h : Settled s) (n : Nat) : Settled { s with now := n } :=
  h.congr rfl rfl rfl rfl rfl rfl rfl rfl rfl rfl rfl (h.attn.congr rfl rfl rfl rfl rfl rfl)

/-- A change of the station that neither confirms a device nor brings the knife home. -/
theorem Settled.devices_change {s : State} (h : Settled s) (x : Station) (cycle : x.cycle = s.station.cycle) (gate : x.gate.confirmed = s.station.gate.confirmed)
    (blades : x.blades.all (·.confirmed) = s.station.blades.all (·.confirmed)) (knife : x.knife.atHome = true → s.station.knife.atHome = true) :
    Settled { s with station := x } := by
  obtain ⟨idle, preparing⟩ := (pumpStep_eq_none_iff s).mp h.station
  refine h.station_change x cycle ((pumpStep_eq_none_iff _).mpr ⟨fun c => idle (cycle.symm.trans c), fun c e current prepared => ?_⟩)
  have ready : s.prepared e = true := by
    refine Eq.trans ?_ prepared
    unfold State.prepared State.bladesConfirmed; dsimp only; rw [gate, blades]
  obtain ⟨lane, waits⟩ := preparing (cycle.symm.trans c) e current ready
  refine ⟨lane, ?_⟩
  rw [← Bool.not_eq_true] at waits ⊢
  unfold State.mayTraverse at waits ⊢
  simp only [Bool.and_eq_true] at waits ⊢
  exact fun may => waits ⟨⟨knife may.1.1, may.1.2⟩, may.2⟩

/-- A change of the drives that leaves the outfeed MOVING, or not. -/
theorem Settled.drives_change {s : State} (h : Settled s) (x : Drives) (moving : ({ s with drives := x } : State).moving = s.moving)
    (setpoint : x.setpoint = s.drives.setpoint) (infeed : x.infeedRef = s.drives.infeedRef) (seq : x.webSeq = s.drives.webSeq)
    (base : x.starveBase = s.drives.starveBase) : Settled { s with drives := x } where
  running := h.running
  station := by
    obtain ⟨idle, preparing⟩ := (pumpStep_eq_none_iff s).mp h.station
    refine (pumpStep_eq_none_iff _).mpr ⟨idle, fun c e current prepared => ?_⟩
    obtain ⟨lane, waits⟩ := preparing c e current prepared
    refine ⟨lane, Eq.trans ?_ waits⟩
    unfold State.mayTraverse; rw [moving]; rfl
  stop := h.stop
  close := by
    refine Eq.trans ?_ h.close
    unfold State.closeDemand State.loopAllowance State.lineAllowance; dsimp only; rw [setpoint, seq]; rfl
  infeed := by
    refine infeed.trans (h.infeed.trans ?_)
    unfold State.infeedReference State.loopAllowance State.lineAllowance State.lamAllowance; dsimp only; rw [setpoint, seq]; rfl
  dwell := by
    refine h.dwell.trans ?_
    unfold State.dwellRuns; dsimp only; rw [infeed]
  idle := h.idle
  starve := by
    refine h.starve.trans ?_
    unfold State.starveLimit; dsimp only; rw [base]; rfl
  attn := h.attn

/-- On a line that has stopped, the station may be brought to rest. -/
theorem Settled.halted {s : State} (h : Settled s) (halted : s.line.state = .faulted ∨ s.line.state = .eStopped) (x : Station) (p : Planner)
    (rests : x.cycle ≠ .preparing) : Settled { s with station := x, planner := p } where
  running := h.running
  station := pumpStep_of_rest (by unfold State.feeding LineBlock.feeding; rcases halted with e | e <;> (dsimp only; rw [e])) rests
  stop := by unfold State.stopEnds; rcases halted with e | e <;> (dsimp only; rw [e]; rfl)
  close := h.close
  infeed := h.infeed
  dwell := h.dwell
  idle := h.idle
  starve := h.starve
  attn := h.attn

theorem all_confirmed_set {l : List Blade} {n : Nat} {b c : Blade} (at' : l[n]? = some b) (same : c.confirmed = b.confirmed) :
    (l.set n c).all (·.confirmed) = l.all (·.confirmed) := by
  induction l generalizing n with
  | nil => rfl
  | cons x l ih =>
    cases n with
    | zero => cases at'; simp [same]
    | succ n => simp only [List.set_cons_succ, List.all_cons]; rw [ih at']

/-! ### The knife's timer (R126, R128, R132) -/

theorem stopHoming_of_homing {s : State} {n m : Nat} (knife : s.station.knife = .homing) :
    stopHoming (if (reachTime n m s).station.knife.traversing then interruptTraverse (reachTime n m s) else reachTime n m s) = { s with
      now := max s.now (n + m), station := { s.station with knife := .unhomed, knifeTimer := none } } := by
  have rests : (reachTime n m s).station.knife.traversing = false := by show s.station.knife.traversing = _; rw [knife]; rfl
  rw [rests]
  exact if_pos knife

theorem interruptTraverse_of_current {s : State} {e : Entry} (current : s.current = some e) : interruptTraverse s = { s with
    planner := { s.planner with queue := firstSet true .settling s.planner.queue }
    station := { s.station with cycle := .paused, knife := .unhomed, knifeTimer := none, recut := true } } := by
  have same : State.current { s with station := { s.station with knife := .unhomed, knifeTimer := none } } = some e := current
  unfold interruptTraverse
  dsimp only
  rw [same]
  dsimp only
  rw [setEntry_eq]
  rfl

theorem stopHoming_of_traversing {s : State} {n m : Nat} {e : Entry} (knife : s.station.knife = .traversingLR ∨ s.station.knife = .traversingRL)
    (current : s.current = some e) :
    stopHoming (if (reachTime n m s).station.knife.traversing then interruptTraverse (reachTime n m s) else reachTime n m s) = { s with
      now := max s.now (n + m)
      planner := { s.planner with queue := firstSet true .settling s.planner.queue }
      station := { s.station with cycle := .paused, knife := .unhomed, knifeTimer := none, recut := true } } := by
  have goes : (reachTime n m s).station.knife.traversing = true := by
    show s.station.knife.traversing = _
    rcases knife with knife | knife <;> rw [knife] <;> rfl
  rw [goes, if_pos rfl, interruptTraverse_of_current (s := reachTime n m s) current]
  exact if_neg nofun

/-- Settles O45. -/
theorem faultsRaised : Obligations.FaultsRaised := by
  intro s h at'
  refine ⟨fun off => ?_, fun off => ?_, fun m d outfeed deadline => ?_, fun k timer => ?_, fun n b k blade timer => ?_, fun k timer => ?_,
    fun k timer knife => ?_, fun k e timer knife cycle current => ?_⟩
  · obtain ⟨t, act, raised⟩ := inputEvent_raises h (c := .inDrive) (fun i => { i with inDrive := true })
    refine ⟨t, congrArg Host.Outcome.next (Eq.trans ?_ act), raised⟩
    rw [off]; rfl
  · obtain ⟨t, act, raised⟩ := inputEvent_raises h (c := .outDrive) (fun i => { i with outDrive := true })
    refine ⟨t, congrArg Host.Outcome.next (Eq.trans ?_ act), raised⟩
    rw [off]; rfl
  · have spent : moveTimedOut d s = raiseFault .moveTimeout { s with
        now := max s.now d, drives := { s.drives with outfeed := .moving { m with deadline := none }, timeoutFlag := true } } := by
      unfold moveTimedOut spendDeadline; dsimp only; rw [outfeed]; rfl
    have settled := (h.drives_change { s.drives with outfeed := .moving { m with deadline := none }, timeoutFlag := true }
      (by unfold State.moving; rw [outfeed]) rfl rfl rfl rfl).reach (max s.now d)
    have raised : FaultRaised .moveTimeout { s with
        now := max s.now d, drives := { s.drives with outfeed := .moving { m with deadline := none }, timeoutFlag := true } } (finish s (moveTimedOut d s)) := by
      rw [spent]
      exact faultRaised_of_halted (old := s) .moveTimeout rfl fun _ => settled
    have due : s.drives.outfeed.deadline = some d := by rw [outfeed]; exact deadline
    refine ⟨_, congrArg Host.Outcome.next ?_, raised.outside.1, raised.timeoutFlag, raised⟩
    rw [due]
    exact event_of_running h.running
  · obtain ⟨t, act, raised⟩ := timerEvent_raises h (c := .gateTimeout) (k := k) (f := gateTimedOut) (u := { s with
      now := at' k, station := { s.station with gate := { s.station.gate with timer := none } } }) rfl rfl fun _ =>
      (h.devices_change { s.station with gate := { s.station.gate with timer := none } } rfl rfl rfl id).reach _
    refine ⟨t, congrArg Host.Outcome.next ?_, raised.outside.1, congrArg (·.gate) raised.station, raised⟩
    rw [timer]; exact act
  · have same : s.station.blades.modify n.val (fun b => { b with timer := none }) = s.station.blades.set n.val { b with timer := none } := by
      rw [List.modify_eq_set_getElem?, blade]; rfl
    obtain ⟨t, act, raised⟩ := timerEvent_raises h (c := .bladeTimeout) (k := k) (f := bladeTimedOut n) (u := { s with
      now := at' k, station := { s.station with blades := s.station.blades.set n.val { b with timer := none } } }) (by rw [← same]; rfl) rfl fun _ =>
      (h.devices_change { s.station with blades := s.station.blades.set n.val { b with timer := none } } rfl rfl (all_confirmed_set blade rfl) id).reach _
    refine ⟨t, congrArg Host.Outcome.next ?_, raised.outside.1, congrArg (·.blades) raised.station, raised⟩
    rw [blade, Option.bind_some, timer]; exact act
  · obtain ⟨t, act, raised⟩ := timerEvent_raises h (c := .nipTimeout) (k := k) (f := nipTimedOut) (u := { s with
      now := at' k, lam := { s.lam with nipTimer := none } }) rfl rfl fun _ =>
      ⟨h.running, pumpStep_none_congr (s := s) rfl rfl rfl rfl h.station, h.stop, h.close, h.infeed, h.dwell, h.idle, h.starve, h.attn⟩
    refine ⟨t, congrArg Host.Outcome.next ?_, raised.outside.1, raised⟩
    rw [timer]; exact act
  · obtain ⟨t, act, raised⟩ := timerEvent_raises h (c := .knifeTimeout) (k := k) (f := knifeTimedOut) (u := { s with
      now := at' k, station := { s.station with knife := .unhomed, knifeTimer := none } })
      (congrArg (raiseFault .knifeTimeout) (stopHoming_of_homing knife)) rfl fun _ =>
      (h.devices_change { s.station with knife := .unhomed, knifeTimer := none } rfl rfl rfl nofun).reach _
    refine ⟨t, congrArg Host.Outcome.next ?_, raised.outside.1, congrArg (·.knife) raised.station, congrArg (·.knifeTimer) raised.station, raised⟩
    rw [timer]; exact act
  · obtain ⟨t, act, raised⟩ := timerEvent_raises h (c := .knifeTimeout) (k := k) (f := knifeTimedOut) (u := { s with
      now := at' k, planner := { s.planner with queue := firstSet true .settling s.planner.queue }
      station := { s.station with cycle := .paused, knife := .unhomed, knifeTimer := none, recut := true } })
      (congrArg (raiseFault .knifeTimeout) (stopHoming_of_traversing knife current)) rfl fun halted =>
      (h.halted halted { s.station with cycle := .paused, knife := .unhomed, knifeTimer := none, recut := true } _ nofun).reach _
    refine ⟨t, congrArg Host.Outcome.next ?_, raised.outside.1, congrArg (·.knife) raised.station, congrArg (·.knifeTimer) raised.station,
      congrArg (·.recut) raised.station, raised⟩
    rw [timer]; exact act

end Sys2Proof.Machine
end

section
/-!
Stops (R169 to R172): what leaving the feeding states makes of the outfeed and the station (R116, R142), how a stop begins and ends within its event.
-/
namespace Sys2Proof.Machine

/-! ### Leaving the feeding states -/

/-- The unit after its line has left the feeding states (R116, R142). -/
def left (s : State) : State :=
  { s with
    drives := { s.drives with outfeed := outfeedAfterLeaving s }
    station := { s.station with cycle := if s.station.cycle = .approach then .idle else s.station.cycle }
    planner := { s.planner with queue := firstSet (decide (s.station.cycle = .approach)) .pending s.planner.queue } }

theorem freeLeave_of_not_approach {s : State} (cycle : s.station.cycle ≠ .approach) :
    freeLeave s = { s with drives := { s.drives with outfeed := outfeedAfterLeaving s } } := by
  unfold freeLeave outfeedAfterLeaving
  rw [decide_eq_false cycle]
  cases outfeed : s.drives.outfeed with
  | stopped => dsimp only; rw [← outfeed]
  | moving m =>
    dsimp only
    split
    · rfl
    · rw [← outfeed]
  | held r =>
    cases r with
    | free => rfl
    | nothing => dsimp only; rw [← outfeed]
    | station p e => dsimp only; rw [← outfeed]

theorem leaveFeeding_eq (s : State) : leaveFeeding s = left s := by
  unfold leaveFeeding stationLeave left
  by_cases approach : s.station.cycle = .approach
  · rw [if_pos approach, if_pos approach, decide_eq_true approach]
    unfold outfeedAfterLeaving
    rw [decide_eq_true approach]
    cases outfeed : s.drives.outfeed with
    | stopped =>
      unfold endApproach
      rw [if_pos approach, setEntry_eq]
      unfold freeLeave
      simp only [setCycle_drives, outfeed]
      rw [← outfeed]; rfl
    | held r =>
      unfold endApproach
      rw [if_pos (by exact approach), setEntry_eq]
      rfl
    | moving m =>
      unfold endApproach
      rw [if_pos (by exact approach), setEntry_eq]
      unfold freeLeave
      simp only [setCycle_drives, setOutfeed_drives]
      split
      · rename_i free
        have owner : m.owner = .free := free
        rw [owner]; rfl
      · rfl
  · rw [if_neg approach, if_neg approach, decide_eq_false approach, freeLeave_of_not_approach approach]
    rfl

theorem moving_left (s : State) : (left s).moving = s.moving := by
  unfold left State.moving outfeedAfterLeaving
  dsimp only
  cases decide (s.station.cycle = .approach) with
  | true => cases s.drives.outfeed <;> rfl
  | false =>
    cases s.drives.outfeed with
    | stopped => rfl
    | moving m => dsimp only; by_cases owner : m.owner = .free <;> simp [owner]
    | held r => cases r <;> rfl

/-- A station that had nothing to do has nothing to do after its line has left the feeding states. -/
theorem pumpStep_left {s : State} (h : pumpStep s = none) (goes : s.continuing = true) {l : LineBlock} (off : l.feeding = false) :
    pumpStep (left { s with line := l }) = none := by
  obtain ⟨_, preparing⟩ := (pumpStep_eq_none_iff s).mp h
  refine (pumpStep_eq_none_iff _).mpr ⟨fun _ work => Bool.false_ne_true (off.symm.trans work.2), fun cycle e current prepared => ?_⟩
  have before : s.station.cycle = .preparing := by
    by_cases approach : s.station.cycle = .approach
    · have : (left { s with line := l }).station.cycle = .idle := if_pos approach
      rw [this] at cycle; exact absurd cycle nofun
    · have : (left { s with line := l }).station.cycle = s.station.cycle := if_neg approach
      exact this.symm.trans cycle
  have queue : (left { s with line := l }).planner.queue = s.planner.queue := by
    show firstSet (decide (s.station.cycle = .approach)) _ _ = _
    rw [before]; rfl
  have first : s.current = some e := by
    refine Eq.trans ?_ current
    unfold State.current; rw [queue]
  obtain ⟨lane, waits⟩ := preparing before e first prepared
  refine ⟨lane, ?_⟩
  rw [← Bool.not_eq_true] at waits ⊢
  unfold State.mayTraverse at waits ⊢
  simp only [Bool.and_eq_true] at waits ⊢
  rw [moving_left]
  exact fun may => waits ⟨may.1, goes⟩

/-! ### The end of an event that stops the line -/

/-- A stop that ends at once: the rest of the event goes on from where it ended. -/
theorem finish_of_endStop {old u v : State} (station : pumpStep u = none) (ends : endStop u = v) (rests : pumpStep v = none) (stands : v.stopEnds = false) :
    finish old u = finish old v := by
  unfold finish
  rw [pump_of_none _ station, ends, pump_of_none _ rests, endStop_of_stands stands]

/-- What a state keeps of `s` as the line stops, before the levels are brought up. -/
structure Left (s u : State) : Prop where
  outfeed : u.drives.outfeed = outfeedAfterLeaving s := by rfl
  setpoint : u.drives.setpoint = s.drives.setpoint := by rfl
  station : u.station = (left s).station := by rfl
  planner : u.planner = (left s).planner := by rfl
  lam : u.lam = s.lam := by rfl
  panels : u.panels = s.panels := by rfl
  reg : u.reg = s.reg := by rfl
  cursor2 : u.cursor2 = s.cursor2 := by rfl
  cursor1 : u.cursor1.state = s.cursor1.state ∧ u.cursor1.expect = s.cursor1.expect := by exact ⟨rfl, rfl⟩
  rest : u.loop = s.loop ∧ u.roll1 = s.roll1 ∧ u.roll2 = s.roll2 ∧ u.sampler = s.sampler ∧ u.cal = s.cal := by exact ⟨rfl, rfl, rfl, rfl, rfl⟩

theorem Left.stopped {s u : State} (h : Left s u) (feeding : u.feeding = false) (k : Link) : Stopped s { levelled u with link := k } where
  infeed := infeedReference_of_not_feeding feeding
  outfeed := h.outfeed
  setpoint := h.setpoint
  station := h.station
  planner := h.planner
  starve := starveAfter_of_not_feeding feeding
  lam := by
    unfold LamKept levelled; dsimp only; rw [h.lam]
  web := ⟨h.panels, h.reg, h.cursor2, h.cursor1⟩
  rest := h.rest

theorem finish_not_feeding_linked {old u : State} (feeding : u.feeding = false) (station : pumpStep u = none) (stop : u.stopEnds = false) :
    ∃ k, finish old u = { levelled u with link := k } := by
  rw [finish_of_not_feeding feeding station stop, lineUpdate_eq]
  exact ⟨_, rfl⟩

theorem restful_left (s : State) : (left s).station.cycle.restful = s.station.cycle.restful := by
  unfold left; dsimp only; cases s.station.cycle <;> rfl

/-- The end of an event in which a CONTROLLED stop begins (R169, R170). -/
theorem finish_controlled {old s u : State} {c : StopCause} (cause : c ≠ .webEnd) (rest : pumpStep u = none) (station : u.station = (left s).station)
    (line : u.line = { s.line with state := .stopping, stop := some ⟨.controlled, c⟩ }) :
    ∃ k, finish old u = { levelled { u with line := controlledLine c s } with link := k } := by
  have stopping : u.line.state = .stopping := by rw [line]
  have off : ¬ u.feeding = true := by unfold State.feeding LineBlock.feeding; rw [line]; exact nofun
  have restful : u.station.cycle.restful = s.station.cycle.restful := by rw [station, restful_left]
  by_cases rests : s.station.cycle = .idle ∨ s.station.cycle = .approach ∨ s.station.cycle = .paused
  · have ends : endStop u = { u with line := controlledLine c s } := by
      unfold endStop controlledLine
      rw [if_pos stopping, if_neg off, if_pos (restful.trans (decide_eq_true rests)), line, if_neg (by simpa using cause), if_pos rests]
      rfl
    have held : controlledLine c s = { s.line with state := .holding, stop := some ⟨.controlled, c⟩ } := by unfold controlledLine; rw [if_pos rests]
    have calm : u.station.cycle ≠ .preparing := fun p => by
      rw [p] at restful
      rw [show s.station.cycle.restful = true from decide_eq_true rests] at restful
      exact absurd restful nofun
    have feeding : ({ u with line := controlledLine c s } : State).feeding = false := by rw [held]; rfl
    rw [finish_of_endStop rest ends (pumpStep_of_rest feeding calm) (by unfold State.stopEnds; rw [held]; rfl)]
    exact finish_not_feeding_linked feeding (pumpStep_of_rest feeding calm) (by unfold State.stopEnds; rw [held]; rfl)
  · have same : { u with line := controlledLine c s } = u := by
      have : controlledLine c s = u.line := by rw [line]; unfold controlledLine; rw [if_neg rests]
      rw [this]
    rw [same]
    refine finish_not_feeding_linked (Bool.not_eq_true _ ▸ off) rest ?_
    unfold State.stopEnds
    rw [if_neg off, restful, show s.station.cycle.restful = false from decide_eq_false rests, Bool.and_false]

theorem continuing_of_feeding {s : State} (h : s.feeding = true) : s.continuing = true := by
  unfold State.feeding LineBlock.feeding at h
  unfold State.continuing
  cases line : s.line.state <;> simp_all

theorem handControlled_of_feeding {s : State} (h : s.feeding = true) (c : StopCause) : handControlled c s =
    starvedEffects c (left { s with line := { s.line with state := .stopping, stop := some ⟨.controlled, c⟩ } }) := by
  have begins : handControlled c s = beginControlled c s := by
    have on := h
    unfold State.feeding LineBlock.feeding at on
    unfold handControlled
    cases line : s.line.state <;> simp_all
  rw [begins]
  unfold beginControlled
  rw [leaveFeeding_eq]
  rfl

theorem starvedEffects_of_ne {c : StopCause} (h : c ≠ .planStarved) (s : State) : starvedEffects c s = s := if_neg h

/-- The end of an event in which a CONTROLLED stop begins on a feeding line, but for what is told the host. -/
theorem finish_handControlled {old s : State} {c : StopCause} (cause : c ≠ .webEnd) (rest : pumpStep s = none) (feeding : s.feeding = true) :
    ∃ k, finish old (handControlled c s) = { levelled (starvedEffects c (left { s with line := controlledLine c s })) with link := k } := by
  have rests := pumpStep_left rest (continuing_of_feeding feeding) (l := { s.line with state := .stopping, stop := some ⟨.controlled, c⟩ }) rfl
  rw [handControlled_of_feeding feeding]
  by_cases starved : c = .planStarved
  · subst starved
    refine finish_controlled cause ?_ rfl rfl
    exact pumpStep_none_congr (s := left { s with line := { s.line with state := .stopping, stop := some ⟨.controlled, .planStarved⟩ } }) rfl rfl rfl rfl rests
  · rw [starvedEffects_of_ne starved, starvedEffects_of_ne starved]
    exact finish_controlled cause rests rfl rfl

theorem feeding_controlledLine (c : StopCause) (s : State) : (controlledLine c s).feeding = false := by
  unfold controlledLine LineBlock.feeding
  dsimp only
  by_cases rests : s.station.cycle = .idle ∨ s.station.cycle = .approach ∨ s.station.cycle = .paused
  · rw [if_pos rests]
  · rw [if_neg rests]; rfl

/-! ### The stops that begin of themselves (R145, R165, R172) -/

theorem exec_filmOut {s : State} (h : Settled s) : exec .filmOut s = .next (finish s ((if s.feeding ∧ ¬ s.inputs.filmOut then ifFitted (handControlled .filmOut) else id)
    { s with inputs := { s.inputs with filmOut := true } })) :=
  congrArg Host.Outcome.next (inputEvent_of_running h.running _ _)

theorem exec_stackFull {s : State} (h : Settled s) : exec .stackFull s = .next (finish s ((if s.inputs.stackFull then id else handCycleEnd .stackFull)
    { s with inputs := { s.inputs with stackFull := true } })) :=
  congrArg Host.Outcome.next (inputEvent_of_running h.running _ _)

theorem Settled.finish_inputs {s : State} (h : Settled s) (i : Inputs) : finish s { s with inputs := i } = { s with inputs := i } :=
  finish_of_settled (h.inputs i) rfl rfl

/-- A line that begins a CYCLE_END stop out of RUNNING feeds as it did. -/
theorem Settled.cycleEnd {s : State} (h : Settled s) (running : s.line.state = .running) (c : StopCause) (i : Inputs)
    (goes : ¬ (s.station.cycle = .idle ∧ s.planner.target = none)) :
    Settled { s with inputs := i, line := { s.line with state := .stopping, stop := some ⟨.cycleEnd, c⟩ } } := by
  have feeding : s.feeding = true := by unfold State.feeding LineBlock.feeding; rw [running]
  have goes' : s.continuing = true := continuing_of_feeding feeding
  obtain ⟨idle, preparing⟩ := (pumpStep_eq_none_iff s).mp h.station
  exact {
    running := h.running
    station := by
      refine (pumpStep_eq_none_iff _).mpr ⟨fun c x => idle c ⟨x.1, feeding⟩, fun cycle e current prepared => ?_⟩
      obtain ⟨lane, waits⟩ := preparing cycle e current prepared
      refine ⟨lane, Eq.trans ?_ waits⟩
      unfold State.mayTraverse; rw [goes']; rfl
    stop := by
      show (true && if true = true then _ else _) = false
      rw [if_pos rfl, Bool.true_and]
      by_contra ends
      simp only [Bool.not_eq_false, Bool.and_eq_true, decide_eq_true_eq, Option.isNone_iff_eq_none] at ends
      exact goes ends
    close := by
      refine Eq.trans ?_ h.close
      unfold State.closeDemand State.loopAllowance State.lineAllowance; rw [feeding]; rfl
    infeed := by
      refine h.infeed.trans ?_
      unfold State.infeedReference State.loopAllowance State.lineAllowance State.lamAllowance; rw [feeding]; rfl
    dwell := h.dwell
    idle := by
      refine h.idle.trans ?_
      unfold State.idleRuns; rw [running]; simp
    starve := by
      refine h.starve.trans ?_
      unfold State.starveLimit; rw [feeding]; rfl
    attn := by
      refine h.attn.trans ?_
      unfold State.attnLevel State.summary State.faultPresent; rw [running]; rfl }

/-- An event that leaves a settled state on a line that may have changed. -/
theorem finish_of_settled_line {old u : State} (h : Settled u) (run : u.freeCond = true → old.freeCond = true) : finish old u = attnUpdate (lineUpdate old u) := by
  unfold finish
  rw [pump_of_none _ h.station, endStop_of_stands h.stop]
  have free : freeUpdate old u = u := if_neg fun x => x.2.1 (run x.1)
  rw [free, bringUp_of_settled h]

/-- A CYCLE_END stop that finds the station IDLE without target ends at once (R171). -/
theorem finish_cycleEnd {s : State} (h : Settled s) (running : s.line.state = .running) (c : StopCause) (i : Inputs)
    (ends : s.station.cycle = .idle ∧ s.planner.target = none) :
    ∃ k, finish s { s with inputs := i, line := { s.line with state := .stopping, stop := some ⟨.cycleEnd, c⟩ } } =
      { levelled (left { s with inputs := i, line := { s.line with state := .holding, stop := some ⟨.cycleEnd, c⟩ } }) with link := k } := by
  have goes : s.continuing = true := continuing_of_feeding (by unfold State.feeding LineBlock.feeding; rw [running])
  have rests := pumpStep_left h.station goes (l := { s.line with state := .holding, stop := some ⟨.cycleEnd, c⟩ }) rfl
  have stopped : endStop { s with inputs := i, line := { s.line with state := .stopping, stop := some ⟨.cycleEnd, c⟩ } } =
      left { s with inputs := i, line := { s.line with state := .holding, stop := some ⟨.cycleEnd, c⟩ } } := by
    refine (if_pos rfl).trans ((if_pos rfl).trans ((if_pos ends).trans (leaveFeeding_eq _)))
  have start : pumpStep { s with inputs := i, line := { s.line with state := .stopping, stop := some ⟨.cycleEnd, c⟩ } } = none :=
    (pumpStep_eq_none_iff _).mpr ⟨fun _ x => by have some := x.1; exact Bool.false_ne_true ((congrArg Option.isSome ends.2).symm.trans some), fun cycle => by
      have idle := ends.1
      rw [show s.station.cycle = .preparing from cycle] at idle; exact absurd idle nofun⟩
  have still : pumpStep (left { s with inputs := i, line := { s.line with state := .holding, stop := some ⟨.cycleEnd, c⟩ } }) = none :=
    pumpStep_none_congr (s := left { s with line := { s.line with state := .holding, stop := some ⟨.cycleEnd, c⟩ } }) rfl rfl rfl rfl rests
  rw [finish_of_endStop start stopped still rfl]
  exact finish_not_feeding_linked rfl still rfl

/-- Settles O43. -/
theorem stopsBegin : Obligations.StopsBegin := by
  intro s h
  refine ⟨fun off fitted feeding => ?_, fun none => ?_, fun due => ?_, fun off running => ?_, fun other => ?_⟩
  · obtain ⟨k, ended⟩ := finish_handControlled (old := s) (s := { s with inputs := { s.inputs with filmOut := true } }) (c := .filmOut) nofun
      (pumpStep_none_congr (s := s) rfl rfl rfl rfl h.station) feeding
    refine ⟨_, (exec_filmOut h).trans (congrArg Host.Outcome.next (Eq.trans ?_ ended)), rfl, ?_, rfl, rfl, rfl⟩
    · rw [if_pos ⟨feeding, by simp [off]⟩]
      exact congrArg (finish s) (if_pos fitted)
    · refine Left.stopped ?_ (by exact feeding_controlledLine _ _) k
      exact {}
  · rw [exec_filmOut h]
    have acts : (if s.feeding ∧ ¬ s.inputs.filmOut then ifFitted (handControlled .filmOut) else id) { s with inputs := { s.inputs with filmOut := true } }
        = { s with inputs := { s.inputs with filmOut := true } } := by
      split
      · rename_i feeds
        rcases none with unfitted | idle
        · exact if_neg (by show ¬ s.straps.laminator = true; rw [unfitted]; exact nofun)
        · rw [idle] at feeds; exact absurd feeds.1 nofun
      · rfl
    rw [acts, h.finish_inputs]
  · have feeding : s.feeding = true := by
      have limit := h.starve
      cases starve : s.watches.starve with
      | none => rw [starve] at due; exact absurd due nofun
      | some w =>
        rw [starve] at limit
        by_contra off
        rw [Bool.not_eq_true] at off
        unfold State.starveLimit at limit
        rw [off] at limit
        simp at limit
    obtain ⟨k, ended⟩ := finish_handControlled (old := s) (s := { s with watches := { s.watches with starve := none } }) (c := .planStarved) nofun
      (pumpStep_none_congr (s := s) rfl rfl rfl rfl h.station) feeding
    refine ⟨_, congrArg Host.Outcome.next ((if_pos due).trans ((event_of_running h.running).trans ended)), rfl, ?_, rfl, rfl, rfl⟩
    refine Left.stopped ?_ (by exact feeding_controlledLine _ _) k
    exact {}
  · have begins : (if s.inputs.stackFull then id else handCycleEnd .stackFull) { s with inputs := { s.inputs with stackFull := true } } =
        { s with inputs := { s.inputs with stackFull := true }, line := { s.line with state := .stopping, stop := some ⟨.cycleEnd, .stackFull⟩ } } := by
      rw [off]; exact if_pos running
    have acted := exec_stackFull h
    rw [begins] at acted
    dsimp only
    split
    · rename_i ends
      obtain ⟨k, ended⟩ := finish_cycleEnd h running .stackFull { s.inputs with stackFull := true } ends
      refine ⟨_, acted.trans (congrArg Host.Outcome.next ended), rfl, ?_, rfl, rfl, rfl⟩
      refine Left.stopped ?_ (by exact rfl) k
      exact {}
    · rename_i goes
      have apart : LineState.stopping ≠ s.line.state := by rw [running]; exact nofun
      rw [acted, finish_of_settled_line (h.cycleEnd running .stackFull _ goes) ?_, lineUpdate_of_changed apart]
      intro free
      unfold State.freeCond at free
      simp only [Bool.and_eq_true, decide_eq_true_eq, Option.isNone_iff_eq_none] at free
      exact absurd ⟨free.1.2, free.2⟩ goes
  · rw [exec_stackFull h]
    have acts : (if s.inputs.stackFull then id else handCycleEnd .stackFull) { s with inputs := { s.inputs with stackFull := true } }
        = { s with inputs := { s.inputs with stackFull := true } } := by
      split
      · rfl
      · exact if_neg other
    rw [acts, h.finish_inputs]

/-! ### HOLD (R176) -/

theorem Stopped.linked {s t : State} {r : Reply} (f : Frame) (h : Stopped (holding f s) t) : Stopped s (setReply r t) :=
  ⟨h.infeed, h.outfeed, h.setpoint, h.station, h.planner, h.starve, h.lam, h.web, h.rest⟩

/-- Settles O16. -/
theorem holdStopsLine : Obligations.HoldStopsLine := by
  intro s tag free h synced running
  have feeding : s.feeding = true := by unfold State.feeding LineBlock.feeding; rw [running]
  have act : holdAct (holding ⟨0x22, tag, []⟩ s) = ⟨.ok, handControlled .hold (holding ⟨0x22, tag, []⟩ s), lineData⟩ := if_pos running
  have served := request_served (n := 0) (u := false) free rfl (.inr synced) act rfl
  obtain ⟨k, ended⟩ := finish_handControlled (old := holding ⟨0x22, tag, []⟩ s) (s := holding ⟨0x22, tag, []⟩ s) (c := .hold) nofun
    (settled_holding h _).station feeding
  rw [ended] at served
  refine ⟨_, congrArg Host.Outcome.next served, rfl, ?_, rfl, rfl, rfl⟩
  refine Stopped.linked ⟨0x22, tag, []⟩ (Left.stopped ?_ (by exact feeding_controlledLine _ _) k)
  exact {}

end Sys2Proof.Machine
end

section
/-!
The outfeed's moves as Safety writes them (R140, R142, R143), and the settings of speed and heat: SET-SPEED (R134, R135, R140), SET-HEAT (R151, R153).
-/
namespace Sys2Proof.Machine

/-! ### Moves -/

theorem issueMove_eq (p : Purpose) (o : Owner) (e : Int) (s : State) :
    issueMove p o e s = setOutfeed (movedTo s s.loop.zone s.drives.setpoint p o e) s := by
  have speed : s.moveSpeed p = if p = .creep then 10
      else if s.loop.zone = .low ∨ s.drives.webSeq = .draining then s.drives.setpoint
      else min 600 (roundDiv (s.drives.setpoint * s.work .outRatio) 100).toNat := by
    unfold State.moveSpeed State.draining State.catchUp
    cases p <;> simp [or_comm]
  have back : e - s.p2 < 0 ↔ e < s.p2 := by omega
  unfold issueMove movedTo nominalMs ceilDiv
  simp only [speed, back]

theorem reissue_of_moving {s : State} {m : Move} (moving : s.drives.outfeed = .moving m) :
    reissue s = setOutfeed (reissued s s.loop.zone s.drives.setpoint m) s := by
  have stays : s = setOutfeed (.moving m) s := by unfold setOutfeed; rw [← moving]
  unfold reissue reissued
  rw [moving]
  dsimp only
  cases m.endPoint with
  | none => exact stays
  | some e =>
    dsimp only
    by_cases creep : m.purpose = .creep
    · rw [if_neg (by simpa using creep), if_pos creep]; exact stays
    · rw [if_pos creep, if_neg creep]
      by_cases reached : e ≤ s.p2
      · rw [if_pos reached, if_pos reached]; rfl
      · rw [if_neg reached, if_neg reached]; exact issueMove_eq _ _ _ _

theorem moving_reissued {s : State} {zone : Zone} {v : Nat} (m : Move) : ∃ m', reissued s zone v m = .moving m' := by
  unfold reissued
  repeat' split
  · exact ⟨_, rfl⟩
  · exact ⟨_, rfl⟩
  · exact ⟨_, rfl⟩
  · exact ⟨_, rfl⟩

/-! ### Events that move the outfeed but not the station -/

theorem pumpStep_none_of_moving {s u : State} (station : u.station = s.station) (planner : u.planner = s.planner) (line : u.line = s.line)
    (moving : u.moving = s.moving) (h : pumpStep s = none) : pumpStep u = none := by
  have feeding : u.feeding = s.feeding := by unfold State.feeding; rw [line]
  have current : u.current = s.current := by unfold State.current; rw [planner]
  have prepared (e : Entry) : u.prepared e = s.prepared e := by unfold State.prepared State.bladesConfirmed; rw [station]
  have may : u.mayTraverse = s.mayTraverse := by unfold State.mayTraverse State.continuing; rw [station, moving, line]
  rw [pumpStep_eq_none_iff] at h ⊢
  simpa only [station, planner, feeding, current, prepared, may] using h

/-- An event that leaves station, planner and line alone, the outfeed MOVING or not as it was, and no demand to close the nip. -/
theorem finish_moved {s u : State} (h : Settled s) (station : u.station = s.station) (planner : u.planner = s.planner) (line : u.line = s.line)
    (moving : u.moving = s.moving) (close : u.closeDemand = false) : finish s u = attnUpdate (levelled u) := by
  have stop : u.stopEnds = false := by
    rw [← h.stop]; unfold State.stopEnds State.feeding; rw [line, station, planner]
  have free : u.freeCond = s.freeCond := by unfold State.freeCond State.feeding; rw [line, station, planner]
  rw [finish_eq_levelled (pumpStep_none_of_moving station planner line moving h.station) stop (fun x => free.symm.trans x) close]
  exact congrArg attnUpdate (lineUpdate_of_same (by show u.line.state = _; rw [line]) (by show u.line.stop = _; rw [line]))

/-- A request taken on a free link, by the state its event ends in. -/
theorem request_leaves {s x t : State} (free : LinkFree s) {k tag : Byte} {p : List Byte} {n : Nat} {u : Bool} {act : State → Answer} {st : Status}
    {d : State → List Byte} (hn : p.length = n) (hu : u = true ∨ s.link.synced = true) (h : act (holding ⟨k, tag, p⟩ s) = ⟨st, x, d⟩)
    (ok : st.taken = true) (ended : finish (holding ⟨k, tag, p⟩ s) x = t) :
    ∃ r, request k tag p n u act s = setReply r t ∧ r.status = st ∧ r.data = d t := by
  have served := request_served free hn hu h ok
  rw [ended] at served
  exact ⟨_, served, replyFor_taken _ ok _ _ _⟩

/-! ### SET-SPEED (R134, R135, R140) -/

/-- What the outfeed becomes at a new setpoint (R140). -/
def outfeedAtSpeed (v : Nat) (s : State) : Outfeed :=
  match s.drives.outfeed with
  | .moving m => reissued s s.loop.zone v m
  | o => o

theorem speedOf_eq (v : Nat) : speedOf v = if v < 5 then 5 else if 400 < v then 400 else v := by unfold speedOf; split <;> [skip; split] <;> omega

theorem reissue_eq {s u : State} {v : Nat} (outfeed : u.drives.outfeed = s.drives.outfeed) (setpoint : u.drives.setpoint = v) (zone : u.loop.zone = s.loop.zone)
    (same : ∀ m, reissued u s.loop.zone v m = reissued s s.loop.zone v m) : reissue u = setOutfeed (outfeedAtSpeed v s) u := by
  unfold outfeedAtSpeed
  cases moving : s.drives.outfeed with
  | moving m =>
    rw [reissue_of_moving (outfeed.trans moving), zone, setpoint, same]
  | stopped =>
    unfold reissue setOutfeed; rw [outfeed.trans moving]; dsimp only; rw [← outfeed.trans moving]
  | held r =>
    unfold reissue setOutfeed; rw [outfeed.trans moving]; dsimp only; rw [← outfeed.trans moving]

/-- What the registration unit becomes at a new setpoint (R135). -/
def regAtSpeed (v : Nat) (s : State) : RegBlock :=
  if s.drives.setpoint < 4 * ((v : Int) - s.drives.setpoint).natAbs then pointAdded .speedStep (s.p1 - s.work .dNip) s.reg else s.reg

/-- The unit at a new setpoint (R134, R135, R140). -/
def atSpeed (v : Nat) (l : Link) (s : State) : State :=
  { s with
    drives := { s.drives with setpoint := v, outfeed := outfeedAtSpeed v s }
    reg := regAtSpeed v s
    link := l }

theorem setSpeed_told {s : State} (ordered : PointsOrdered s) (v : Nat) :
    ∃ l, setSpeed v s = atSpeed v l s
    ∧ (s.drives.setpoint < 4 * ((v : Int) - s.drives.setpoint).natAbs → s.link.events.length ≤ 62 → pointTold (s.p1 - s.work .dNip) s.reg l.events) := by
  unfold atSpeed regAtSpeed
  have stepped : speedStep s.drives.setpoint v = decide (s.drives.setpoint < 4 * ((v : Int) - s.drives.setpoint).natAbs) := by
    unfold speedStep; congr 1; apply propext; omega
  unfold setSpeed
  dsimp only
  rw [stepped]
  by_cases step : s.drives.setpoint < 4 * ((v : Int) - s.drives.setpoint).natAbs
  · obtain ⟨l, added, told⟩ := addPoint_told (s := { s with drives := { s.drives with setpoint := v } }) ordered .speedStep (s.p1 - s.work .dNip)
    refine ⟨l, ?_, fun _ => told⟩
    rw [if_pos (decide_eq_true step), if_pos step, added]
    exact reissue_eq rfl rfl rfl fun _ => rfl
  · refine ⟨s.link, ?_, fun h => absurd h step⟩
    rw [if_neg (by simpa using step), if_neg step]
    exact reissue_eq rfl rfl rfl fun _ => rfl

theorem feedBesideNip_pos_iff {s : State} (speed : 5 ≤ s.drives.setpoint) : 0 < feedBesideNip s ↔
    (s.feeding = true ∧ (s.drives.webSeq = .none ∨ s.drives.webSeq = .feedingOut)) ∧ s.loop.zone ≠ .full ∧ s.loop.zone ≠ .unknown := by
  unfold feedBesideNip
  by_cases feeds : s.feeding = true ∧ (s.drives.webSeq = .none ∨ s.drives.webSeq = .feedingOut)
  · rw [if_pos feeds]
    cases s.loop.zone <;> simp [feeds] <;> omega
  · rw [if_neg feeds]; simp [feeds]

theorem moving_outfeedAtSpeed (v : Nat) (s : State) (d : Drives) (outfeed : d.outfeed = outfeedAtSpeed v s) :
    ({ s with drives := d } : State).moving = s.moving := by
  unfold State.moving
  dsimp only
  rw [outfeed]
  unfold outfeedAtSpeed
  cases s.drives.outfeed with
  | moving m => obtain ⟨m', e⟩ := moving_reissued (s := s) (zone := s.loop.zone) (v := v) m; dsimp only; rw [e]
  | _ => rfl

theorem finish_atSpeed {s : State} (h : Settled s) (fast : 5 ≤ s.drives.setpoint) {v : Nat} (low : 5 ≤ v) (l : Link) :
    finish s (atSpeed v l s) = attnUpdate (levelled (atSpeed v l s)) := by
  refine finish_moved h rfl rfl rfl (moving_outfeedAtSpeed v s _ rfl) ?_
  have before := h.close
  rw [closeDemand_eq] at before ⊢
  refine Eq.trans ?_ before
  have feeds : 0 < feedBesideNip (atSpeed v l s) ↔ 0 < feedBesideNip s := by
    rw [feedBesideNip_pos_iff fast, feedBesideNip_pos_iff (by exact low)]
    rfl
  unfold nipCloses
  simp only [feeds]
  rfl

/-- A request answered leaves the infeed reference at the least of its allowances. -/
theorem drives_answered (u : State) (r : Reply) : (setReply r (attnUpdate (levelled u))).drives =
    { u.drives with infeedRef := (setReply r (attnUpdate (levelled u))).infeedReference } := by
  rw [infeedReference_congr (s := u) (t := setReply r (attnUpdate (levelled u))) rfl rfl rfl rfl rfl rfl rfl]; rfl

/-- Settles O21. -/
theorem setSpeedSetsSetpoint : Obligations.SetSpeedSetsSetpoint := by
  intro s tag a b free h synced fast ordered
  dsimp only
  have value : natAt 0 2 [a, b] = a.toNat + 256 * b.toNat := by simp [natAt, part, leNat]
  generalize a.toNat + 256 * b.toNat = v at value ⊢
  rw [← speedOf_eq]
  have low : 5 ≤ speedOf v := by unfold speedOf; omega
  have act : setSpeedAct (natAt 0 2 [a, b]) (holding ⟨0x30, tag, [a, b]⟩ s) = ⟨if speedOf v = v then .ok else .okClamped,
      setSpeed (speedOf v) (holding ⟨0x30, tag, [a, b]⟩ s), fun t => wordField t.drives.setpoint⟩ := by rw [value]; rfl
  generalize speedOf v = w at act low ⊢
  obtain ⟨l, moved, told⟩ := setSpeed_told (s := holding ⟨0x30, tag, [a, b]⟩ s) ordered w
  obtain ⟨r, served, status, data⟩ := request_leaves (n := 2) (u := false) free rfl (.inr synced) act (by split <;> rfl)
    ((congrArg _ moved).trans (finish_atSpeed (settled_holding h _) fast low l))
  have drives : (atSpeed w l (holding ⟨0x30, tag, [a, b]⟩ s)).drives = { s.drives with setpoint := w, outfeed := outfeedAtSpeed w s } := rfl
  have reg : (atSpeed w l (holding ⟨0x30, tag, [a, b]⟩ s)).reg = regAtSpeed w s := rfl
  have kept : { atSpeed w l (holding ⟨0x30, tag, [a, b]⟩ s) with drives := s.drives, reg := s.reg, link := s.link } = s := rfl
  have link : (atSpeed w l (holding ⟨0x30, tag, [a, b]⟩ s)).link = l := rfl
  generalize atSpeed w l (holding ⟨0x30, tag, [a, b]⟩ s) = u at served data drives reg kept link
  refine ⟨_, congrArg Host.Outcome.next served, ?_, reg, ?_, congrArg (·.panels) kept, congrArg (·.planner) kept, congrArg (·.station) kept,
    congrArg (·.line) kept, congrArg (·.loop) kept, congrArg (·.cal) kept, congrArg (·.lam.nip) kept, congrArg (·.lam.heat) kept,
    congrArg (·.cursor1) kept, congrArg (·.cursor2) kept, ?_⟩
  · rw [drives_answered, drives]; rfl
  · intro step room
    have events := told step room
    rw [← link] at events
    exact events
  · show some (r.status, r.data) = _
    rw [status, data]
    show some (_, wordField u.drives.setpoint) = _
    rw [drives]; rfl

end Sys2Proof.Machine
end

section
/-!
What the close command makes of the laminator, whatever it adds to the Disturbance List (R159 to R161); SET-HEAT (R151, R153) and the laminator's timers (R157, R158,
R162, R163).
-/
namespace Sys2Proof.Machine

/-! ### The close command, but for its point -/

/-- The laminator after the close demand has been brought up (R160). -/
def closeLam (u : State) : Laminator := if u.closeDemand = true then closedLam u else u.lam

theorem nip_of_closeDemand {u : State} (h : u.closeDemand = true) : u.lam.nip = .opened ∨ u.lam.nip = .opening := by
  unfold State.closeDemand at h
  simp only [Bool.and_eq_true, decide_eq_true_eq] at h
  exact h.2

theorem confirmNip_parts {s : State} (nip : s.lam.nip = .closing) (active : s.inputs.nipClosed = true) :
    ∃ x l, confirmNip s = { s with lam := { s.lam with nip := .closed, nipTimer := none, reclose := false }, reg := x, link := l } := by
  have act : confirmNip s = if s.lam.reclose then addPoint .nipReclose (s.p1 - s.work .dNip) (updLam (fun l => { l with nip := .closed, nipTimer := none, reclose := false }) s)
      else updLam (fun l => { l with nip := .closed, nipTimer := none, reclose := false }) s := by
    unfold confirmNip; rw [nip]; exact if_pos active
  rw [act]
  split
  · obtain ⟨x, l, added⟩ := addPoint_frame .nipReclose (s.p1 - s.work .dNip) (updLam (fun l => { l with nip := .closed, nipTimer := none, reclose := false }) s)
    exact ⟨x, l, added⟩
  · exact ⟨s.reg, s.link, rfl⟩

theorem commandClose_parts {s : State} (nip : s.lam.nip = .opened ∨ s.lam.nip = .opening) :
    ∃ x l, commandClose s = { s with lam := closedLam s, reg := x, link := l } := by
  have act : commandClose s = confirmNip (updLam (fun l => { l with
      nip := .closing, commandClose := true, nipTimer := some (s.startTimer (s.workNat .nipTimeout)) }) s) := by
    unfold commandClose
    rcases nip with nip | nip <;> rw [nip]
  rw [act]
  unfold closedLam
  by_cases active : s.inputs.nipClosed = true
  · obtain ⟨x, l, closed⟩ := confirmNip_parts (s := updLam (fun l => { l with
      nip := .closing, commandClose := true, nipTimer := some (s.startTimer (s.workNat .nipTimeout)) }) s) rfl active
    refine ⟨x, l, closed.trans ?_⟩
    rw [active]; rfl
  · rw [Bool.not_eq_true] at active
    refine ⟨s.reg, s.link, ?_⟩
    rw [active]
    exact if_neg (by rw [show State.inputs (updLam _ s) = s.inputs from rfl, active]; exact nofun)

theorem closeUpdate_parts (u : State) : ∃ x l, closeUpdate u = { u with lam := closeLam u, reg := x, link := l } := by
  unfold closeUpdate closeLam
  by_cases demand : u.closeDemand = true
  · rw [if_pos demand, if_pos demand]; exact commandClose_parts (nip_of_closeDemand demand)
  · rw [if_neg demand, if_neg demand]; exact ⟨u.reg, u.link, rfl⟩

/-- The end of an event that leaves station, planner, line and outfeed alone, but for the point of a closure. -/
theorem Unmoved.finish_parts {s u : State} (c : Unmoved s u) (h : Settled s) :
    ∃ x l, finish s u = attnUpdate (levelled { u with lam := closeLam u, reg := x, link := l }) := by
  obtain ⟨x, l, closed⟩ := closeUpdate_parts u
  exact ⟨x, l, by rw [c.finish_eq h, closed]⟩

theorem closeLam_of_hot {u : State} (heat : u.lam.heat = .warming ∨ u.lam.heat = .standby) : closeLam u = u.lam := by
  refine if_neg ?_
  unfold State.closeDemand
  rcases heat with heat | heat <;> simp [heat]

theorem nip_closeLam (u : State) : (closeLam u).nip = if u.closeDemand = true then (if u.inputs.nipClosed then .closed else .closing) else u.lam.nip := by
  unfold closeLam; split <;> rfl

theorem heat_closeLam (u : State) : (closeLam u).heat = u.lam.heat := by unfold closeLam; split <;> rfl

/-! ### SET-HEAT (R151, R153) -/

theorem heatOf_eq (v : Nat) : heatOf v = if v = 0 then 0 else if v < 400 then 400 else if 1400 < v then 1400 else v := by
  unfold heatOf
  split
  · rfl
  · split <;> [skip; split] <;> omega

/-- The relative test stays armed under a target that does not fall (R155). -/
def keepsArmed (old : Option Int) (new : Int) : Bool := decide (∀ g ∈ old, g ≤ new)

theorem setHeat_eq {s : State} {h : Heat} {v : Nat} {new : Int} (target : s.targetFor h v = some new) : setHeat h v s = { s with
    lam := { s.lam with setpoint := v, heat := h, target := some new, armed := s.lam.armed && keepsArmed s.lam.target new } } := by
  unfold setHeat keepsArmed
  rw [target]
  cases old : s.lam.target with
  | none =>
    dsimp only [updLam]
    rw [if_neg nofun, decide_eq_true (by simp), Bool.and_true]
  | some g =>
    dsimp only [updLam]
    by_cases falls : new < g
    · rw [if_pos (decide_eq_true falls), decide_eq_false (by simp; omega), Bool.and_false]
    · rw [if_neg (by simpa using falls), decide_eq_true (by simp; omega), Bool.and_true]

/-- The laminator after a new setpoint (R153). -/
def heatLam (v : Nat) (s : State) : Laminator :=
  if v = 0 then { s.lam with setpoint := 0, heat := .off, target := none, armed := false, heater := false, settle := none, idle := none }
  else if s.lam.heat = .standby then
    { s.lam with
      setpoint := v, heat := .standby, target := some (max 0 ((v : Int) - s.work .standbyDrop))
      armed := s.lam.armed && keepsArmed s.lam.target (max 0 ((v : Int) - s.work .standbyDrop)) }
  else { s.lam with setpoint := v, heat := .warming, target := some (v : Int), settle := none, armed := s.lam.armed && keepsArmed s.lam.target v }

theorem acceptHeat_eq {v : Nat} {s : State} (new : v ≠ s.lam.setpoint) : acceptHeat v s = { s with lam := heatLam v s } := by
  unfold acceptHeat heatLam
  rw [if_neg new]
  by_cases off : v = 0
  · rw [if_pos off, if_pos off]; rfl
  · rw [if_neg off, if_neg off]
    by_cases standby : s.lam.heat = .standby
    · rw [if_pos standby, standby]
      exact setHeat_eq (s := s) (h := .standby) (v := v) rfl
    · rw [if_neg standby]
      have warms : updLam (fun l => { l with settle := none }) (setHeat .warming v s) = { s with lam := { s.lam with
          setpoint := v, heat := .warming, target := some (v : Int), settle := none, armed := s.lam.armed && keepsArmed s.lam.target v } } := by
        rw [setHeat_eq (s := s) (h := .warming) (v := v) (new := v) rfl]; rfl
      rw [← warms]
      cases heat : s.lam.heat with
      | standby => exact absurd heat standby
      | _ => rfl

/-- The close command touches the nip alone. -/
theorem closeLam_frame (u : State) : { closeLam u with
    nip := u.lam.nip, nipTimer := u.lam.nipTimer, commandClose := u.lam.commandClose, reclose := u.lam.reclose } = u.lam := by
  unfold closeLam; split <;> rfl

/-- Of a SET-HEAT taken: the laminator, the infeed and the rest of the unit. -/
structure Heated (L : Laminator) (s t : State) : Prop where
  lam : { t.lam with
    nip := s.lam.nip, nipTimer := s.lam.nipTimer, commandClose := s.lam.commandClose, reclose := s.lam.reclose, idle := L.idle, dwell := L.dwell } =
      { L with nip := s.lam.nip, nipTimer := s.lam.nipTimer, commandClose := s.lam.commandClose, reclose := s.lam.reclose }
  nip : t.lam.nip = if L.heat = .ready ∨ L.heat = .off then nipAfterClose s else s.lam.nip
  infeed : t.drives.infeedRef = if (L.heat = .ready ∨ L.heat = .off) ∧ t.lam.nip = .closed then feedBesideNip s else 0
  idle : t.lam.idle = if (s.line.state = .holding ∨ s.line.state = .threaded) ∧ (L.heat = .warming ∨ L.heat = .ready)
    then L.idle.or (some ⟨s.now, 1000 * s.workNat .tIdle⟩) else none
  rest : t.panels = s.panels ∧ t.planner = s.planner ∧ t.station = s.station ∧ t.line = s.line ∧ t.cal = s.cal
    ∧ t.loop = s.loop ∧ t.cursor1 = s.cursor1 ∧ t.cursor2 = s.cursor2 ∧ t.drives.setpoint = s.drives.setpoint

theorem heated_levelled {s : State} {L : Laminator} (fitted : s.straps.laminator = true) (nip : L.nip = s.lam.nip) (x : RegBlock) (l k : Link) :
    Heated L s { levelled { s with lam := closeLam { s with lam := L }, reg := x, link := l } with link := k } := by
  have frame := closeLam_frame { s with lam := L }
  have heat := heat_closeLam { s with lam := L }
  have closes := nip_closeLam { s with lam := L }
  have demand : State.closeDemand { s with lam := L } = (decide (L.heat = .ready ∨ L.heat = .off) && nipCloses s) := by
    rw [closeDemand_eq]; unfold nipCloses; dsimp only; rw [nip]; rfl
  generalize closeLam { s with lam := L } = M at frame heat closes ⊢
  dsimp only at frame heat closes
  have after : M.nip = if L.heat = .ready ∨ L.heat = .off then nipAfterClose s else s.lam.nip := by
    rw [closes, demand, nip]
    unfold nipAfterClose
    by_cases cold : L.heat = .ready ∨ L.heat = .off <;> simp [cold]
  exact {
    lam := congrArg (fun m : Laminator => { m with
      nip := s.lam.nip, nipTimer := s.lam.nipTimer, commandClose := s.lam.commandClose, reclose := s.lam.reclose, idle := L.idle, dwell := L.dwell }) frame
    nip := after
    infeed := by
      show State.infeedReference { s with lam := M, reg := x, link := l } = if (L.heat = .ready ∨ L.heat = .off) ∧ M.nip = .closed then _ else _
      rw [infeedReference_eq]
      unfold State.lamReady
      simp only [fitted, heat, Bool.not_true, Bool.false_or, Bool.and_eq_true, decide_eq_true_eq]
      rfl
    idle := by
      show State.idleAfter { s with lam := M, reg := x, link := l } = _
      have kept : M.idle = L.idle := congrArg (·.idle) frame
      unfold State.idleAfter State.idleRuns
      simp only [fitted, heat, kept, Bool.true_and, Bool.and_eq_true, decide_eq_true_eq]
      rfl
    rest := ⟨rfl, rfl, rfl, rfl, rfl, rfl, rfl, rfl, rfl⟩ }

theorem heatLam_off (s : State) : heatLam 0 s =
    { s.lam with setpoint := 0, heat := .off, target := none, armed := false, heater := false, settle := none, idle := none } := if_pos rfl

theorem heatLam_standby {v : Nat} (on : v ≠ 0) {s : State} (standby : s.lam.heat = .standby) : heatLam v s = { s.lam with
    setpoint := v, heat := .standby, target := some (max 0 ((v : Int) - s.work .standbyDrop))
    armed := s.lam.armed && keepsArmed s.lam.target (max 0 ((v : Int) - s.work .standbyDrop)) } := (if_neg on).trans (if_pos standby)

theorem heatLam_warming {v : Nat} (on : v ≠ 0) {s : State} (apart : s.lam.heat ≠ .standby) : heatLam v s = { s.lam with
    setpoint := v, heat := .warming, target := some (v : Int), settle := none, armed := s.lam.armed && keepsArmed s.lam.target v } :=
  (if_neg on).trans (if_neg apart)

theorem heatLam_setpoint (v : Nat) (s : State) : (heatLam v s).setpoint = v := by
  unfold heatLam
  split
  · rename_i off; exact off.symm
  · split <;> rfl

theorem heatLam_nip (v : Nat) (s : State) : (heatLam v s).nip = s.lam.nip := by unfold heatLam; split <;> [rfl; split <;> rfl]

theorem Heated.linked {L : Laminator} {s t : State} {f : Frame} {r : Reply} (h : Heated L (holding f s) t) : Heated L s (setReply r t) :=
  ⟨h.lam, h.nip, h.infeed, h.idle, h.rest⟩

/-- A SET-HEAT that changes the setpoint (R153). -/
theorem exec_setHeat_heated {s : State} (free : LinkFree s) (h : Settled s) (synced : s.link.synced = true) {tag a b : Byte} {v : Nat}
    (value : natAt 0 2 [a, b] = v) (fitted : s.straps.laminator = true) (new : heatOf v ≠ s.lam.setpoint) :
    ∃ t, exec (.setHeat tag [a, b]) s = .next t ∧ Heated (heatLam (heatOf v) s) s t
      ∧ t.link.reply.map (fun r => (r.status, r.data)) = some (if heatOf v = v then .ok else .okClamped, wordField t.lam.setpoint) := by
  have act : setHeatAct (natAt 0 2 [a, b]) (holding ⟨0x31, tag, [a, b]⟩ s) = ⟨if heatOf v = v then .ok else .okClamped,
      acceptHeat (heatOf v) (holding ⟨0x31, tag, [a, b]⟩ s), fun t => wordField t.lam.setpoint⟩ := by
    rw [value]; exact if_neg (by simpa using fitted)
  have heated : acceptHeat (heatOf v) (holding ⟨0x31, tag, [a, b]⟩ s) = { holding ⟨0x31, tag, [a, b]⟩ s with lam := heatLam (heatOf v) s } := acceptHeat_eq new
  obtain ⟨x, l, ended⟩ := Unmoved.finish_parts (s := holding ⟨0x31, tag, [a, b]⟩ s)
    (u := { holding ⟨0x31, tag, [a, b]⟩ s with lam := heatLam (heatOf v) s }) {} (settled_holding h _)
  obtain ⟨r, served, status, data⟩ := request_leaves (n := 2) (u := false) free rfl (.inr synced) act (by split <;> rfl)
    ((congrArg _ heated).trans ended)
  refine ⟨_, congrArg Host.Outcome.next served, ?_, ?_⟩
  · exact Heated.linked (f := ⟨0x31, tag, [a, b]⟩) (heated_levelled (s := holding ⟨0x31, tag, [a, b]⟩ s) fitted (heatLam_nip _ _) x l _)
  · show some (r.status, r.data) = _
    rw [status, data]; rfl

/-- Settles O22. -/
theorem setHeatSetsTarget : Obligations.SetHeatSetsTarget := by
  intro s tag a b free h synced
  dsimp only
  have value : natAt 0 2 [a, b] = a.toNat + 256 * b.toNat := by simp [natAt, part, leNat]
  generalize a.toNat + 256 * b.toNat = v at value ⊢
  rw [← heatOf_eq]
  have zero : heatOf v = 0 ↔ v = 0 := by unfold heatOf; split <;> omega
  refine ⟨fun unfitted other => ?_, fun unfitted none => ?_, fun fitted same => ?_, fun fitted new => ?_⟩
  · refine congrArg Host.Outcome.next (request_refused free rfl (.inr synced) ?_ rfl nofun)
    rw [value]
    exact (if_pos (by simpa using unfitted)).trans (if_neg other)
  · refine congrArg Host.Outcome.next (request_answered (d := fun t => wordField t.lam.setpoint) free rfl (.inr synced) ?_ rfl h rfl rfl)
    rw [value]
    exact (if_pos (by simpa using unfitted)).trans (if_pos none)
  · have answer := request_answered (k := 0x31) (tag := tag) (p := [a, b]) (n := 2) (u := false) (act := setHeatAct (natAt 0 2 [a, b])) (t := s)
      (st := if heatOf v = v then .ok else .okClamped) (d := fun t => wordField t.lam.setpoint) free rfl (.inr synced)
      (by
        rw [value]
        refine (if_neg (by simpa using fitted)).trans ?_
        have stays : acceptHeat (heatOf v) (holding ⟨0x31, tag, [a, b]⟩ s) = holding ⟨0x31, tag, [a, b]⟩ s := if_pos same
        rw [stays]) (by split <;> rfl) h rfl rfl
    refine congrArg Host.Outcome.next (answer.trans ?_)
    rw [same]; rfl
  · obtain ⟨t, act, heated, reply⟩ := exec_setHeat_heated free h synced value fitted new
    have setpoint : t.lam.setpoint = heatOf v := (congrArg (·.setpoint) heated.lam).trans (heatLam_setpoint _ _)
    refine ⟨t, act, setpoint, fun off => ?_, fun on apart => ?_, fun on standby => ?_, fun on => ?_, ?_⟩
    · rw [zero.mpr off, heatLam_off] at heated
      refine ⟨congrArg (·.heat) heated.lam, congrArg (·.target) heated.lam, congrArg (·.heater) heated.lam, congrArg (·.settle) heated.lam,
        heated.idle.trans (if_neg (by simp)), congrArg (·.armed) heated.lam, heated.nip.trans (if_pos (.inr rfl)), heated.infeed.trans ?_⟩
      simp
    · have some : heatOf v ≠ 0 := fun none => on (zero.mp none)
      rw [heatLam_warming some apart] at heated
      refine ⟨congrArg (·.heat) heated.lam, congrArg (·.target) heated.lam, congrArg (·.settle) heated.lam, heated.idle.trans ?_⟩
      have idle := h.idle
      unfold State.idleRuns at idle
      rw [fitted] at idle
      by_cases rests : s.line.state = .holding ∨ s.line.state = .threaded
      · rw [if_pos ⟨rests, .inl rfl⟩, if_pos rests]
        rw [decide_eq_true rests, Bool.true_and, Bool.true_and] at idle
        show s.lam.idle.or _ = _
        by_cases off : s.lam.heat = .off
        · rw [if_pos off]
          cases runs : s.lam.idle with
          | none => rfl
          | some k => rw [runs, off] at idle; exact absurd idle nofun
        · rw [if_neg off]
          cases runs : s.lam.idle with
          | none =>
            rw [runs] at idle
            cases heat : s.lam.heat with
            | off => exact absurd heat off
            | standby => exact absurd heat apart
            | warming => rw [heat] at idle; exact absurd idle nofun
            | ready => rw [heat] at idle; exact absurd idle nofun
          | some k => rfl
      · rw [if_neg fun x => rests x.1, if_neg rests]
    · have some : heatOf v ≠ 0 := fun none => on (zero.mp none)
      rw [heatLam_standby some standby] at heated
      exact ⟨congrArg (·.heat) heated.lam, congrArg (·.target) heated.lam, heated.idle.trans (if_neg (by simp))⟩
    · have some : heatOf v ≠ 0 := fun none => on (zero.mp none)
      by_cases standby : s.lam.heat = .standby
      · rw [heatLam_standby some standby] at heated
        have target : t.lam.target = Option.some (max 0 ((heatOf v : Int) - s.work .standbyDrop)) := congrArg (·.target) heated.lam
        refine ⟨?_, heated.nip.trans (if_neg (by simp)), heated.infeed.trans (if_neg (by simp))⟩
        rw [target]
        refine (congrArg (·.armed) heated.lam).trans (congrArg (s.lam.armed && ·) ?_)
        unfold keepsArmed; simp
      · rw [heatLam_warming some standby] at heated
        have target : t.lam.target = Option.some (heatOf v : Int) := congrArg (·.target) heated.lam
        refine ⟨?_, heated.nip.trans (if_neg (by simp)), heated.infeed.trans (if_neg (by simp))⟩
        rw [target]
        refine (congrArg (·.armed) heated.lam).trans (congrArg (s.lam.armed && ·) ?_)
        unfold keepsArmed; simp
    · obtain ⟨a, b, c, d, e, f, g, i, j⟩ := heated.rest
      refine ⟨a, b, c, d, e, f, g, i, j, ?_⟩
      rw [reply, setpoint]; rfl

end Sys2Proof.Machine
end

section
/-!
The laminator's timers (R157, R158, R162, R163).
-/
namespace Sys2Proof.Machine

/-- A change of heat on a line that does not feed, hot mode, nip and dwell as they were. -/
theorem Settled.heat_change {s : State} (h : Settled s) (off : s.feeding = false) (n : Nat) (x : Laminator) (nip : x.nip = s.lam.nip)
    (hot : x.heat.hot = s.lam.heat.hot) (dwell : x.dwell = s.lam.dwell) (idle : x.idle.isSome = State.idleRuns { s with lam := x }) :
    Settled { s with now := n, lam := x } where
  running := h.running
  station := pumpStep_none_congr (s := s) rfl rfl rfl rfl h.station
  stop := h.stop
  close := closeDemand_of_not_feeding off
  infeed := h.infeed.trans ((infeedReference_of_not_feeding off).trans (infeedReference_of_not_feeding (by exact off)).symm)
  dwell := by
    show x.dwell.isSome = _
    rw [dwell, h.dwell]
    unfold State.dwellRuns; dsimp only; rw [nip, hot]
  idle := idle
  starve := h.starve
  attn := h.attn

theorem timerEvent_of_running {s : State} (h : Settled s) (k : Timer) (f : State → State) :
    timerEvent (some k) f s = finish s (f { s with now := max s.now (k.start + k.limit) }) :=
  event_of_running (f := fun s => f (reachTime k.start k.limit s)) h.running

/-- The laminator of a roller that has settled (R157). -/
def readyLam (x : Laminator) : Laminator := { x with heat := .ready, settle := none }

theorem becomeReady_eq {s : State} (target : s.lam.target = some (s.lam.setpoint : Int)) : becomeReady s = { s with lam := readyLam s.lam } := by
  have keeps : keepsArmed s.lam.target s.lam.setpoint = true := by unfold keepsArmed; rw [target]; simp
  unfold becomeReady readyLam
  rw [setHeat_eq (s := s) (h := .ready) (v := s.lam.setpoint) (new := s.lam.setpoint) rfl, keeps, Bool.and_true, ← target]
  rfl

theorem enterStandby_eq (s : State) : enterStandby s = { s with lam := { s.lam with
    heat := .standby, target := some (max 0 ((s.lam.setpoint : Int) - s.work .standbyDrop)), settle := none, idle := none, armed := false } } := by
  unfold enterStandby
  rw [setHeat_eq (s := s) (h := .standby) (v := s.lam.setpoint) rfl]
  rfl

/-- Where the close demand stands, the closure's point comes to the Disturbance List with its reclosure (R160, R161). -/
theorem closeUpdate_told {u : State} (ordered : PointsOrdered u) : ∃ l, closeUpdate u = { u with
      lam := closeLam u
      reg := if (u.closeDemand && u.inputs.nipClosed) = true ∧ u.lam.reclose = true then pointAdded .nipReclose (u.p1 - u.work .dNip) u.reg else u.reg
      link := l }
    ∧ ((u.closeDemand && u.inputs.nipClosed) = true → u.lam.reclose = true → u.link.events.length ≤ 62 → pointTold (u.p1 - u.work .dNip) u.reg l.events) := by
  unfold closeUpdate closeLam
  by_cases demand : u.closeDemand = true
  · obtain ⟨l, closed, told⟩ := commandClose_eq (nip_of_closeDemand demand) ordered
    rw [if_pos demand, if_pos demand, demand, Bool.true_and]
    exact ⟨l, closed, told⟩
  · rw [if_neg demand, if_neg demand, Bool.not_eq_true _ |>.mp demand, Bool.false_and]
    exact ⟨u.link, by rw [if_neg (by simp)], nofun⟩

theorem closeLam_eq (u : State) : closeLam u = { u.lam with
    nip := if u.closeDemand = true then (if u.inputs.nipClosed = true then .closed else .closing) else u.lam.nip
    commandClose := u.closeDemand || u.lam.commandClose
    nipTimer := if u.closeDemand = true then (if u.inputs.nipClosed = true then none else some ⟨u.now, u.workNat .nipTimeout⟩) else u.lam.nipTimer
    reclose := !(u.closeDemand && u.inputs.nipClosed) && u.lam.reclose } := by
  unfold closeLam closedLam
  by_cases demand : u.closeDemand = true
  · rw [if_pos demand, if_pos demand, if_pos demand, demand]; rfl
  · rw [if_neg demand, if_neg demand, if_neg demand, Bool.not_eq_true _ |>.mp demand]; rfl

theorem idleRuns_of_feeding {s : State} (h : s.feeding = true) : s.idleRuns = false := by
  unfold State.feeding LineBlock.feeding at h
  unfold State.idleRuns
  cases line : s.line.state <;> simp_all

theorem idleRuns_of_timer {s : State} (h : Settled s) {k : Timer} (idle : s.lam.idle = some k) :
    s.straps.laminator = true ∧ (s.line.state = .holding ∨ s.line.state = .threaded) ∧ (s.lam.heat = .warming ∨ s.lam.heat = .ready) := by
  have runs := h.idle
  rw [idle] at runs
  have runs := runs.symm
  unfold State.idleRuns at runs
  simp only [Option.isSome_some, Bool.and_eq_true, decide_eq_true_eq] at runs
  exact ⟨runs.1.1, runs.1.2, runs.2⟩

theorem dwellRuns_of_timer {s : State} (h : Settled s) {d : Dwell} (dwell : s.lam.dwell = some d) :
    s.straps.laminator = true ∧ s.lam.heat.hot = true ∧ s.lam.nip = .closed ∧ s.drives.infeedRef = 0 := by
  have runs := h.dwell
  rw [dwell] at runs
  have runs := runs.symm
  unfold State.dwellRuns at runs
  simp only [Option.isSome_some, Bool.and_eq_true, decide_eq_true_eq] at runs
  exact ⟨runs.1.1.1, runs.1.1.2, runs.1.2, runs.2⟩

/-- A settled line that feeds runs no idle timer. -/
theorem Settled.idle_none {s : State} (h : Settled s) (feeding : s.feeding = true) : s.lam.idle = none := by
  have none := h.idle
  rw [idleRuns_of_feeding feeding] at none
  exact Option.isSome_eq_false_iff.mp none |> Option.isNone_iff_eq_none.mp

/-- The laminator of a roller READY whose nip has been commanded close where there is web to feed (R157, R160). -/
def reclosedLam (n : Nat) (s : State) : Laminator :=
  { readyLam s.lam with
    nip := nipAfterClose s
    commandClose := nipCloses s || s.lam.commandClose
    nipTimer := if nipCloses s = true then (if (nipCloses s && s.inputs.nipClosed) = true then none else some ⟨n, s.workNat .nipTimeout⟩) else s.lam.nipTimer
    reclose := !(nipCloses s && s.inputs.nipClosed) && s.lam.reclose }

theorem closeLam_ready (n : Nat) (s : State) : closeLam { s with now := n, lam := readyLam s.lam } = reclosedLam n s
    ∧ State.closeDemand { s with now := n, lam := readyLam s.lam } = nipCloses s := by
  have demand : State.closeDemand { s with now := n, lam := readyLam s.lam } = nipCloses s := by
    rw [closeDemand_eq]
    exact (congrArg (· && _) (decide_eq_true (.inl rfl))).trans (Bool.true_and _)
  refine ⟨?_, demand⟩
  rw [closeLam_eq, demand]
  unfold reclosedLam nipAfterClose
  cases nipCloses s <;> rfl

/-- The unit after its roller has become READY on a feeding line, its nip commanded close where there is web to feed (R157, R160, R161). -/
def reclosed (n : Nat) (l : Link) (s : State) : State :=
  { s with
    now := n
    lam := reclosedLam n s
    reg := if (nipCloses s && s.inputs.nipClosed) = true ∧ s.lam.reclose = true then pointAdded .nipReclose (s.p1 - s.work .dNip) s.reg else s.reg
    link := l }

/-- The event in which a roller becomes READY on a feeding line, but for its reclosure's point. -/
theorem finish_ready {s : State} (h : Settled s) (n : Nat) (ordered : PointsOrdered s) :
    let closed := nipCloses s && s.inputs.nipClosed
    ∃ l, finish s { s with now := n, lam := readyLam s.lam } = attnUpdate (levelled (reclosed n l s))
      ∧ (closed = true → s.lam.reclose = true → s.link.events.length ≤ 62 → pointTold (s.p1 - s.work .dNip) s.reg l.events) := by
  obtain ⟨lam, demand⟩ := closeLam_ready n s
  obtain ⟨l, closes, told⟩ := closeUpdate_told (u := { s with now := n, lam := readyLam s.lam }) ordered
  rw [lam, demand] at closes
  rw [demand] at told
  refine ⟨l, ?_, told⟩
  rw [Unmoved.finish_eq ?_ h, closes]
  · rfl
  · exact {}

theorem infeed_ready {s u : State} (lam : u.lam = reclosedLam u.now s) (drives : u.drives = s.drives) (loop : u.loop = s.loop) (line : u.line = s.line)
    (straps : u.straps = s.straps) : u.infeedReference = if s.straps.laminator = false ∨ nipAfterClose s = .closed then feedBesideNip s else 0 := by
  have feed : feedBesideNip u = feedBesideNip s := by unfold feedBesideNip State.feeding; rw [drives, loop, line]
  rw [infeedReference_eq, feed]
  unfold State.lamReady
  rw [lam, straps]
  cases s.straps.laminator <;> simp [reclosedLam, readyLam]

theorem markDwell_eq {s : State} {d : Dwell} (dwell : s.lam.dwell = some d) : markDwell s = { s with
    panels := s.panels.map fun p =>
      if Panel.touches (s.p1 - s.work .dNip) (s.p1 - s.work .dNip) p = true ∧ p.state ≠ .done ∧ .dwell ∉ p.flags then { p with flags := p.flags ++ [.dwell] } else p
    lam := { s.lam with dwell := some { d with marked := true } } } := by
  unfold markDwell
  dsimp only
  rw [raiseWhere_eq]
  unfold updLam
  dsimp only
  rw [dwell]
  rfl

/-- An opening leaves no close demand where the nip was CLOSED and the infeed stood (R136, R160). -/
theorem closeDemand_of_stands {s u : State} (h : Settled s) (nip : s.lam.nip = .closed) (stands : s.drives.infeedRef = 0) (hot : s.lam.heat.hot = true)
    (heat : u.lam.heat = s.lam.heat) (feed : feedBesideNip u = feedBesideNip s) : u.closeDemand = false := by
  rw [closeDemand_eq, heat]
  by_cases ready : s.lam.heat = .ready
  · have none : feedBesideNip s = 0 := by
      rw [← stands, h.infeed, infeedReference_eq, if_pos]
      unfold State.lamReady; simp [ready, nip]
    unfold nipCloses
    rw [feed, none]; simp
  · have warm : s.lam.heat ≠ .off := of_decide_eq_true hot
    rw [decide_eq_false (not_or.mpr ⟨ready, warm⟩), Bool.false_and]

/-- Settles O41. -/
theorem heatAndDwellTimers : Obligations.HeatAndDwellTimers := by
  intro s h
  refine ⟨fun k settle warming target off => ?_, fun k settle warming target feeding ordered => ?_, fun k idle => ?_, fun d dwell unmarked before => ?_,
    fun d dwell => ?_⟩
  · have act := becomeReady_eq (s := { s with now := max s.now (k.start + k.limit) }) target
    have ended := finish_of_settled (old := s) (h.heat_change off (max s.now (k.start + k.limit)) (readyLam s.lam) rfl (by rw [warming]; rfl) rfl (by
      refine h.idle.trans ?_
      unfold State.idleRuns readyLam; dsimp only; rw [warming]; rfl)) rfl rfl
    refine congrArg Host.Outcome.next ?_
    rw [settle, timerEvent_of_running h, act]
    exact ended
  · have act := becomeReady_eq (s := { s with now := max s.now (k.start + k.limit) }) target
    obtain ⟨l, ended, told⟩ := finish_ready h (max s.now (k.start + k.limit)) ordered
    have ran : timerEvent s.lam.settle becomeReady s = attnUpdate (levelled (reclosed (max s.now (k.start + k.limit)) l s)) := by
      rw [settle, timerEvent_of_running h, act]; exact ended
    have infeed := infeed_ready (s := s) (u := reclosed (max s.now (k.start + k.limit)) l s) rfl rfl rfl rfl rfl
    have idle : (reclosed (max s.now (k.start + k.limit)) l s).idleAfter = s.lam.idle :=
      (idleAfter_of_not (u := reclosed _ l s) (idleRuns_of_feeding feeding)).trans (h.idle_none feeding).symm
    refine ⟨_, congrArg Host.Outcome.next ran, rfl, ?_, ?_, ?_, rfl, told, rfl, rfl, rfl, ?_, ?_⟩
    · show ({ reclosedLam (max s.now (k.start + k.limit)) s with
        dwell := s.lam.dwell, idle := (reclosed (max s.now (k.start + k.limit)) l s).idleAfter } : Laminator) = _
      rw [idle]; rfl
    · show ({ s.drives with infeedRef := (reclosed (max s.now (k.start + k.limit)) l s).infeedReference } : Drives) = _
      rw [infeed]; rfl
    · intro some
      refine dwellAfter_of_not ?_
      unfold State.dwellRuns
      show (s.straps.laminator && _ && decide (nipAfterClose s = .closed) && decide ((reclosed (max s.now (k.start + k.limit)) l s).infeedReference = 0)) = false
      rw [infeed]
      by_cases nip : nipAfterClose s = .closed
      · rw [if_pos (.inr nip), decide_eq_false (p := feedBesideNip s = 0) (by omega), Bool.and_false]
      · rw [decide_eq_false nip, Bool.and_false, Bool.false_and]
    · show ({ s.watches with starve := (reclosed (max s.now (k.start + k.limit)) l s).starveAfter } : Watches) = s.watches
      rw [starveAfter_congr h]
    · exact ⟨rfl, rfl, rfl, rfl, rfl, rfl, rfl, ⟨rfl, rfl⟩, rfl⟩
  · obtain ⟨fitted, rests, heat⟩ := idleRuns_of_timer h idle
    have off : s.feeding = false := by
      unfold State.feeding LineBlock.feeding; rcases rests with rests | rests <;> rw [rests]
    refine congrArg Host.Outcome.next ?_
    rw [idle, timerEvent_of_running h, enterStandby_eq]
    refine finish_of_settled (h.heat_change off _ _ rfl ?_ rfl ?_) rfl rfl
    · rcases heat with heat | heat <;> (dsimp only; rw [heat]; rfl)
    · unfold State.idleRuns; simp
  · have marks : exec .dwellMark s = .next (finish s (markDwell { s with now := max s.now (d.start + d.mark) })) := by
      refine congrArg Host.Outcome.next ?_
      rw [dwell]
      refine (if_pos ?_).trans (event_of_running (f := fun s => markDwell (reachTime d.start d.mark s)) h.running)
      unfold Dwell.toMark; rw [unmarked, decide_eq_true before]; rfl
    have flagged := h.raiseWhere .dwell (Panel.touches (s.p1 - s.work .dNip) (s.p1 - s.work .dNip))
    rw [marks]
    rw [raiseWhere_eq] at flagged
    refine congrArg Host.Outcome.next ((congrArg (finish s) (markDwell_eq (s := { s with now := max s.now (d.start + d.mark) }) dwell)).trans (finish_of_settled ?_ ?_ ?_))
    · exact ⟨flagged.running, pumpStep_none_congr (s := s) rfl rfl rfl rfl h.station, flagged.stop, flagged.close, flagged.infeed,
        (by refine Eq.trans ?_ flagged.dwell; show true = s.lam.dwell.isSome; rw [dwell]; rfl), flagged.idle, flagged.starve, flagged.attn⟩
    · rfl
    · rfl
  · obtain ⟨fitted, hot, nip, stands⟩ := dwellRuns_of_timer h dwell
    have opens : nipOpens { s with now := max s.now (d.start + d.max) } = true := by unfold nipOpens; simp [fitted, nip]
    have opened : nipAfterOpen { s with now := max s.now (d.start + d.max) } = if s.inputs.nipOpen = true then .opened else .opening := if_pos opens
    have ran : exec .dwellMax s = .next (finish s { s with
        now := max s.now (d.start + d.max), lam := openedLam { s with now := max s.now (d.start + d.max) } }) := by
      refine congrArg Host.Outcome.next ?_
      rw [dwell]
      refine (event_of_running (f := fun s => commandOpen (reachTime d.start d.max s)) h.running).trans (congrArg (finish s) ?_)
      exact commandOpen_eq _
    rw [ran]
    refine congrArg Host.Outcome.next ((finish_nip_open h ?_ ?_ ?_ ?_ ?_ ?_ ?_).trans ?_)
    · exact {}
    · exact fitted
    · show nipAfterOpen _ ≠ _
      rw [opened]; split <;> exact nofun
    · exact closeDemand_of_stands h nip stands hot rfl rfl
    · exact h.idle
    · exact starveAfter_congr (s := s) h
    · exact h.attn.congr rfl rfl rfl rfl rfl rfl
    · have drives : ({ s.drives with infeedRef := 0 } : Drives) = s.drives := by rw [← stands]
      unfold openedLam
      dsimp only
      rw [opens, opened, fitted, drives]
      rfl

end Sys2Proof.Machine
end

section
/-!
The end of web (R13, R109, R120, R161, R173) and RESUME (R182).
-/
namespace Sys2Proof.Machine

/-! ### What is written off -/

/-- A panel written off (R13). -/
def writtenOff (p : Panel) : Panel := if p.state = .done then p else { p with state := .done, completion := some .aborted }

theorem abort_eq (p : Panel) : p.abort = writtenOff p := by
  unfold Panel.abort writtenOff
  split
  · rfl
  · rfl

theorem abortPanels_eq (s : State) : abortPanels s = { s with panels := s.panels.map writtenOff } := by
  unfold abortPanels
  rw [List.map_congr_left fun p _ => abort_eq p]

theorem done_of_writtenOff {ps : List Panel} : ∀ p ∈ ps.map writtenOff, p.state = .done := by
  intro p hp
  obtain ⟨q, _, rfl⟩ := List.mem_map.mp hp
  unfold writtenOff
  split
  · assumption
  · rfl

/-- The station with its sequence and its entry dropped, a stroke apart (R112, R120, R127). -/
def droppedStation (x : Station) : Station :=
  { x with cycle := if x.cycle = .stroke then .stroke else .idle, corrections := 0, lastErr := none, recut := false }

theorem dropEntry_eq (s : State) : dropEntry s = { s with station := droppedStation s.station } := by
  unfold dropEntry droppedStation clearRecords
  by_cases stroke : s.station.cycle = .stroke
  · rw [if_pos stroke, if_pos stroke, stroke.symm]
  · rw [if_neg stroke, if_neg stroke]; rfl

theorem rests_droppedStation (x : Station) : (droppedStation x).cycle ≠ .preparing := by
  unfold droppedStation; dsimp only; split <;> exact nofun

/-- With every panel DONE the M2 cursor that drops its expectation takes up none (R68, R86). -/
theorem takeUp2_dropped {s : State} (done : ∀ p ∈ s.panels, p.state = .done) (runs : s.cursor2.state ≠ .halted) : takeUp2 markBound (dropExpect2 s) =
    { s with cursor2 := { state := .idle, expect := none, lastHead := none, deciding := false }, watches := { s.watches with m2Window := none } } := by
  have drops : dropExpect2 s = { s with
      cursor2 := { state := .idle, expect := none, lastHead := none, deciding := false }, watches := { s.watches with m2Window := none } } := if_neg runs
  rw [drops, takeUp2_idle]
  exact next2_of_none rfl fun q hq infeed => by rw [done q hq] at infeed; exact nomatch infeed

theorem dropAborted2_frame {s : State} (done : ∀ p ∈ s.panels, p.state = .done) :
    ∃ c w, dropAborted2 s = { s with cursor2 := c, watches := { s.watches with m2Window := w } } := by
  unfold dropAborted2
  split
  · split
    · rename_i aborted
      rw [takeUp2_dropped done aborted.2]
      exact ⟨_, _, rfl⟩
    · exact ⟨s.cursor2, s.watches.m2Window, rfl⟩
  · exact ⟨s.cursor2, s.watches.m2Window, rfl⟩

/-- The unit after its line has entered END_OF_WEB (R13, R86, R109, R120, R161). -/
def endedWeb (l : LineBlock) (c : Cursor2) (w : Option Watch) (s : State) : State :=
  { s with
    line := { l with state := .endOfWeb }
    panels := s.panels.map writtenOff
    planner := { s.planner with queue := [], target := none }
    station := droppedStation s.station
    cursor2 := c
    watches := { s.watches with m2Window := w }
    lam := openedLam s }

theorem enterEndOfWeb_frame (l : LineBlock) (s : State) : ∃ c w, enterEndOfWeb l s = endedWeb l c w s := by
  unfold enterEndOfWeb
  rw [dropEntry_eq, abortPanels_eq]
  obtain ⟨c, w, dropped⟩ := dropAborted2_frame (s := { emptyQueue { setLine { l with state := .endOfWeb } s with panels := s.panels.map writtenOff } with
    station := droppedStation s.station }) done_of_writtenOff
  refine ⟨c, w, (congrArg commandOpen dropped).trans ?_⟩
  rw [commandOpen_eq]
  rfl

/-! ### A line that comes to rest -/

/-- A station that had nothing to do has nothing to do on a line that lets nothing go on. -/
theorem pumpStep_of_off {s u : State} (h : pumpStep s = none) (station : u.station = s.station) (queue : u.planner.queue = s.planner.queue)
    (off : u.continuing = false) : pumpStep u = none := by
  obtain ⟨_, preparing⟩ := (pumpStep_eq_none_iff s).mp h
  refine (pumpStep_eq_none_iff u).mpr ⟨fun _ work => ?_, fun cycle e current prepared => ?_⟩
  · rw [continuing_of_feeding work.2] at off; exact nomatch off
  · rw [station] at cycle
    have first : s.current = some e := by rw [← current]; unfold State.current; rw [queue]
    have ready : s.prepared e = true := by rw [← prepared]; unfold State.prepared State.bladesConfirmed; rw [station]
    refine ⟨(preparing cycle e first ready).1, ?_⟩
    unfold State.mayTraverse; rw [off, Bool.and_false]

/-- The end of an event that leaves a line neither RUNNING nor STOPPING, and the station with nothing to do. -/
theorem finish_off {old u : State} (off : u.continuing = false) (station : pumpStep u = none) : ∃ k, finish old u = { levelled u with link := k } := by
  have feeding : u.feeding = false := by
    by_contra on
    rw [Bool.not_eq_false] at on
    rw [continuing_of_feeding on] at off; exact nomatch off
  refine finish_not_feeding_linked feeding station ?_
  have rests : u.line.state ≠ .stopping := fun stopping => by
    unfold State.continuing at off; simp [stopping] at off
  unfold State.stopEnds
  rw [decide_eq_false rests, Bool.false_and]

theorem infeedRef_off {s : State} (h : Settled s) (off : s.feeding = false) : s.drives.infeedRef = 0 := h.infeed.trans (infeedReference_of_not_feeding off)

theorem drives_off {s u : State} (h : Settled s) (before : s.feeding = false) (off : u.feeding = false) (drives : u.drives = s.drives) :
    (levelled u).drives = s.drives := by
  show ({ u.drives with infeedRef := u.infeedReference } : Drives) = s.drives
  rw [infeedReference_of_not_feeding off, drives, ← infeedRef_off h before]

theorem lam_off {s u : State} (h : Settled s) (before : s.feeding = false) (off : u.feeding = false) (lam : u.lam = s.lam) (straps : u.straps = s.straps) :
    (levelled u).lam = { s.lam with idle := u.idleAfter } := by
  have dwell : (infeedUpdate u).dwellAfter = u.lam.dwell := by
    refine dwellAfter_of_stands (u := infeedUpdate u) ?_
    refine (congrArg (fun x : Laminator => x.dwell.isSome) lam).trans (h.dwell.trans ?_)
    unfold State.dwellRuns infeedUpdate
    dsimp only
    rw [infeedReference_of_not_feeding off, infeedRef_off h before, lam, straps]
  show ({ u.lam with dwell := (infeedUpdate u).dwellAfter, idle := u.idleAfter } : Laminator) = _
  rw [dwell, lam]

/-! ### RESUME (R182) -/

/-- A RESUME that lets the line leave FAULTED or E_STOPPED for its resume state (R182). -/
def MayResume (f : FirstFault) (s : State) : Prop :=
  (s.line.state = .faulted ∧ s.present f.cause = false) ∨ (s.line.state = .eStopped ∧ s.present .estop = false ∧ f.cause = .estop)

theorem MayResume.off {f : FirstFault} {s : State} (h : MayResume f s) : s.feeding = false := by
  unfold State.feeding LineBlock.feeding
  rcases h with ⟨line, _⟩ | ⟨line, _, _⟩ <;> rw [line]

theorem resumeAct_of_may {s : State} {f : FirstFault} (first : s.line.firstFault = some f) (h : MayResume f s) : resumeAct s = lineAccept (resumeLine s) := by
  unfold resumeAct
  rcases h with ⟨line, gone⟩ | ⟨line, gone, estop⟩
  · rw [line]
    exact if_neg (by unfold State.firstPresent; rw [first]; simpa using gone)
  · rw [line]
    refine (if_neg (by rw [gone]; exact nofun)).trans (if_pos ?_)
    rw [first]; simpa using estop

theorem resumeAct_over_fault {s : State} {f : FirstFault} (first : s.line.firstFault = some f) (line : s.line.state = .eStopped)
    (gone : s.present .estop = false) (other : f.cause ≠ .estop) : resumeAct s = lineAccept (setLine { s.line with state := .faulted } s) := by
  unfold resumeAct
  rw [line]
  refine (if_neg (by rw [gone]; exact nofun)).trans (if_neg ?_)
  rw [first]; simpa using other

/-- A line request that leaves the line at rest. -/
theorem lineRequest_leaves {s u : State} (free : LinkFree s) (synced : s.link.synced = true) {k tag : Byte} {act : State → Answer}
    (taken : act (holding ⟨k, tag, []⟩ s) = lineAccept u) (off : u.continuing = false) (station : pumpStep u = none) :
    ∃ r l, request k tag [] 0 false act s = setReply r { levelled u with link := l } ∧ r.status = .ok ∧ r.data = u.line.state.code := by
  obtain ⟨l, ended⟩ := finish_off (old := holding ⟨k, tag, []⟩ s) off station
  obtain ⟨r, served, status, data⟩ := request_leaves (n := 0) (u := false) free rfl (.inr synced) taken rfl ended
  exact ⟨r, l, served, status, data⟩

theorem continuing_of_state {s : State} (h : s.line.state ≠ .running ∧ s.line.state ≠ .stopping) : s.continuing = false :=
  decide_eq_false (not_or.mpr h)

theorem reply_leaves {x : Reply} {u : State} {l : Link} {d : List Byte} (status : x.status = .ok) (data : x.data = d) :
    (setReply x { u with link := l }).link.reply.map (fun r => (r.status, r.data)) = some (.ok, d) := by
  show some (x.status, x.data) = _
  rw [status, data]

/-- A line that changes its state at rest leaves the rest of the unit, its timers apart, as it was. -/
theorem lam_but_idle {s u : State} (h : Settled s) (before : s.feeding = false) (off : u.feeding = false) (lam : u.lam = s.lam) (straps : u.straps = s.straps) :
    { (levelled u).lam with idle := s.lam.idle } = s.lam := by rw [lam_off h before off lam straps]

/-- The unit with its line UNTHREADED and both cursors HALTED (R56, R86, R182). -/
def unthreadedWeb (l : LineBlock) (s : State) : State :=
  { s with
    line := { l with state := .unthreaded }
    cursor1 := { s.cursor1 with state := .halted, expect := none, deciding := false }
    cursor2 := { s.cursor2 with state := .halted, expect := none, deciding := false }
    watches := { s.watches with m1Window := none, m2Window := none } }

/-- Settles O18. -/
theorem resumeReturns : Obligations.ResumeReturns := by
  intro s tag r f free h synced resume first
  have onFault (line : s.line.state = .eStopped) (gone : s.present .estop = false) (other : f.cause ≠ .estop) : ∃ t, exec (.resume tag []) s = .next t
        ∧ t.line = { s.line with state := .faulted }
        ∧ t.panels = s.panels ∧ t.planner = s.planner ∧ t.station = s.station ∧ t.reg = s.reg ∧ t.drives = s.drives
        ∧ t.lam = s.lam := by
    have before : s.feeding = false := by unfold State.feeding LineBlock.feeding; rw [line]
    obtain ⟨x, l, act, _, _⟩ := lineRequest_leaves (k := 0x24) (tag := tag) (act := resumeAct) (u := setLine { s.line with state := .faulted } (holding ⟨0x24, tag, []⟩ s)) free synced
      (resumeAct_over_fault (s := holding ⟨0x24, tag, []⟩ s) first line gone other) rfl (pumpStep_of_off (s := s) h.station rfl rfl rfl)
    have idle : s.lam.idle = none := by
      have none := h.idle
      unfold State.idleRuns at none
      rw [line] at none
      simpa using none
    refine ⟨_, congrArg Host.Outcome.next act, rfl, rfl, rfl, rfl, rfl, drives_off h before (by exact rfl) rfl, ?_⟩
    refine (lam_off (u := setLine { s.line with state := .faulted } (holding ⟨0x24, tag, []⟩ s)) h before rfl rfl rfl).trans ?_
    rw [idleAfter_of_not (by unfold State.idleRuns; simp [setLine]), ← idle]
  refine ⟨fun rest may => ?_, fun _ => onFault, fun halted may => ?_, fun _ => onFault, fun ended may => ?_⟩
  · have resumes : resumeLine (holding ⟨0x24, tag, []⟩ s) = setLine { s.line with state := r, firstFault := none, resume := none } (holding ⟨0x24, tag, []⟩ s) := by
      unfold resumeLine
      rw [show (holding ⟨0x24, tag, []⟩ s).line.resume = some r from resume]
      rcases rest with rfl | rfl <;> rfl
    have off : State.continuing (setLine { s.line with state := r, firstFault := none, resume := none } (holding ⟨0x24, tag, []⟩ s)) = false := by
      rcases rest with rfl | rfl <;> rfl
    have quiet : State.feeding (setLine { s.line with state := r, firstFault := none, resume := none } (holding ⟨0x24, tag, []⟩ s)) = false := by
      rcases rest with rfl | rfl <;> rfl
    obtain ⟨x, l, act, status, data⟩ := lineRequest_leaves (k := 0x24) (tag := tag) (act := resumeAct)
      (u := setLine { s.line with state := r, firstFault := none, resume := none } (holding ⟨0x24, tag, []⟩ s)) free synced
      ((resumeAct_of_may (s := holding ⟨0x24, tag, []⟩ s) first may).trans (congrArg lineAccept resumes)) off (pumpStep_of_off (s := s) h.station rfl rfl off)
    exact ⟨_, congrArg Host.Outcome.next act, rfl, rfl, rfl, rfl, rfl, drives_off h (MayResume.off may) quiet rfl, rfl, rfl,
      lam_but_idle h (MayResume.off may) quiet rfl rfl, reply_leaves status data⟩
  · have resumes : resumeLine (holding ⟨0x24, tag, []⟩ s) = unthreadedWeb { s.line with firstFault := none, resume := none } (holding ⟨0x24, tag, []⟩ s) := by
      unfold resumeLine
      rw [show (holding ⟨0x24, tag, []⟩ s).line.resume = some r from resume, halted]
      rfl
    obtain ⟨x, l, act, status, data⟩ := lineRequest_leaves (k := 0x24) (tag := tag) (act := resumeAct)
      (u := unthreadedWeb { s.line with firstFault := none, resume := none } (holding ⟨0x24, tag, []⟩ s)) free synced
      ((resumeAct_of_may (s := holding ⟨0x24, tag, []⟩ s) first may).trans (congrArg lineAccept resumes)) rfl (pumpStep_of_off (s := s) h.station rfl rfl rfl)
    refine ⟨_, congrArg Host.Outcome.next act, rfl, rfl, rfl, rfl, rfl, rfl, rfl, rfl, rfl, drives_off h (MayResume.off may) (by exact rfl) rfl,
      lam_but_idle h (MayResume.off may) (by exact rfl) rfl rfl, ?_⟩
    rw [halted]
    exact reply_leaves status data
  · have resumes : resumeLine (holding ⟨0x24, tag, []⟩ s) = enterEndOfWeb { s.line with firstFault := none, resume := none } (holding ⟨0x24, tag, []⟩ s) := by
      unfold resumeLine
      rw [show (holding ⟨0x24, tag, []⟩ s).line.resume = some r from resume, ended]
    obtain ⟨c, w, web⟩ := enterEndOfWeb_frame { s.line with firstFault := none, resume := none } (holding ⟨0x24, tag, []⟩ s)
    obtain ⟨x, l, act, status, data⟩ := lineRequest_leaves (k := 0x24) (tag := tag) (act := resumeAct)
      (u := endedWeb { s.line with firstFault := none, resume := none } c w (holding ⟨0x24, tag, []⟩ s)) free synced
      ((resumeAct_of_may (s := holding ⟨0x24, tag, []⟩ s) first may).trans (congrArg lineAccept (resumes.trans web))) rfl
      (pumpStep_of_rest rfl (rests_droppedStation _))
    exact ⟨_, congrArg Host.Outcome.next act, rfl, rfl, rfl, rfl, rfl, infeedReference_of_not_feeding rfl, rfl, rfl⟩

end Sys2Proof.Machine
end

section
/-!
CLEAR (R177) and THREAD (R174).
-/
namespace Sys2Proof.Machine

/-! ### Registration written off (R85, R86) -/

/-- The registration unit as CLEAR and THREAD leave it, its stretch apart (R85). -/
def wipedReg (x : RegBlock) : RegBlock :=
  { x with
    anchor := none, mode := .seek, register := if x.lock = .auto then .outOfRegister else x.register
    lockCount := 0, coastCount := 0, points := [] }

theorem wiped_eq (x : RegBlock) (d : ModeCause) (c : RegCause) :
    let y : RegStep := changeMode .seek d { reg := x }
    { (takeOut c { y with reg := { y.reg with register := x.register }, regCause := none }).reg with
      anchor := none, lockCount := 0, coastCount := 0, points := [] } = wipedReg x := by
  have reg := (changeMode_kept .seek d { reg := x }).1
  dsimp only
  rw [takeOut_reg]
  dsimp only
  rw [reg]
  unfold wipedReg
  split <;> rfl

theorem clearReg_frame {s : State} (done : ∀ p ∈ s.panels, p.state = .done) : ∃ c w l, clearReg s = { s with
    reg := wipedReg s.reg, cursor2 := c, watches := { s.watches with m2Window := w }, link := l }
    ∧ c.state = if s.cursor2.state = .halted then .halted else .idle := by
  unfold clearReg
  dsimp only
  rw [wiped_eq s.reg .clear .clear, applyReg_eq]
  dsimp only
  generalize (applyReg _ s).link = l
  by_cases halted : s.cursor2.state = .halted
  · have drops : dropExpect2 { s with reg := wipedReg s.reg, link := l } =
        { s with reg := wipedReg s.reg, link := l, cursor2 := { s.cursor2 with lastHead := none } } := if_pos halted
    rw [drops, if_pos halted]
    refine ⟨{ s.cursor2 with lastHead := none }, s.watches.m2Window, l, rfl, ?_⟩
    rw [if_pos halted]; exact halted
  · have drops : dropExpect2 { s with reg := wipedReg s.reg, link := l } = { s with
        reg := wipedReg s.reg, link := l, cursor2 := { state := .idle, expect := none, lastHead := none, deciding := false }
        watches := { s.watches with m2Window := none } } := if_neg halted
    have runs : (dropExpect2 { s with reg := wipedReg s.reg, link := l }).cursor2.state ≠ .halted := by rw [drops]; exact nofun
    rw [if_neg runs, takeUp2_dropped (by exact done) (by exact halted), if_neg halted]
    exact ⟨_, _, l, rfl, rfl⟩

/-! ### The M1 cursor of a web without panels (R56) -/

theorem takeUpM1_done {s : State} (done : ∀ p ∈ s.panels, p.state = .done) (runs : s.cursor1.state ≠ .halted) (last : s.cursor1.lastHead = none) :
    takeUpM1 s = becomeIdle1 (freshExpect1 s) :=
  takeUpM1_idle runs (next1_of_none last fun q hq queued => by rw [done q hq] at queued; exact nomatch queued)

theorem clearM1_frame {s : State} (done : ∀ p ∈ s.panels, p.state = .done) : ∃ (c : Cursor1) (w : Option Watch) (b : Option Int) (x : Bar), clearM1 s = { s with
    cursor1 := { c with seekPending := true, lastTail := none, holdLimit := s.cursor1.holdLimit }
    watches := { s.watches with m1Window := w }, drives := { s.drives with starveBase := b }, sensor1 := { s.sensor1 with bar := x } }
    ∧ c.state = if s.cursor1.state = .halted then .halted else .idle := by
  unfold clearM1
  dsimp only
  by_cases halted : s.cursor1.state = .halted
  · rw [if_pos halted, if_pos halted]
    exact ⟨{ s.cursor1 with lastHead := none }, s.watches.m1Window, s.drives.starveBase, s.sensor1.bar, rfl, halted⟩
  · rw [if_neg halted, if_neg halted, takeUpM1_done]
    · exact ⟨{ state := .idle, lastHead := none }, none, _, _, rfl, rfl⟩
    · exact done
    · exact nofun
    · rfl

/-! ### CLEAR (R177) -/

theorem clearLine_frame (s : State) : ∃ (c1 : Cursor1) (c2 : Cursor2) (w : Watches) (b : Option Int) (x : Bar) (l : Link), clearLine s = { s with
      panels := s.panels.map writtenOff
      lastPlan := none
      planner := { s.planner with queue := [], target := none }
      station := droppedStation s.station
      roll1 := { s.roll1 with fault := false }
      roll2 := { s.roll2 with fault := false }
      cursor1 := { c1 with seekPending := true, lastTail := none, holdLimit := s.cursor1.holdLimit }
      drives := { s.drives with starveBase := b }
      sensor1 := { s.sensor1 with bar := x }
      reg := wipedReg s.reg
      cursor2 := c2
      watches := w
      line := clearedLine s.line
      lam := openedLam s
      link := l }
    ∧ (c1.state = if s.cursor1.state = .halted then .halted else .idle) ∧ (c2.state = if s.cursor2.state = .halted then .halted else .idle) := by
  obtain ⟨c1, w1, b, x, first, state1⟩ := clearM1_frame (s := { s with
      panels := s.panels.map writtenOff
      lastPlan := none
      planner := { s.planner with queue := [], target := none }
      station := droppedStation s.station
      roll1 := { s.roll1 with fault := false }
      roll2 := { s.roll2 with fault := false } }) done_of_writtenOff
  obtain ⟨c2, w2, l, second, state2⟩ := clearReg_frame (s := clearM1 { s with
      panels := s.panels.map writtenOff
      lastPlan := none
      planner := { s.planner with queue := [], target := none }
      station := droppedStation s.station
      roll1 := { s.roll1 with fault := false }
      roll2 := { s.roll2 with fault := false } }) (by rw [first]; exact done_of_writtenOff)
  refine ⟨c1, c2, { s.watches with m1Window := w1, m2Window := w2 }, b, x, l, ?_, state1, ?_⟩
  · unfold clearLine
    rw [abortPanels_eq, dropEntry_eq]
    refine (congrArg (fun t => commandOpen (setLine (clearedLine s.line) t)) second).trans ?_
    rw [first, commandOpen_eq]
    rfl
  · rw [first] at state2; exact state2

theorem clearedLine_eq (l : LineBlock) : clearedLine l = if l.state = .holding then { l with state := .threaded, stop := none }
      else if l.state = .faulted ∧ l.resume = some .holding then { l with resume := some .threaded } else l := by
  obtain ⟨state, stop, first, resume⟩ := l
  cases state with
  | faulted => by_cases resumes : resume = some .holding <;> simp [clearedLine, resumes]
  | _ => rfl

/-- Settles O17. -/
theorem clearWritesOff : Obligations.ClearWritesOff := by
  intro s tag free h synced allowed
  obtain ⟨c1, c2, w, b, y, l, cleared, state1, state2⟩ := clearLine_frame (holding ⟨0x23, tag, []⟩ s)
  have act : clearAct (holding ⟨0x23, tag, []⟩ s) = lineAccept (clearLine (holding ⟨0x23, tag, []⟩ s)) := if_pos allowed
  rw [cleared] at act
  have off : (clearedLine s.line).state ≠ .running ∧ (clearedLine s.line).state ≠ .stopping := by
    unfold clearedLine
    rcases allowed with line | line | line | line <;> rw [line] <;> simp [line]
  obtain ⟨r, k, served, status, data⟩ := lineRequest_leaves free synced act (continuing_of_state off)
    (pumpStep_of_rest (Bool.not_eq_true _ |>.mp fun on => by
      have goes := continuing_of_feeding on
      rw [continuing_of_state off] at goes; exact nomatch goes) (rests_droppedStation _))
  refine ⟨_, congrArg Host.Outcome.next served, rfl, rfl, rfl, rfl, rfl, state2, state1, rfl, rfl, rfl, rfl, rfl, rfl, ?_, rfl, rfl, clearedLine_eq _, rfl, rfl, rfl, rfl, rfl, rfl,
    rfl, rfl, reply_leaves status data⟩
  intro fitted
  show (s.straps.laminator || s.lam.reclose) = true
  rw [fitted]; rfl

/-! ### THREAD (R174) -/

theorem endTeach_frame (sn : Sensor) (r : TeachResult) (s : State) :
    ∃ w l, endTeach sn r s = setSensor sn { s.sensor sn with teach := none } { s with watches := w, link := l } := by
  cases teach : (s.sensor sn).teach with
  | none =>
    have stays : endTeach sn r s = s := by unfold endTeach; rw [teach]
    refine ⟨s.watches, s.link, ?_⟩
    rw [stays, ← teach]
    cases sn <;> rfl
  | some t =>
    rw [endTeach_of_some teach, queueEvent_eq]
    cases sn
    · exact ⟨{ s.watches with teach1 := none }, _, rfl⟩
    · exact ⟨{ s.watches with teach2 := none }, _, rfl⟩

theorem threadReg_frame (s : State) : ∃ l, threadReg s = { s with
    reg := { wipedReg s.reg with s := s.initialStretch }
    cursor2 := { state := .idle, expect := none, lastHead := none, deciding := false }
    watches := { s.watches with m2Window := none }
    link := l } := by
  have wiped := congrArg (fun x : RegBlock => { x with s := s.initialStretch }) (wiped_eq s.reg .thread .thread)
  dsimp only at wiped
  unfold threadReg
  dsimp only
  rw [wiped]
  split
  · rw [applyReg_eq]; exact ⟨_, rfl⟩
  · rw [applyReg_eq, queueEvent_eq]; exact ⟨_, rfl⟩

theorem threadM1_eq {s : State} (done : ∀ p ∈ s.panels, p.state = .done) : threadM1 s = { s with
    cursor1 := { state := .idle, expect := none, seekPending := true, lastTail := none, holdLimit := none, lastHead := none }
    drives := { s.drives with starveBase := some s.p1 }
    watches := { s.watches with m1Window := none }
    sensor1 := { s.sensor1 with bar := s.sensor1.bar.markStale } } := by
  unfold threadM1
  rw [becomeIdle1_of_busy, takeUpM1_done]
  · rfl
  · exact done
  · exact nofun
  · rfl
  · exact nofun

/-- The unit on a new web (R174). -/
def threadedWeb (l : Link) (s : State) : State :=
  { s with
    line := { s.line with state := .threaded, stop := none }
    roll1 := { scale := s.work .e1Scale }
    roll2 := { scale := s.work .e2Scale }
    watches := {}
    loop := { s.loop with atThread := s.loop.length, k := s.loop.length.map (fun l => s.work .dFixed + l), watching := true }
    sensor1 := { threadSensor s.inputs.dark1 (s.work .threshM1) { s.sensor1 with teach := none } with bar := abandonedBar s.inputs.dark1 }
    sensor2 := threadSensor s.inputs.dark2 (s.work .threshM2) { s.sensor2 with teach := none }
    webEnd := false
    lastPlan := none
    cursor1 := { state := .idle, expect := none, seekPending := true, lastTail := none, holdLimit := none, lastHead := none }
    reg := { wipedReg s.reg with s := s.initialStretch }
    cursor2 := { state := .idle, expect := none, lastHead := none }
    planner := { s.planner with limit := none }
    drives := { s.drives with webSeq := .none, aEnd := none, tailOutPos := none, starveBase := some 0 }
    lam := { s.lam with reclose := false }
    link := l }

theorem threadLine_frame {s : State} (done : ∀ p ∈ s.panels, p.state = .done) : ∃ l, threadLine s = threadedWeb l s := by
  obtain ⟨w1, l1, first⟩ := endTeach_frame .m1 .aborted s
  obtain ⟨w2, l2, second⟩ := endTeach_frame .m2 .aborted (endTeach .m1 .aborted s)
  rw [first] at second
  unfold threadLine
  dsimp only
  rw [first, second]
  obtain ⟨l, reg⟩ := threadReg_frame (captureLoop (setLine { s.line with state := .threaded, stop := none } { s with
    roll1 := { scale := s.work .e1Scale }
    roll2 := { scale := s.work .e2Scale }
    watches := {}
    sensor1 := threadSensor s.inputs.dark1 (s.work .threshM1) { s.sensor1 with teach := none }
    sensor2 := threadSensor s.inputs.dark2 (s.work .threshM2) { s.sensor2 with teach := none }
    webEnd := false
    lastPlan := none
    planner := { s.planner with limit := none }
    drives := { s.drives with webSeq := .none, aEnd := none, tailOutPos := none }
    lam := { s.lam with reclose := false }
    link := l2 }))
  refine ⟨l, (congrArg threadM1 reg).trans ?_⟩
  have bar : (abandonedBar s.inputs.dark1).markStale = abandonedBar s.inputs.dark1 := by cases s.inputs.dark1 <;> rfl
  refine (threadM1_eq ?_).trans ?_
  · exact done
  · unfold threadedWeb; rw [← bar]; rfl

/-- Settles O14. -/
theorem threadBeginsWeb : Obligations.ThreadBeginsWeb := by
  intro s tag free h synced line done knife dancer sound
  obtain ⟨l, threaded⟩ := threadLine_frame (s := holding ⟨0x20, tag, []⟩ s) done
  have act : threadAct (holding ⟨0x20, tag, []⟩ s) = lineAccept (threadLine (holding ⟨0x20, tag, []⟩ s)) := by
    refine (if_pos line).trans (if_pos ?_)
    unfold State.canThread
    have home : s.station.knife.atHome = true := by unfold KnifeState.atHome; simpa using knife
    have all : s.panels.all (fun p => decide (p.state = .done)) = true := List.all_eq_true.mpr fun p hp => decide_eq_true (done p hp)
    show (s.panels.all _ && s.station.knife.atHome && s.sampler.dancer.isSome && !s.loop.faulted) = true
    rw [all, home, dancer, sound]; rfl
  rw [threaded] at act
  have off : s.feeding = false := by
    unfold State.feeding LineBlock.feeding; rcases line with line | line | line <;> rw [line]
  obtain ⟨r, k, served, status, data⟩ := lineRequest_leaves free synced act (by exact rfl) (pumpStep_of_off (s := s) h.station rfl rfl rfl)
  have quiet : (threadedWeb l (holding ⟨0x20, tag, []⟩ s)).feeding = false := rfl
  have dwell : (infeedUpdate (threadedWeb l (holding ⟨0x20, tag, []⟩ s))).dwellAfter = s.lam.dwell := by
    refine dwellAfter_of_stands (u := infeedUpdate (threadedWeb l (holding ⟨0x20, tag, []⟩ s))) (h.dwell.trans ?_)
    have stands : (infeedUpdate (threadedWeb l (holding ⟨0x20, tag, []⟩ s))).drives.infeedRef = s.drives.infeedRef :=
      (infeedReference_of_not_feeding quiet).trans (infeedRef_off h off).symm
    unfold State.dwellRuns
    rw [stands]
    rfl
  refine ⟨_, congrArg Host.Outcome.next served, rfl, rfl, rfl, ?_, rfl, rfl, rfl, rfl, rfl, rfl, rfl, rfl, rfl, rfl, rfl, ?_, ?_, rfl, rfl, rfl, rfl, rfl, rfl,
    reply_leaves status data⟩
  · show ({ starve := (threadedWeb l (holding ⟨0x20, tag, []⟩ s)).starveAfter } : Watches) = {}
    rw [starveAfter_of_not_feeding quiet]
  · show ({ s.drives with
      webSeq := .none, aEnd := none, tailOutPos := none, starveBase := some 0
      infeedRef := (threadedWeb l (holding ⟨0x20, tag, []⟩ s)).infeedReference } : Drives) = _
    rw [infeedReference_of_not_feeding quiet, ← infeedRef_off h off]
  · show ({ s.lam with dwell := (infeedUpdate (threadedWeb l (holding ⟨0x20, tag, []⟩ s))).dwellAfter } : Laminator) = _
    rw [dwell]

end Sys2Proof.Machine
end

section
/-!
The E-stop (R180, R181).
-/
namespace Sys2Proof.Machine

/-- The station's sequence after the E-stop (R116, R118, R125, R128). -/
def cycleAfterEStop (s : State) : Cycle :=
  match s.station.cycle with
  | .approach => .idle
  | .correct => .paused
  | .preparing => .paused
  | .stroke => if s.current.isSome = true then .paused else .idle
  | c => c

/-- The E-stop interrupts a traverse for an entry (R128). -/
abbrev CutInterrupted (s : State) : Prop := s.station.cycle = .stroke ∧ s.current.isSome = true

/-- The queue after the E-stop (R116, R118, R125, R128). -/
def queueAfterEStop (s : State) : List Entry :=
  if s.station.cycle = .approach then firstSet true .pending s.planner.queue
  else if s.station.cycle = .correct ∨ s.station.cycle = .preparing ∨ CutInterrupted s then firstSet true .settling s.planner.queue
  else s.planner.queue

/-- The station after the E-stop: a knife under way is UNHOMED, its timer stopped (R128, R132). -/
def stationAfterEStop (s : State) : Station :=
  { s.station with
    cycle := cycleAfterEStop s
    recut := s.station.recut || decide (CutInterrupted s)
    knife := if s.station.cycle = .stroke ∨ s.station.knife = .homing then .unhomed else s.station.knife
    knifeTimer := if s.station.cycle = .stroke ∨ s.station.knife = .homing then none else s.station.knifeTimer }

theorem stopHoming_eq (s : State) : stopHoming s = { s with station := { s.station with
    knife := if s.station.knife = .homing then .unhomed else s.station.knife
    knifeTimer := if s.station.knife = .homing then none else s.station.knifeTimer } } := by
  unfold stopHoming
  split <;> rfl

theorem interruptTraverse_of_none {s : State} (none' : s.current = none) : interruptTraverse s = { s with
    station := { s.station with cycle := .idle, knife := .unhomed, knifeTimer := none } } := by
  have same : State.current { s with station := { s.station with knife := .unhomed, knifeTimer := none } } = none := none'
  unfold interruptTraverse
  dsimp only
  rw [same]
  rfl

theorem stationEStop_eq (s : State) : stationEStop s = { s with
    station := stationAfterEStop s, planner := { s.planner with queue := queueAfterEStop s } } := by
  unfold stationEStop
  dsimp only
  rw [stationFault_eq]
  unfold stationAfterEStop cycleAfterEStop queueAfterEStop
  by_cases stroke : s.station.cycle = .stroke
  · have keeps : ({ s with station := { s.station with cycle := cycleAfterFault s.station.cycle }, planner := { s.planner with queue := queueAfterFault s } } : State) = s := by
      unfold queueAfterFault
      rw [stroke]
      simp only [cycleAfterFault]
      rw [if_neg (by exact nofun), if_neg (by simp), ← stroke]
    rw [keeps, if_pos stroke]
    by_cases lost : s.current = none
    · rw [interruptTraverse_of_none lost, stopHoming_eq]
      simp [CutInterrupted, lost, stroke]
    · obtain ⟨e, current⟩ := Option.ne_none_iff_exists'.mp lost
      rw [interruptTraverse_of_current current, stopHoming_eq]
      simp [CutInterrupted, current, stroke]
  · have apart : cycleAfterFault s.station.cycle ≠ .stroke := by
      cases cycle : s.station.cycle <;> simp_all [cycleAfterFault]
    rw [if_neg (by exact apart), stopHoming_eq]
    have cut : ¬ CutInterrupted s := fun x => stroke x.1
    have cycle : cycleAfterFault s.station.cycle = match s.station.cycle with
        | .approach => .idle
        | .correct => .paused
        | .preparing => .paused
        | .stroke => if s.current.isSome = true then .paused else .idle
        | c => c := by
      cases cycle : s.station.cycle <;> first | rfl | exact absurd cycle stroke
    simp [cut, stroke, cycle, queueAfterFault]

theorem cycleAfterEStop_rests (s : State) : cycleAfterEStop s ≠ .preparing := by
  unfold cycleAfterEStop
  cases cycle : s.station.cycle with
  | stroke => dsimp only; split <;> exact nofun
  | _ => exact nofun

/-- The line after the E-stop (R180). -/
def estopLine (s : State) : LineBlock :=
  if s.line.state = .faulted then { s.line with state := .eStopped, stop := none }
  else { state := .eStopped, stop := none, firstFault := some ⟨.estop, s.p1, s.p2⟩, resume := some (resumeFrom s.line.state) }

theorem estopLine_state (s : State) : (estopLine s).state = .eStopped := by unfold estopLine; split <;> rfl

/-- The unit as the E-stop leaves it, its levels apart (R180). -/
def estopped (s : State) : State :=
  { s with
    line := estopLine s
    station := stationAfterEStop s
    planner := { s.planner with queue := queueAfterEStop s }
    drives := { s.drives with outfeed := .stopped }
    lam := openedLam s }

theorem enterEStop_eq {s : State} (on : s.line.state ≠ .eStopped) : enterEStop s = estopped s := by
  refine (if_neg on).trans ?_
  dsimp only
  rw [stationEStop_eq, commandOpen_eq]
  rfl

/-- Settles O44. -/
theorem eStopStopsLine : Obligations.EStopStopsLine := by
  intro s h inactive
  dsimp only
  have acts : exec .eStop s = .next (finish s (enterEStop { s with inputs := { s.inputs with eStop := true } })) := by
    refine congrArg Host.Outcome.next ((inputEvent_of_running h.running _ _).trans ?_)
    rw [inactive]; rfl
  refine ⟨fun on => ?_, fun there => ?_⟩
  · have quiet : (estopped { s with inputs := { s.inputs with eStop := true } }).feeding = false := by
      show (estopLine _).feeding = false
      unfold LineBlock.feeding; rw [estopLine_state]
    have stands : (estopped { s with inputs := { s.inputs with eStop := true } }).stopEnds = false := by
      unfold State.stopEnds
      show (decide ((estopLine { s with inputs := { s.inputs with eStop := true } }).state = .stopping) && _) = false
      rw [estopLine_state]; rfl
    have changed : (levelled (estopped { s with inputs := { s.inputs with eStop := true } })).line.state ≠ s.line.state := by
      show (estopLine { s with inputs := { s.inputs with eStop := true } }).state ≠ _
      rw [estopLine_state]; exact fun same => on same.symm
    have ended := finish_of_not_feeding (old := s) quiet (pumpStep_of_rest quiet (cycleAfterEStop_rests _)) stands
    rw [lineUpdate_of_changed changed] at ended
    rw [enterEStop_eq (by exact on), ended, queueEvent_eq] at acts
    refine ⟨_, acts, ?_, infeedReference_of_not_feeding quiet, rfl, rfl, rfl, ?_, rfl, rfl, rfl, rfl, rfl, rfl, rfl, rfl, rfl, rfl, rfl, rfl, rfl, rfl, fun room => ?_⟩
    · show estopLine { s with inputs := { s.inputs with eStop := true } } = _
      unfold estopLine
      dsimp only
      rw [resumeFrom_eq]
      rfl
    · show (s.station.recut || decide (CutInterrupted s)) = true ↔ _
      rw [Bool.or_eq_true, decide_eq_true_iff]
      exact or_comm
    · exact (queueEvent_events _ _).trans (congrArg (s.link.events ++ ·) (if_pos room))
  · rw [acts]
    refine congrArg Host.Outcome.next ((congrArg (finish s) (if_pos there)).trans (h.finish_inputs _))

end Sys2Proof.Machine
end

section
/-!
The free run (R142) and RUN (R175).
-/
namespace Sys2Proof.Machine

/-! ### The free run -/

theorem zoneHolds_of_not_draining {s : State} (web : s.drives.webSeq ≠ .draining) : s.zoneHolds = decide (s.loop.zone = .empty ∨ s.loop.zone = .unknown) := by
  unfold State.zoneHolds State.draining; rw [decide_eq_false web]; rfl

theorem freeRunFrom_of_moves {s : State} (web : s.drives.webSeq ≠ .draining) (ahead : 0 < s.work .dMk) (zone : ¬ (s.loop.zone = .empty ∨ s.loop.zone = .unknown)) :
    movedTo s s.loop.zone s.drives.setpoint .freeRun .free (s.p2 + s.work .dMk) = freeRunFrom s := by
  have distance : (s.p2 + s.work .dMk - s.p2).natAbs = (s.work .dMk).toNat := by omega
  have forward : ¬ s.p2 + s.work .dMk < s.p2 := by omega
  unfold movedTo freeRunFrom
  dsimp only
  rw [if_neg (show ¬ Purpose.freeRun = .creep from nofun), if_neg forward, if_neg zone, distance]
  simp only [web, or_false]

/-- A free run begun on a line that is not DRAINING, with the outfeed not HELD or its zone holding it (R140 to R142). -/
theorem startFreeRun_eq {s : State} (web : s.drives.webSeq ≠ .draining) (ahead : 0 < s.work .dMk)
    (held : s.outfeedHeld = true → s.loop.zone = .empty ∨ s.loop.zone = .unknown) : startFreeRun s = setOutfeed (freeRunFrom s) s := by
  have target : s.freeEnd = some (s.p2 + s.work .dMk) := if_neg (by unfold State.draining; simpa using web)
  unfold startFreeRun
  rw [target, zoneHolds_of_not_draining web]
  dsimp only
  by_cases zone : s.loop.zone = .empty ∨ s.loop.zone = .unknown
  · rw [if_pos (.inl (decide_eq_true zone))]
    have stays : freeRunFrom s = .held .free := if_pos zone
    rw [stays]
  · rw [if_neg (not_or.mpr ⟨by simpa using zone, fun x => zone (held x)⟩), issueMove_eq, freeRunFrom_of_moves web ahead zone]

theorem freeRunFrom_held {s u : State} (outfeed : u.drives.outfeed = freeRunFrom s) (h : u.outfeedHeld = true) : s.loop.zone = .empty ∨ s.loop.zone = .unknown := by
  by_contra zone
  unfold State.outfeedHeld at h
  rw [outfeed] at h
  unfold freeRunFrom at h
  rw [if_neg zone] at h
  exact absurd h nofun

theorem drainTest_of_not_draining {s : State} (web : s.drives.webSeq ≠ .draining) : drainTest s = s := by
  refine if_neg ?_
  unfold State.drained State.draining
  rw [decide_eq_false web]
  exact nofun

/-! ### RUN (R175) -/

/-- The laminator as a RUN takes it out of STANDBY (R158). -/
def warmedLam (s : State) : Laminator :=
  if s.straps.laminator = true ∧ s.lam.heat = .standby then
    { s.lam with
      heat := .warming, target := some (s.lam.setpoint : Int)
      armed := s.lam.armed && keepsArmed s.lam.target s.lam.setpoint }
  else s.lam

theorem leaveStandby_eq (s : State) : leaveStandby s = { s with lam := warmedLam s } := by
  unfold leaveStandby warmedLam
  split
  · exact setHeat_eq (s := s) (h := .warming) (v := s.lam.setpoint) (new := s.lam.setpoint) rfl
  · rfl

/-- The unit as a RUN out of rest leaves it, its levels apart (R142, R158, R175). -/
def ranLine (s : State) : State :=
  { s with
    line := { s.line with state := .running, stop := none }
    lam := warmedLam s
    drives := { s.drives with outfeed := freeRunFrom s } }

/-- A RUN finds the part at rest with nothing to cut, the web present or its end reported, and no cause to stop (R61, R165, R172, R175). -/
structure RunClear (s : State) : Prop where
  idle : s.station.cycle = .idle
  target : s.planner.target = none
  web : s.drives.webSeq = .none
  outfeed : s.drives.outfeed = .stopped
  present : s.inputs.web1 = true ∨ s.webEnd = true
  film : s.straps.laminator = true → s.inputs.filmOut = false
  stack : s.inputs.stackFull = false
  ahead : 0 < s.work .dMk

theorem pumpStep_ranLine {s : State} (h : RunClear s) {u : State} (station : u.station = s.station) (planner : u.planner = s.planner) : pumpStep u = none := by
  rw [pumpStep_eq_none_iff, station, planner, h.idle, h.target]
  exact ⟨fun _ => by simp, nofun⟩

theorem runLine_eq {s : State} (h : RunClear s) : runLine s = ranLine s := by
  have web : s.drives.webSeq ≠ .draining := by rw [h.web]; exact nofun
  unfold runLine
  rw [leaveStandby_eq]
  dsimp only
  generalize hu : ({ setLine { s.line with state := .running, stop := none } s with lam := warmedLam (setLine { s.line with state := .running, stop := none } s) } : State) = u
  have goes : goOnPaused u = u := if_neg (by rw [← hu]; show ¬ s.station.cycle = .paused; rw [h.idle]; exact nofun)
  have pumps : pump pumpBound u = u := pump_of_none _ (pumpStep_ranLine h (by rw [← hu]; rfl) (by rw [← hu]; rfl))
  have free : freeAtRun u = setOutfeed (freeRunFrom s) u := by
    have ready : u.freeCond = true := by
      rw [← hu]
      show (true && decide (s.station.cycle = .idle) && s.planner.target.isNone) = true
      rw [h.idle, h.target]; rfl
    have stopped : u.outfeedHeld = true → u.loop.zone = .empty ∨ u.loop.zone = .unknown := by
      rw [← hu]
      show State.outfeedHeld s = true → _
      unfold State.outfeedHeld; rw [h.outfeed]; exact nofun
    refine (if_pos ready).trans ((startFreeRun_eq (by rw [← hu]; exact web) (by rw [← hu]; exact h.ahead) stopped).trans ?_)
    rw [← hu]; rfl
  have fed : webEndAtRun (setOutfeed (freeRunFrom s) u) = setOutfeed (freeRunFrom s) u := by
    refine if_neg ?_
    rw [← hu]
    rintro ⟨gone, unreported⟩
    exact h.present.elim gone unreported
  have drains : drainTest (setOutfeed (freeRunFrom s) u) = setOutfeed (freeRunFrom s) u := drainTest_of_not_draining (by rw [← hu]; exact web)
  have film : filmOutAtRun (setOutfeed (freeRunFrom s) u) = setOutfeed (freeRunFrom s) u := by
    refine if_neg ?_
    rw [← hu]
    rintro ⟨fitted, out⟩
    exact Bool.false_ne_true ((h.film fitted).symm.trans out)
  have stack : stackFullAtRun (setOutfeed (freeRunFrom s) u) = setOutfeed (freeRunFrom s) u := if_neg (by
    rw [← hu]; show ¬ s.inputs.stackFull = true; rw [h.stack]; exact nofun)
  rw [goes, pumps, free, fed, drains, film, stack, ← hu]
  rfl

/-- The end of a RUN's event: the free run as it began, the nip commanded close where it is demanded (R142, R160). -/
theorem finish_ranLine {s : State} (h : RunClear s) (old : State) :
    ∃ x l k, finish old (ranLine s) = { levelled { ranLine s with lam := closeLam (ranLine s), reg := x, link := l } with link := k } := by
  have stands : (ranLine s).stopEnds = false := rfl
  have free : freeUpdate old (ranLine s) = ranLine s := by
    unfold freeUpdate
    have again : startFreeRun (ranLine s) = ranLine s := by
      refine (startFreeRun_eq (s := ranLine s) (by show s.drives.webSeq ≠ _; rw [h.web]; exact nofun) h.ahead fun held => ?_).trans rfl
      exact freeRunFrom_held (s := s) rfl held
    rw [again, ite_self]
  obtain ⟨x, l, closed⟩ := closeUpdate_parts (ranLine s)
  unfold finish
  have pumps : pump pumpBound (ranLine s) = ranLine s := pump_of_none _ (pumpStep_ranLine h rfl rfl)
  rw [pumps, endStop_of_stands stands, free, bringUp_eq, closed, lineUpdate_eq]
  exact ⟨x, l, _, rfl⟩

/-- The close demand as RUN finds it (R160). -/
def runCloses (s : State) : Bool :=
  decide (s.straps.laminator = true ∧ (s.lam.heat = .ready ∨ s.lam.heat = .off)
    ∧ (s.lam.nip = .opened ∨ s.lam.nip = .opening) ∧ 0 < s.drives.setpoint
    ∧ (s.loop.zone = .empty ∨ s.loop.zone = .low ∨ s.loop.zone = .normal ∨ (s.loop.zone = .high ∧ 2 ≤ s.drives.setpoint)))

theorem warmedLam_frame (s : State) : { warmedLam s with heat := s.lam.heat, target := s.lam.target, armed := s.lam.armed } = s.lam := by
  unfold warmedLam; split <;> rfl

theorem heat_warmedLam (s : State) : (warmedLam s).heat = if s.straps.laminator = true ∧ s.lam.heat = .standby then .warming else s.lam.heat := by
  unfold warmedLam; split <;> rfl

theorem hot_warmedLam {s : State} (fitted : s.straps.laminator = true) :
    ((warmedLam s).heat = .ready ∨ (warmedLam s).heat = .off) ↔ s.lam.heat = .ready ∨ s.lam.heat = .off := by
  rw [heat_warmedLam]
  by_cases standby : s.lam.heat = .standby
  · rw [if_pos ⟨fitted, standby⟩, standby]; simp
  · rw [if_neg fun x => standby x.2]

theorem feedBesideNip_ranLine {s : State} (h : RunClear s) : 0 < feedBesideNip (ranLine s) ↔ 0 < s.drives.setpoint
    ∧ (s.loop.zone = .empty ∨ s.loop.zone = .low ∨ s.loop.zone = .normal ∨ (s.loop.zone = .high ∧ 2 ≤ s.drives.setpoint)) := by
  have feed : feedBesideNip (ranLine s) = (match s.loop.zone with
      | .high => s.drives.setpoint / 2
      | .full => 0
      | .unknown => 0
      | _ => s.drives.setpoint) := if_pos ⟨rfl, .inl h.web⟩
  rw [feed]
  cases s.loop.zone <;> simp
  omega

theorem closeDemand_ranLine {s : State} (h : RunClear s) : (ranLine s).closeDemand = runCloses s := by
  have nip : (warmedLam s).nip = s.lam.nip := congrArg (·.nip) (warmedLam_frame s)
  have feeds := feedBesideNip_ranLine h
  have hot := hot_warmedLam (s := s)
  rw [closeDemand_eq]
  unfold nipCloses runCloses
  rw [Bool.eq_iff_iff]
  simp only [Bool.and_eq_true, decide_eq_true_eq, feeds]
  show ((warmedLam s).heat = .ready ∨ (warmedLam s).heat = .off)
    ∧ (s.straps.laminator = true ∧ ((warmedLam s).nip = .opened ∨ (warmedLam s).nip = .opening) ∧ _) ↔ _
  rw [nip]
  constructor
  · rintro ⟨h1, h2, h3, h4⟩
    exact ⟨h2, (hot h2).mp h1, h3, h4⟩
  · rintro ⟨h1, h2, h3, h4⟩
    exact ⟨(hot h1).mpr h2, h1, h3, h4⟩

theorem nip_warmedLam (s : State) : (warmedLam s).nip = s.lam.nip := congrArg (·.nip) (warmedLam_frame s)
theorem nipTimer_warmedLam (s : State) : (warmedLam s).nipTimer = s.lam.nipTimer := congrArg (·.nipTimer) (warmedLam_frame s)
theorem commandClose_warmedLam (s : State) : (warmedLam s).commandClose = s.lam.commandClose := congrArg (·.commandClose) (warmedLam_frame s)

/-- The nip as RUN leaves it (R160). -/
theorem nip_ranLine {s : State} (h : RunClear s) :
    (closeLam (ranLine s)).nip = (if runCloses s then (if s.inputs.nipClosed then .closed else .closing) else s.lam.nip)
    ∧ (closeLam (ranLine s)).nipTimer = (if runCloses s then (if s.inputs.nipClosed then none else some ⟨s.now, s.workNat .nipTimeout⟩) else s.lam.nipTimer)
    ∧ (closeLam (ranLine s)).commandClose = (runCloses s || s.lam.commandClose)
    ∧ (closeLam (ranLine s)).heat = (if s.straps.laminator = true ∧ s.lam.heat = .standby then .warming else s.lam.heat) := by
  rw [closeLam_eq, closeDemand_ranLine h, ← heat_warmedLam, ← nip_warmedLam s, ← nipTimer_warmedLam s, ← commandClose_warmedLam s]
  exact ⟨rfl, rfl, rfl, rfl⟩

theorem infeed_of_running_unfitted {s : State} (running : s.line.state = .running) (web : s.drives.webSeq = .none) (unfitted : s.straps.laminator = false) :
    s.infeedReference = min s.drives.setpoint s.loopAllowance := by
  have feeding : s.line.feeding = true := by unfold LineBlock.feeding; rw [running]
  unfold State.infeedReference State.lamAllowance State.lineAllowance State.lamReady State.feeding
  rw [feeding, web, unfitted]
  simp

/-- Settles O15: RUN leaves the unit as `ranLine` has it, with the nip as the close demand then has it. -/
theorem runStartsLine : Obligations.RunStartsLine := by
  intro s tag free h synced line idle target web outfeed present film stack ahead
  have clear : RunClear (holding ⟨0x21, tag, []⟩ s) := ⟨idle, target, web, outfeed, present, film, stack, ahead⟩
  have act : runAct (holding ⟨0x21, tag, []⟩ s) = lineAccept (ranLine (holding ⟨0x21, tag, []⟩ s)) := (if_pos line).trans (congrArg lineAccept (runLine_eq clear))
  obtain ⟨x, l, k, ended⟩ := finish_ranLine clear (holding ⟨0x21, tag, []⟩ s)
  obtain ⟨r, served, status, data⟩ := request_leaves (n := 0) (u := false) free rfl (.inr synced) act rfl ended
  obtain ⟨nip, nipTimer, close, heat⟩ := nip_ranLine clear
  have lineIs : (ranLine (holding ⟨0x21, tag, []⟩ s)).line = { s.line with state := .running, stop := none } := rfl
  have drives : (ranLine (holding ⟨0x21, tag, []⟩ s)).drives = { s.drives with outfeed := freeRunFrom s } := rfl
  have kept : { ranLine (holding ⟨0x21, tag, []⟩ s) with line := s.line, lam := s.lam, drives := s.drives, link := s.link } = s := rfl
  generalize ranLine (holding ⟨0x21, tag, []⟩ s) = u at *
  have straps : u.straps = s.straps := congrArg (·.straps) kept
  have loop : u.loop = s.loop := congrArg (·.loop) kept
  generalize closeLam u = c at *
  refine ⟨_, congrArg Host.Outcome.next served, nip, nipTimer, close, lineIs, congrArg (·.outfeed) drives, heat, ?_, ?_,
    congrArg (·.panels) kept, congrArg (·.planner) kept, congrArg (·.station) kept, congrArg (·.cal) kept, congrArg (·.cursor1) kept,
    congrArg (·.cursor2) kept, loop, congrArg (·.roll1) kept, congrArg (·.roll2) kept, ?_⟩
  · exact (infeedReference_congr (s := { u with lam := c, reg := x, link := l })
      (t := setReply r { levelled { u with lam := c, reg := x, link := l } with link := k }) rfl rfl rfl rfl rfl rfl rfl).symm
  · intro unfitted
    refine (infeed_of_running_unfitted (s := { u with lam := c, reg := x, link := l }) (congrArg (·.state) lineIs) ((congrArg (·.webSeq) drives).trans web) ((congrArg (·.laminator) straps).trans unfitted)).trans ?_
    rw [loopAllowance_congr (s := s) (t := { u with lam := c, reg := x, link := l }) (congrArg (·.setpoint) drives) (congrArg (·.zone) loop)]
    exact congrArg (min · _) (congrArg (·.setpoint) drives)
  · refine reply_leaves status (data.trans ?_)
    exact congrArg (fun k => k.state.code) lineIs

end Sys2Proof.Machine
end

section
/-!
The inputs at the knife, the gate and the slitter (R123, R124, R126, R130, R132), and how an event ends in which the station goes on by itself.
-/
namespace Sys2Proof.Machine

/-! ### Events that leave the levels as they are -/

/-- `u` agrees with `s` on what the levels of R136, R145, R158, R160 and R162 look at. -/
structure Steady (s u : State) : Prop where
  line : u.line = s.line := by rfl
  setpoint : u.drives.setpoint = s.drives.setpoint := by rfl
  infeed : u.drives.infeedRef = s.drives.infeedRef := by rfl
  web : u.drives.webSeq = s.drives.webSeq := by rfl
  base : u.drives.starveBase = s.drives.starveBase := by rfl
  lam : u.lam = s.lam := by rfl
  zone : u.loop.zone = s.loop.zone := by rfl
  straps : u.straps = s.straps := by rfl
  cal : u.cal = s.cal := by rfl
  cursor : u.cursor1.state = s.cursor1.state := by rfl
  starve : u.watches.starve = s.watches.starve := by rfl

theorem Steady.feeding {s u : State} (c : Steady s u) : u.feeding = s.feeding := by unfold State.feeding; rw [c.line]

theorem Steady.bringUp {s u : State} (c : Steady s u) (h : Settled s) : bringUp u = u := by
  have close : u.closeDemand = false := by
    refine Eq.trans ?_ h.close
    unfold State.closeDemand State.loopAllowance State.lineAllowance
    rw [c.straps, c.feeding, c.lam, c.setpoint, c.zone, c.web]
  have infeed : InfeedFollows u := by
    unfold InfeedFollows
    rw [infeedReference_congr c.setpoint c.web c.zone c.straps c.line (by rw [c.lam]) (by rw [c.lam]), c.infeed]
    exact h.infeed
  have dwell : u.lam.dwell.isSome = u.dwellRuns := by
    unfold State.dwellRuns; rw [c.lam, c.straps, c.infeed]; exact h.dwell
  have idle : u.lam.idle.isSome = u.idleRuns := by
    unfold State.idleRuns; rw [c.lam, c.straps, c.line]; exact h.idle
  have starve : u.watches.starve.map (·.limit) = u.starveLimit := by
    unfold State.starveLimit State.work; rw [c.starve, c.cursor, c.feeding, c.base, c.cal]; exact h.starve
  unfold Machine.bringUp
  rw [closeUpdate_of_none close, infeedUpdate_of_follows infeed, dwellUpdate_of_stands dwell, idleUpdate_of_stands idle, starveUpdate_of_stands starve]

/-- The end of an event that leaves the levels alone: the station has gone on to `v`, and the free run has started where it is to. -/
theorem Steady.finish_eq {s u v w : State} (c : Steady s w) (h : Settled s) (pumped : pump pumpBound u = v) (stands : v.stopEnds = false)
    (free : freeUpdate s v = w) : finish s u = attnUpdate w := by
  unfold finish
  rw [pumped, endStop_of_stands stands, free, c.bringUp h]
  exact congrArg attnUpdate (lineUpdate_of_same (by rw [c.line]) (by rw [c.line]))

/-! ### The station goes on by itself -/

theorem pump_once {u v : State} (step : pumpStep u = some v) (rests : pumpStep v = none) : pump pumpBound u = v := by
  show (match pumpStep u with | some t => pump 1099 t | none => u) = v
  rw [step]
  exact pump_of_none _ rests

theorem freeUpdate_of_none {s u : State} (h : u.freeCond = true → s.freeCond = true) : freeUpdate s u = u := if_neg fun x => x.2.1 (h x.1)

theorem freeUpdate_starts {s u : State} (now : u.freeCond = true) (before : s.freeCond = false) (still : u.moving = false) : freeUpdate s u = startFreeRun u :=
  if_pos ⟨now, by rw [before]; exact nofun, by unfold justLeft; rw [still]; exact nofun⟩

/-- A sequence past its arrival ends no stop (R170, R171). -/
theorem stopEnds_of_cycle {s : State} (h : s.station.cycle = .preparing ∨ s.station.cycle = .stroke ∨ s.station.cycle = .correct) : s.stopEnds = false := by
  unfold State.stopEnds
  rcases h with h | h | h <;> rw [h] <;> simp [Cycle.restful]

theorem freeCond_of_cycle {s : State} (h : s.station.cycle ≠ .idle) : s.freeCond = false := by
  unfold State.freeCond; simp [h]

/-! ### Inputs that reach the station (R123, R130) -/

theorem pumpStep_beside {s : State} (h : Settled s) (x : Station) (cycle : x.cycle = s.station.cycle) (waits : s.station.cycle ≠ .preparing) :
    pumpStep { s with station := x } = none := by
  obtain ⟨idle, -⟩ := (pumpStep_eq_none_iff s).mp h.station
  exact (pumpStep_eq_none_iff _).mpr ⟨fun c => idle (cycle.symm.trans c), fun c => absurd (cycle.symm.trans c) waits⟩

/-- Outside PREPARING, a change of the station that keeps its sequence leaves the part settled. -/
theorem Settled.station_beside {s : State} (h : Settled s) (i : Inputs) (x : Station) (cycle : x.cycle = s.station.cycle) (waits : s.station.cycle ≠ .preparing) :
    Settled { s with inputs := i, station := x } :=
  (h.station_change x cycle (pumpStep_beside h x cycle waits)).inputs i

theorem finish_beside {s : State} (h : Settled s) (i : Inputs) (x : Station) (cycle : x.cycle = s.station.cycle) (waits : s.station.cycle ≠ .preparing) :
    finish s { s with inputs := i, station := x } = { s with inputs := i, station := x } :=
  finish_of_settled (h.station_beside i x cycle waits) rfl (by unfold State.freeCond State.feeding; dsimp only; rw [cycle])

theorem finish_told_beside {s : State} (h : Settled s) (i : Inputs) (x : Station) (e : Event) (cycle : x.cycle = s.station.cycle) (waits : s.station.cycle ≠ .preparing) :
    finish s (queueEvent e { s with inputs := i, station := x }) = attnUpdate (queueEvent e { s with inputs := i, station := x }) := by
  have settled := h.station_beside i x cycle waits
  rw [queueEvent_eq]
  refine Steady.finish_eq (w := _) {} h (pump_of_none _ ?_) settled.stop (freeUpdate_of_none ?_)
  · exact pumpStep_none_congr (s := { s with inputs := i, station := x }) rfl rfl rfl rfl settled.station
  · unfold State.freeCond State.feeding; dsimp only; rw [cycle]; exact id

theorem exec_deviceConfirm {s : State} (h : Settled s) (d : StationInput) :
    exec (.deviceConfirm d true) s = .next (finish s (confirmDevice d { s with inputs := setStationInput d true s.inputs })) :=
  congrArg Host.Outcome.next (inputEvent_of_running h.running _ _)

theorem confirmGate_of_moving {s : State} {pos : GatePos} (commanded : s.station.gate.commanded = pos) (waits : s.station.gate.confirmed = false) :
    confirmGate pos s = { s with station := { s.station with gate := { commanded := pos, confirmed := true, timer := none } } } := by
  subst commanded
  exact if_pos ⟨rfl, by rw [waits]; exact nofun⟩

theorem confirmBlade_of_moving {s : State} {k : Nat} {b : Blade} {down : Bool} (blade : s.station.blades[k]? = some b) (commanded : b.down = down)
    (waits : b.confirmed = false) :
    confirmBlade k down s = { s with station := { s.station with blades := s.station.blades.set k { b with confirmed := true, timer := none } } } := by
  have moves : Blade.confirm down b = { b with confirmed := true, timer := none } := if_pos ⟨commanded, by rw [waits]; exact nofun⟩
  unfold confirmBlade
  rw [List.modify_eq_set_getElem?, blade, ← moves]
  rfl

/-! ### The last device of an entry (R124) -/

theorem current_of_executing {s : State} {e : Entry} {es : List Entry} (queue : s.planner.queue = e :: es) (state : e.state = .executing) : s.current = some e := by
  unfold State.current; rw [queue]; dsimp only; rw [if_neg (by rw [state]; exact nofun)]

theorem pumpStep_traverse {s : State} {e : Entry} (cycle : s.station.cycle = .preparing) (current : s.current = some e) (prepared : s.prepared e = true)
    (cut : e.isLane = false) (may : s.mayTraverse = true) : pumpStep s = some (startTraverse s) := by
  unfold pumpStep
  rw [cycle]
  dsimp only
  rw [current]
  dsimp only
  rw [if_neg (by simpa using prepared), cut, may]
  rfl

theorem pumpStep_lane {s : State} {e : Entry} (cycle : s.station.cycle = .preparing) (current : s.current = some e) (prepared : s.prepared e = true)
    (lane : e.isLane = true) : pumpStep s = some (completeLane e s) := by
  unfold pumpStep
  rw [cycle]
  dsimp only
  rw [current]
  dsimp only
  rw [if_neg (by simpa using prepared), lane]
  rfl

/-- With the station not approaching, the target is that of the first entry (R107). -/
theorem targetUpdate_of_no_approach {s : State} (cycle : s.station.cycle ≠ .approach) :
    targetUpdate s = { s with planner := { s.planner with target := s.planner.queue.head?.map (·.trigger) } } := by
  unfold targetUpdate
  rw [remark_of_other cycle]
  dsimp only
  by_cases same : s.planner.queue.head?.map (·.trigger) = s.planner.target
  · rw [if_pos same, same]
  · rw [if_neg same, if_neg cycle]

/-- The first entry leaves an idle station's queue, with no panel to commit (R107, R108). -/
theorem removeFirst_of_idle {s : State} (cycle : s.station.cycle = .idle) (none : ∀ p ∈ s.panels, p.state ≠ .atOutfeed) : removeFirst s = { s with
    planner := { s.planner with queue := s.planner.queue.tail, target := s.planner.queue.tail.head?.map (·.trigger) } } := by
  unfold removeFirst
  rw [targetUpdate_of_no_approach (by show s.station.cycle ≠ _; rw [cycle]; exact nofun), tryCommits_of_wait fun q held out => absurd out ?_]
  · rfl
  · exact none q held

theorem completeLane_eq {s : State} {e : Entry} {l : LaneChange} (lane : e.lane = some l) (none : ∀ p ∈ s.panels, p.state ≠ .atOutfeed)
    (web : s.drives.webSeq ≠ .draining) : completeLane e s = { s with
    station := { s.station with cycle := .idle, laneSet := l.lanes, corrections := 0, lastErr := Option.none, recut := false }
    planner := { s.planner with queue := s.planner.queue.tail, target := s.planner.queue.tail.head?.map (·.trigger) } } := by
  have lanes : s.lanesFor e = l.lanes := by unfold State.lanesFor; rw [lane]; rfl
  unfold completeLane
  dsimp only
  rw [lanes, removeFirst_of_idle ?_ ?_]
  · exact drainTest_of_not_draining web
  · rfl
  · exact none

theorem attnFollows_station {s : State} (h : Settled s) (i : Inputs) (x : Station) (p : Planner) (d : Drives) :
    AttnFollows { s with inputs := i, station := x, planner := p, drives := d } := h.attn.congr rfl rfl rfl rfl rfl rfl

/-! ### DEVICE_CONFIRM, HOME_SWITCH_CHANGE and HOMING_COMPLETE -/

/-- The last device of a cut is confirmed: the traverse starts in the same event (R124, R126). -/
theorem finish_traverse {s u : State} (h : Settled s) {i : Inputs} {x : Station} (hu : u = { s with inputs := i, station := x }) {e : Entry}
    (cycle : x.cycle = .preparing) (current : u.current = some e) (prepared : u.prepared e = true)
    (cut : e.isLane = false) (may : u.mayTraverse = true) : finish s u = startTraverse u := by
  subst hu
  have pumped : pump pumpBound { s with inputs := i, station := x } = startTraverse { s with inputs := i, station := x } :=
    pump_once (pumpStep_traverse cycle current prepared cut may) ((pumpStep_eq_none_iff _).mpr ⟨nofun, nofun⟩)
  refine (Steady.finish_eq (w := startTraverse { s with inputs := i, station := x }) {} h pumped ?_ (freeUpdate_of_none ?_)).trans
    (attnUpdate_of_follows (attnFollows_station h i _ s.planner s.drives))
  · exact stopEnds_of_cycle (.inr (.inl rfl))
  · rw [freeCond_of_cycle (by exact nofun)]; exact nofun

/-- The last device of a LANE entry is confirmed, and no further entry waits: the free run starts in the same event (R108, R124, R142). -/
theorem finish_lane {s u : State} (h : Settled s) {i : Inputs} {x : Station} (hu : u = { s with inputs := i, station := x }) {e : Entry} {l : LaneChange}
    (cycle : x.cycle = .preparing) (before : s.station.cycle = .preparing) (queue : s.planner.queue = [e]) (state : e.state = .executing)
    (prepared : u.prepared e = true) (cut : e.cut = none) (lane : e.lane = some l) (running : s.line.state = .running) (outfeed : s.drives.outfeed = .stopped)
    (none : ∀ p ∈ s.panels, p.state ≠ .atOutfeed) (web : s.drives.webSeq ≠ .draining) (ahead : 0 < s.work .dMk) :
    finish s u = { s with
      inputs := i
      station := { x with cycle := .idle, laneSet := l.lanes, corrections := 0, lastErr := Option.none, recut := false }
      planner := { s.planner with queue := [], target := Option.none }
      drives := { s.drives with outfeed := freeRunFrom s } } := by
  subst hu
  have completed := completeLane_eq (s := { s with inputs := i, station := x }) lane none web
  rw [show s.planner.queue.tail = [] by rw [queue]; rfl] at completed
  have step := pumpStep_lane (s := { s with inputs := i, station := x }) cycle (current_of_executing queue state) prepared (by unfold Entry.isLane; rw [cut]; rfl)
  rw [completed] at step
  have feeding : s.line.feeding = true := by unfold LineBlock.feeding; rw [running]
  refine (Steady.finish_eq (w := _) ?_ h (pump_once step ?_) ?_ ((freeUpdate_starts ?_ (freeCond_of_cycle ?_) ?_).trans (startFreeRun_eq web ahead ?_))).trans
    (attnUpdate_of_follows ?_)
  · exact {}
  · exact (pumpStep_eq_none_iff _).mpr ⟨fun _ work => absurd work.1 nofun, nofun⟩
  · unfold State.stopEnds; dsimp only; rw [running]; rfl
  · show (s.line.feeding && true && true) = true
    rw [feeding]; rfl
  · rw [before]; exact nofun
  · unfold State.moving; dsimp only; rw [outfeed]
  · unfold State.outfeedHeld; dsimp only; rw [outfeed]; exact nofun
  · exact attnFollows_station h _ _ _ _

theorem all_confirmed_timer {bs : List Blade} {k : Nat} {b : Blade} :
    (bs.set k { b with confirmed := true, timer := none }).all (·.confirmed) = (bs.set k { b with confirmed := true }).all (·.confirmed) := by
  induction bs generalizing k with
  | nil => rfl
  | cons x bs ih => cases k <;> simp [ih]

theorem knifeFollows_eq {i : Inputs} {k : KnifeState} (h : k = .homeL ∨ k = .homeR ∨ k = .unhomed) : knifeFollows i k =
    if k = .unhomed then (if i.homeL = true ∧ i.homeR = false then .homeL else if i.homeR = true ∧ i.homeL = false then .homeR else .unhomed)
    else if (k = .homeL ∧ i.homeL = true) ∨ (k = .homeR ∧ i.homeR = true) then k else .unhomed := by
  rcases h with rfl | rfl | rfl <;> cases l : i.homeL <;> cases r : i.homeR <;> simp [knifeFollows, l, r]

theorem homeChanged_follows {h : Home} {v : Bool} {s : State} (rests : s.station.knife = .homeL ∨ s.station.knife = .homeR ∨ s.station.knife = .unhomed) :
    homeChanged h v s = { s with station := { s.station with knife := knifeFollows s.inputs s.station.knife } } := by
  unfold homeChanged
  rcases rests with k | k | k <;> rw [k] <;> rfl

theorem setHome_eq (h : Home) (v : Bool) (i : Inputs) : setHome h v i =
    { i with homeL := if h = .left then v else i.homeL, homeR := if h = .right then v else i.homeR } := by cases h <;> rfl

/-- Settles O48. -/
theorem devicesAndHomeSwitches : Obligations.DevicesAndHomeSwitches := by
  intro s h
  refine ⟨fun d => ?_, fun waits => ⟨fun commanded moves => ?_, fun commanded moves => ?_, fun k b blade moves => ⟨fun down => ?_, fun up => ?_⟩⟩,
    fun e es cycle queue state cut blades commanded moves home still goes => ?_,
    fun e l k b cycle queue state cut lane blade moves all running outfeed none web ahead => ?_,
    fun waits hm v left right knife => ?_, fun waits homing => ?_⟩
  · exact congrArg Host.Outcome.next (inputEvent_reads h _)
  · refine (exec_deviceConfirm h _).trans (congrArg Host.Outcome.next ?_)
    refine (congrArg (finish s) (confirmGate_of_moving ?_ ?_)).trans (finish_beside h _ _ rfl waits)
    · exact commanded
    · exact moves
  · refine (exec_deviceConfirm h _).trans (congrArg Host.Outcome.next ?_)
    refine (congrArg (finish s) (confirmGate_of_moving ?_ ?_)).trans (finish_beside h _ _ rfl waits)
    · exact commanded
    · exact moves
  · refine (exec_deviceConfirm h _).trans (congrArg Host.Outcome.next ?_)
    refine (congrArg (finish s) (confirmBlade_of_moving ?_ ?_ ?_)).trans (finish_beside h _ _ rfl waits)
    · exact blade
    · exact down
    · exact moves
  · refine (exec_deviceConfirm h _).trans (congrArg Host.Outcome.next ?_)
    refine (congrArg (finish s) (confirmBlade_of_moving ?_ ?_ ?_)).trans (finish_beside h _ _ rfl waits)
    · exact blade
    · exact up
    · exact moves
  · refine (exec_deviceConfirm h _).trans (congrArg Host.Outcome.next ?_)
    refine (congrArg (finish s) (confirmGate_of_moving ?_ ?_)).trans ((finish_traverse h rfl (e := e) ?_ ?_ ?_ ?_ ?_).trans rfl)
    · exact commanded
    · exact moves
    · exact cycle
    · exact current_of_executing queue state
    · unfold State.prepared State.bladesConfirmed
      simpa using blades
    · unfold Entry.isLane; simpa using cut
    · have atHome : s.station.knife.atHome = true := by rcases home with k | k <;> rw [k] <;> rfl
      unfold State.mayTraverse
      exact (congrArg₂ (· && ·) (congrArg₂ (· && ·) atHome (congrArg not still)) goes).trans rfl
  · refine (exec_deviceConfirm h _).trans (congrArg Host.Outcome.next ?_)
    have confirms : confirmDevice (if b.down = true then .bladeDown k else .bladeUp k)
        { s with inputs := setStationInput (if b.down = true then .bladeDown k else .bladeUp k) true s.inputs } = { s with
          inputs := setStationInput (if b.down = true then .bladeDown k else .bladeUp k) true s.inputs
          station := { s.station with blades := s.station.blades.set k.val { b with confirmed := true, timer := Option.none } } } := by
      split
      · rename_i down; exact confirmBlade_of_moving (s := { s with inputs := _ }) blade down moves
      · rename_i up; exact confirmBlade_of_moving (s := { s with inputs := _ }) blade (by simpa using up) moves
    rw [confirms]
    refine finish_lane h rfl cycle cycle queue state ?_ cut lane running outfeed none web ahead
    unfold State.prepared State.bladesConfirmed
    rw [all_confirmed_timer, all]
    unfold Entry.isLane; rw [cut]; rfl
  · have changes : ¬ s.inputs.home hm = v := by
      cases hm with
      | left => exact fun same => left rfl same.symm
      | right => exact fun same => right rfl same.symm
    refine congrArg Host.Outcome.next ((inputEvent_of_running h.running _ _).trans ?_)
    rw [if_neg changes, homeChanged_follows ?_]
    · dsimp only
      rw [knifeFollows_eq knife, setHome_eq]
      exact finish_beside h _ _ rfl waits
    · exact knife
  · refine congrArg Host.Outcome.next ((if_pos homing).trans ((inputEvent_of_running h.running _ _).trans ?_))
    refine (finish_told_beside h _ _ _ ?_ waits).trans rfl
    rfl

end Sys2Proof.Machine
end

section
/-!
A "move ended" (R139, R142) and the arrival it may be (R117 to R122): how a miss is judged, a correction asked, an entry prepared.
-/
namespace Sys2Proof.Machine

/-! ### Flags raised against several panels -/

theorem flagged_nil (f : Flag) (on : Bool) (ps : List Panel) : flagged f on [] ps = ps := by
  unfold flagged
  exact (List.map_congr_left fun p _ => if_neg (by simp)).trans (List.map_id' _)

theorem flagged_off (f : Flag) (ns : List Nat) (ps : List Panel) : flagged f false ns ps = ps := by
  unfold flagged
  exact (List.map_congr_left fun p _ => if_neg (by simp)).trans (List.map_id' _)

theorem flagged_flagged (f : Flag) (n : Nat) (ns : List Nat) (ps : List Panel) : flagged f true ns (flagged f true [n] ps) = flagged f true (n :: ns) ps := by
  unfold flagged
  rw [List.map_map]
  refine List.map_congr_left fun p _ => ?_
  by_cases named : p.serial = n <;> by_cases done : p.state = .done <;> by_cases held : f ∈ p.flags <;> simp [named, done, held]

theorem raiseFlag_flagged (f : Flag) (r : PanelRef) (s : State) : raiseFlag f r s = { s with panels := flagged f true [r.serial] s.panels } := by
  rw [raiseFlag_eq]
  unfold flagged
  simp

theorem raiseFlags_flagged (f : Flag) (rs : List PanelRef) (s : State) : raiseFlags f rs s = { s with panels := flagged f true (rs.map (·.serial)) s.panels } := by
  induction rs generalizing s with
  | nil => rw [List.map_nil, flagged_nil]; rfl
  | cons r rs ih =>
    refine (ih (raiseFlag f r s)).trans ?_
    rw [raiseFlag_flagged]
    exact congrArg (fun ps => { s with panels := ps }) (flagged_flagged f r.serial (rs.map (·.serial)) s.panels)

theorem flagged_state (f : Flag) (on : Bool) (ns : List Nat) (ps : List Panel) (test : PanelState → Bool) :
    (flagged f on ns ps).any (fun p => test p.state) = ps.any (fun p => test p.state) := by
  unfold flagged
  refine any_map_of_same _ (fun p : Panel => test p.state) _ fun p => ?_
  split <;> rfl

/-! ### A miss (R119) -/

/-- The panels after a miss of `err` has been judged (R119). -/
def missJudged (s : State) (e : Entry) (err : Int) (ps : List Panel) : List Panel :=
  flagged .laneLate (decide (s.work .rejectTol < err)) (e.lane.toList.map (·.owner.serial)) (judgedCut s ((strokeCuts e).map (·.panel.serial)) err ps)

theorem cutFlag_of_miss {s : State} {err : Int} (missed : s.work .cutTol < err.natAbs) :
    ∃ f, s.cutFlag err = some f ∧ ∀ ns ps, judgedCut s ns err ps = flagged f true ns ps := by
  unfold State.cutFlag judgedCut
  by_cases far : s.work .rejectTol < err.natAbs
  · refine ⟨.cutFault, if_pos far, fun ns ps => ?_⟩
    rw [decide_eq_true far, decide_eq_false (fun x => absurd x.2 (not_le.mpr far)), flagged_off]
  · refine ⟨.cutOffPos, (if_neg far).trans (if_pos missed), fun ns ps => ?_⟩
    rw [decide_eq_false far, decide_eq_true ⟨missed, not_lt.mp far⟩, flagged_off]

theorem judgeMiss_eq {s : State} {err : Int} (missed : s.work .cutTol < err.natAbs) (e : Entry) :
    judgeMiss e err s = { s with panels := missJudged s e err s.panels } := by
  obtain ⟨f, flag, judged⟩ := cutFlag_of_miss missed
  unfold judgeMiss missJudged
  rw [flag, judged]
  dsimp only
  rw [raiseFlags_flagged, List.map_map]
  cases e.lane with
  | none => rw [show Option.toList (none : Option LaneChange) = [] from rfl, List.map_nil, flagged_nil]; rfl
  | some l =>
    dsimp only
    by_cases late : s.work .rejectTol < err
    · rw [if_pos (by exact late), raiseFlag_flagged, decide_eq_true late]; rfl
    · rw [if_neg (by exact late), decide_eq_false late, flagged_off]; rfl

/-! ### Preparing (R121, R122) -/

theorem severed_serials (e : Entry) : e.severed.map (·.serial) = severedBy e := by
  unfold Entry.severed severedBy
  rw [List.map_map]
  show ((strokeCuts e).filter _).map _ = _
  induction strokeCuts e with
  | nil => rfl
  | cons c cs ih =>
    by_cases first : 2 ≤ c.index
    · rw [List.filter_cons_of_pos (by simpa using first), List.map_cons, ih]
      rw [List.filterMap_cons, if_pos first]; rfl
    · rw [List.filter_cons_of_neg (by simpa using first), ih]
      rw [List.filterMap_cons, if_neg first]

theorem eligible_iff (p : Panel) : p.eligible = true ↔ p.kind = .product
    ∧ ∀ f ∈ p.flags, f ≠ .leader ∧ f ≠ .cancelled ∧ f ≠ .unlocked ∧ f ≠ .splice ∧ f ≠ .filmSplice ∧ f ≠ .dwell ∧ f ≠ .cutFault
        ∧ f ≠ .laneLate ∧ f ≠ .short ∧ (f = .scaleFault → p.scaleRejecting = false) := by
  unfold Panel.eligible Panel.rejected
  rw [Bool.and_eq_true, decide_eq_true_eq, Bool.not_eq_true', List.any_eq_false]
  refine and_congr_right fun _ => forall₂_congr fun f _ => ?_
  cases f <;> simp [flagRejects]

theorem eligibleAll_iff (s : State) (rs : List PanelRef) : s.eligibleAll rs = true ↔ ∀ n ∈ rs.map (·.serial), deliverable s.panels n := by
  unfold State.eligibleAll
  rw [List.all_eq_true]
  simp only [List.mem_map, forall_exists_index, and_imp, forall_apply_eq_imp_iff₂]
  refine forall₂_congr fun r _ => ?_
  unfold deliverable State.panel?
  cases s.panels.find? (fun p => p.serial == r.serial) with
  | none => simp
  | some p => simp [eligible_iff]

/-- Every piece that the stroke at an entry severs may be delivered, and it severs one (R8, R121). -/
def Eligible (e : Entry) (ps : List Panel) : Prop := severedBy e ≠ [] ∧ ∀ n ∈ severedBy e, deliverable ps n

/-- The reject input is active and enabled (R121). -/
def Rejects (s : State) : Prop := s.work .inspectEnable = 1 ∧ s.inputs.inspectReject = true

theorem inspectRejects_iff (s : State) : s.inspectRejects = true ↔ Rejects s := by
  unfold State.inspectRejects Rejects; simp

theorem eligible_test (e : Entry) (s : State) : (!e.severed.isEmpty && s.eligibleAll e.severed) = true ↔ Eligible e s.panels := by
  unfold Eligible
  rw [Bool.and_eq_true, eligibleAll_iff, severed_serials, ← severed_serials]
  cases e.severed <;> simp

theorem commandGate_eq (pos : GatePos) (s : State) : commandGate pos s = { s with station := { s.station with gate := gateAfter s pos } } := by
  unfold commandGate gateAfter
  dsimp only
  split
  · rfl
  · cases pos <;> rfl

theorem commandBlades_eq (lanes : Byte) (s : State) : commandBlades lanes s = { s with station := { s.station with blades := bladesAfter s lanes } } := by
  unfold commandBlades bladesAfter bladeCommand
  dsimp only
  rfl

/-- The unit with its first entry EXECUTING, gate and blades commanded for it (R121, R122). -/
def readiedFor (pos : GatePos) (ps : List Panel) (e : Entry) (es : List Entry) (s : State) : State :=
  { s with
    planner := { s.planner with queue := { e with state := .executing } :: es }
    panels := ps
    station := { s.station with
      cycle := .preparing, gate := gateAfter s pos, blades := bladesAfter s ((e.lane.map (·.lanes)).getD s.station.laneSet) } }

theorem prepareGate_eq {s : State} {e : Entry} (cut : e.cut.isSome = true) : prepareGate e s = { s with
    panels := flagged .inspect (!e.severed.isEmpty && s.eligibleAll e.severed && s.inspectRejects) (severedBy e) s.panels
    station := { s.station with gate := gateAfter s (s.gateFor e) } } := by
  have lane : ¬ e.isLane = true := by
    unfold Entry.isLane
    cases held : e.cut with
    | none => rw [held] at cut; exact absurd cut nofun
    | some c => exact nofun
  unfold prepareGate
  rw [if_neg lane]
  dsimp only
  rw [commandGate_eq]
  cases !e.severed.isEmpty && s.eligibleAll e.severed && s.inspectRejects with
  | false => rw [flagged_off]; rfl
  | true => rw [if_pos rfl, raiseFlags_flagged, severed_serials]; rfl

theorem prepare_eq {s : State} {e : Entry} {es : List Entry} (queue : s.planner.queue = { e with state := .settling } :: es)
    (cut : e.cut.isSome = true) (recut : s.station.recut = false) : prepare e s = readiedFor (s.gateFor e)
      (flagged .inspect (!e.severed.isEmpty && s.eligibleAll e.severed && s.inspectRejects) (severedBy e) s.panels) e es s := by
  have executing : setCycle .preparing (setEntry .executing s) = { s with
      planner := { s.planner with queue := { e with state := .executing } :: es }, station := { s.station with cycle := .preparing } } := by
    rw [setEntry_eq, queue]; rfl
  have plain : raiseRecut e (setCycle .preparing (setEntry .executing s)) = setCycle .preparing (setEntry .executing s) := by
    refine if_neg ?_
    rw [executing]
    show ¬ s.station.recut = true
    rw [recut]; exact nofun
  unfold prepare
  dsimp only
  rw [plain, executing, prepareGate_eq cut, commandBlades_eq]
  rfl

/-- The unit as an entry's preparing leaves it: in the gate's position the pieces and the reject input decide (R121). -/
theorem prepared_cases {s : State} {e : Entry} {es : List Entry} (queue : s.planner.queue = { e with state := .settling } :: es)
    (cut : e.cut.isSome = true) (recut : s.station.recut = false) :
    (Eligible e s.panels → ¬ Rejects s → prepare e s = readiedFor .delivery s.panels e es s)
    ∧ (Eligible e s.panels → Rejects s → prepare e s = readiedFor .scrap (flagged .inspect true (severedBy e) s.panels) e es s)
    ∧ (¬ Eligible e s.panels → prepare e s = readiedFor .scrap s.panels e es s) := by
  have eligible := eligible_test e s
  have rejects := inspectRejects_iff s
  rw [prepare_eq queue cut recut]
  unfold State.gateFor
  generalize s.inspectRejects = r at rejects ⊢
  generalize s.eligibleAll e.severed = a at eligible ⊢
  generalize e.severed.isEmpty = none at eligible ⊢
  rw [← eligible, ← rejects]
  cases r <;> cases a <;> cases none <;> simp [flagged_off]

/-! ### Arrivals (R117) -/

/-- The unit with its move ended or replaced, the move-timeout flag gone (R139, R143). -/
def stilled (o : Outfeed) (s : State) : State := { s with drives := { s.drives with outfeed := o, timeoutFlag := false } }

/-- The unit with an arrival recorded: its error, and the entry SETTLING (R117). -/
def arrived (e : Entry) (es : List Entry) (s : State) : State :=
  { s with
    planner := { s.planner with queue := { e with state := .settling } :: es }
    station := { s.station with lastErr := some (s.p2 - e.trigger) } }

theorem arrive_eq {s : State} {e : Entry} {es : List Entry} (queue : s.planner.queue = e :: es) (state : e.state ≠ .pending) : arrive s =
    if (s.p2 - e.trigger).natAbs ≤ s.work .cutTol then goOn (prepare e) (arrived e es s)
    else if s.work .backMax < s.p2 - e.trigger ∨ 2 ≤ s.station.corrections then goOn (prepare e) (judgeMiss e (s.p2 - e.trigger) (arrived e es s))
    else goOn (correct e) (arrived e es s) := by
  have current : s.current = some e := by unfold State.current; rw [queue]; exact if_neg state
  have record : setEntry .settling { s with station := { s.station with lastErr := some (s.p2 - e.trigger) } } = arrived e es s := by
    rw [setEntry_eq]; dsimp only; rw [queue]; rfl
  unfold arrive
  rw [current]
  dsimp only
  rw [record]
  rfl

theorem goOn_of_continuing {s : State} (h : s.continuing = true) (f : State → State) : goOn f s = f s := if_pos h

theorem exec_moveEnded {s : State} (h : Settled s) : exec .moveEnded s = .next (finish s (moveReported s)) :=
  congrArg Host.Outcome.next (event_of_running h.running)

/-- The end of an approach, or of a correction, is an arrival (R117, R118). -/
theorem moveReported_arrives {s : State} {m : Move} {e : Entry} (outfeed : s.drives.outfeed = .moving m) (reports : m.reports = true)
    (arrives : (s.station.cycle = .approach ∧ e.state = .active) ∨ (s.station.cycle = .correct ∧ e.state = .settling ∧ m.owner = .station)) :
    moveReported s = arrive (stilled .stopped s) := by
  unfold moveReported
  rw [outfeed]
  dsimp only
  rw [if_neg (by simpa using reports)]
  rcases arrives with ⟨cycle, -⟩ | ⟨cycle, -, owner⟩
  · rw [if_pos (.inr cycle)]; exact if_pos (.inl cycle)
  · rw [if_pos (.inl owner)]; exact if_pos (.inr cycle)

/-- An event in which an arrival leaves the station nothing more to do. -/
theorem finish_arrival {s u : State} (h : Settled s) (c : Steady s u) (rests : pumpStep u = none) (stands : u.stopEnds = false)
    (cycle : u.station.cycle ≠ .idle) : finish s u = attnUpdate u :=
  c.finish_eq h (pump_of_none _ rests) stands (freeUpdate_of_none (by rw [freeCond_of_cycle cycle]; exact nofun))

theorem pumpStep_of_cycle {s : State} (h : s.station.cycle = .paused ∨ s.station.cycle = .correct ∨ s.station.cycle = .stroke ∨ s.station.cycle = .approach) :
    pumpStep s = none := by
  unfold pumpStep; rcases h with h | h | h | h <;> rw [h]

theorem stopEnds_of_line {s : State} (h : s.continuing = false) : s.stopEnds = false := by
  unfold State.continuing at h
  unfold State.stopEnds
  simp only [decide_eq_false_iff_not, not_or] at h
  simp [h.2]

theorem readiedFor_waits {s : State} {pos : GatePos} {ps : List Panel} {e : Entry} {es : List Entry} (away : s.station.knife.atHome = false)
    (cut : e.cut.isSome = true) : pumpStep (readiedFor pos ps e es s) = none := by
  refine (pumpStep_eq_none_iff _).mpr ⟨nofun, fun _ f current _ => ?_⟩
  have first : f = { e with state := .executing } := by
    have : State.current (readiedFor pos ps e es s) = some { e with state := .executing } := rfl
    exact Option.some.inj (current.symm.trans this)
  subst first
  constructor
  · unfold Entry.isLane
    cases held : e.cut with
    | none => rw [held] at cut; exact absurd cut nofun
    | some c => rfl
  · unfold State.mayTraverse
    exact (congrArg (fun b => b && _ && _) away).trans rfl

theorem finish_stilled {s : State} (h : Settled s) (waits : s.station.cycle ≠ .preparing) (o : Outfeed) : finish s (stilled o s) = stilled o s := by
  obtain ⟨idle, -⟩ := (pumpStep_eq_none_iff s).mp h.station
  have rests : pumpStep (stilled o s) = none := (pumpStep_eq_none_iff _).mpr ⟨idle, fun c => absurd c waits⟩
  refine (Steady.finish_eq (w := stilled o s) {} h (pump_of_none _ rests) h.stop (freeUpdate_of_none (u := stilled o s) id)).trans (attnUpdate_of_follows (attnFollows_station h _ _ _ _))

theorem donePending_missJudged (s : State) (e : Entry) (err : Int) (ps : List Panel) :
    ((missJudged s e err ps).any fun p => decide (p.state = .done)) = ps.any fun p => decide (p.state = .done) := by
  unfold missJudged judgedCut
  rw [flagged_state (test := fun x => decide (x = .done)), flagged_state (test := fun x => decide (x = .done)), flagged_state (test := fun x => decide (x = .done))]

/-- The event in which an entry's preparing begins, the knife not at a home. -/
theorem finish_readiedFor {s u : State} (h : Settled s) (c : Steady s u) (station : u.station.knife = s.station.knife) (away : s.station.knife.atHome = false)
    {pos : GatePos} {ps : List Panel} {e : Entry} {es : List Entry} (cut : e.cut.isSome = true) :
    finish s (readiedFor pos ps e es u) = attnUpdate (readiedFor pos ps e es u) :=
  finish_arrival h ⟨c.line, c.setpoint, c.infeed, c.web, c.base, c.lam, c.zone, c.straps, c.cal, c.cursor, c.starve⟩
    (readiedFor_waits (by rw [station]; exact away) cut) (stopEnds_of_cycle (.inl rfl)) nofun

/-- A station move asked from an outfeed at rest begins, or is held by the loop (R140, R141). -/
theorem askStation_eq {s : State} {p : Purpose} {e : Int} (outfeed : s.drives.outfeed = .stopped) (goes : ¬ (p = .approach ∧ e ≤ s.p2)) :
    askStation p e s = setOutfeed (if s.drives.webSeq ≠ .draining ∧ (s.loop.zone = .empty ∨ s.loop.zone = .unknown) then .held (.station p e)
      else movedTo s s.loop.zone s.drives.setpoint p .station e) s := by
  have held : s.outfeedHeld = false := by unfold State.outfeedHeld; rw [outfeed]
  have zone : s.zoneHolds = true ↔ s.drives.webSeq ≠ .draining ∧ (s.loop.zone = .empty ∨ s.loop.zone = .unknown) := by
    unfold State.zoneHolds State.draining; simp
  unfold askStation
  by_cases holds : s.drives.webSeq ≠ .draining ∧ (s.loop.zone = .empty ∨ s.loop.zone = .unknown)
  · rw [if_pos (.inl (zone.mpr holds)), if_pos holds]
  · rw [if_neg (not_or.mpr ⟨fun x => holds (zone.mp x), fun x => Bool.false_ne_true (held.symm.trans x)⟩), if_neg goes, if_neg holds, issueMove_eq]

/-- The unit with an arrival that the line does not let go on: the station PAUSED, a miss judged (R113, R117, R119). -/
def pausedAt (e : Entry) (es : List Entry) (ps : List Panel) (s : State) : State :=
  { arrived e es (stilled .stopped s) with panels := ps, station := { s.station with cycle := .paused, lastErr := some (s.p2 - e.trigger) } }

/-- The unit with an arrival recorded that misses its trigger, and is judged (R119). -/
def missedAt (e : Entry) (es : List Entry) (s : State) : State :=
  { arrived e es (stilled .stopped s) with panels := missJudged s e (s.p2 - e.trigger) s.panels }

section
variable {s : State} {e : Entry} {es : List Entry} (queue : s.planner.queue = e :: es) (state : e.state ≠ .pending)
include queue state

theorem arrive_near (near : (s.p2 - e.trigger).natAbs ≤ s.work .cutTol) :
    arrive (stilled .stopped s) = goOn (prepare e) (arrived e es (stilled .stopped s)) :=
  (arrive_eq (s := stilled .stopped s) queue state).trans (if_pos near)

theorem arrive_missed (far : s.work .cutTol < (s.p2 - e.trigger).natAbs) (miss : s.work .backMax < s.p2 - e.trigger ∨ 2 ≤ s.station.corrections) :
    arrive (stilled .stopped s) = goOn (prepare e) (missedAt e es s) := by
  refine (arrive_eq (s := stilled .stopped s) queue state).trans ((if_neg (not_le.mpr far)).trans ((if_pos miss).trans (congrArg (goOn (prepare e)) ?_)))
  exact judgeMiss_eq (s := arrived e es (stilled .stopped s)) far e

theorem arrive_corrects (far : s.work .cutTol < (s.p2 - e.trigger).natAbs) (near : ¬ (s.work .backMax < s.p2 - e.trigger ∨ 2 ≤ s.station.corrections)) :
    arrive (stilled .stopped s) = goOn (correct e) (arrived e es (stilled .stopped s)) :=
  (arrive_eq (s := stilled .stopped s) queue state).trans ((if_neg (not_le.mpr far)).trans (if_neg near))

theorem arrive_paused (stopped : s.continuing = false) : arrive (stilled .stopped s) =
    pausedAt e es (if s.work .cutTol < (s.p2 - e.trigger).natAbs ∧ (s.work .backMax < s.p2 - e.trigger ∨ 2 ≤ s.station.corrections)
      then missJudged s e (s.p2 - e.trigger) s.panels else s.panels) s := by
  have pauses (f : State → State) (u : State) (line : u.continuing = s.continuing) : goOn f u = setCycle .paused u :=
    if_neg (by rw [line, stopped]; exact nofun)
  by_cases near : (s.p2 - e.trigger).natAbs ≤ s.work .cutTol
  · rw [arrive_near queue state near, pauses _ (arrived e es (stilled .stopped s)) rfl, if_neg fun x => absurd x.1 (not_lt.mpr near)]; rfl
  · have far := not_le.mp near
    by_cases beyond : s.work .backMax < s.p2 - e.trigger ∨ 2 ≤ s.station.corrections
    · rw [arrive_missed queue state far beyond, pauses _ (missedAt e es s) rfl, if_pos ⟨far, beyond⟩]; rfl
    · rw [arrive_corrects queue state far beyond, pauses _ (arrived e es (stilled .stopped s)) rfl, if_neg fun x => beyond x.2]; rfl

end

/-- What an entry's preparing leaves, as the statement of R121 and R122 reads it. -/
def Prepared (s : State) (e : Entry) (es : List Entry) (pos : GatePos) (ps : List Panel) : Prop :=
  ∃ t, exec .moveEnded s = .next t
    ∧ t.station = { s.station with
      cycle := .preparing, lastErr := some (s.p2 - e.trigger), gate := gateAfter s pos, blades := bladesAfter s ((e.lane.map (·.lanes)).getD s.station.laneSet) }
    ∧ t.planner = { s.planner with queue := { e with state := .executing } :: es }
    ∧ t.drives = { s.drives with outfeed := .stopped, timeoutFlag := false } ∧ t.panels = ps ∧ t.line = s.line ∧ t.reg = s.reg ∧ t.lam = s.lam
    ∧ t.cursor1 = s.cursor1 ∧ t.cursor2 = s.cursor2

/-- The move ended is an arrival whose entry is prepared, the panels as they then are (R117, R121). -/
theorem prepared_of_arrival {s : State} (h : Settled s) {e : Entry} {es : List Entry} {ps : List Panel} (cut : e.cut.isSome = true) (goes : s.continuing = true)
    (recut : s.station.recut = false) (away : s.station.knife.atHome = false)
    (reported : moveReported s = goOn (prepare e) { arrived e es (stilled .stopped s) with panels := ps }) :
    (Eligible e ps → ¬ Rejects s → Prepared s e es .delivery ps)
    ∧ (Eligible e ps → Rejects s → Prepared s e es .scrap (flagged .inspect true (severedBy e) ps))
    ∧ (¬ Eligible e ps → Prepared s e es .scrap ps) := by
  have acts := exec_moveEnded h
  rw [reported, goOn_of_continuing (by exact goes)] at acts
  obtain ⟨deliver, inspect, scrap⟩ := prepared_cases (s := { arrived e es (stilled .stopped s) with panels := ps }) (e := e) (es := es) rfl cut recut
  have ends {pos : GatePos} {qs : List Panel} (p : prepare e { arrived e es (stilled .stopped s) with panels := ps } =
      readiedFor pos qs e es { arrived e es (stilled .stopped s) with panels := ps }) : Prepared s e es pos qs := by
    rw [p, finish_readiedFor (u := { arrived e es (stilled .stopped s) with panels := ps }) h {} rfl away cut] at acts
    exact ⟨_, acts, rfl, rfl, rfl, rfl, rfl, rfl, rfl, rfl, rfl⟩
  exact ⟨fun x y => ends (deliver x y), fun x y => ends (inspect x y), fun x => ends (scrap x)⟩

/-- The move ended is an arrival that is corrected by a creep, or asks one that the loop holds (R118). -/
theorem finish_correct {s : State} (h : Settled s) {e : Entry} {es : List Entry} : finish s (correct e (arrived e es (stilled .stopped s))) = { s with
    planner := { s.planner with queue := { e with state := .settling } :: es }
    station := { s.station with cycle := .correct, lastErr := some (s.p2 - e.trigger), corrections := s.station.corrections + 1 }
    drives := { s.drives with
      timeoutFlag := false
      outfeed := if s.drives.webSeq ≠ .draining ∧ (s.loop.zone = .empty ∨ s.loop.zone = .unknown) then .held (.station .creep e.trigger)
        else movedTo s s.loop.zone s.drives.setpoint .creep .station e.trigger } } := by
  have asked : correct e (arrived e es (stilled .stopped s)) = { s with
    planner := { s.planner with queue := { e with state := .settling } :: es }
    station := { s.station with cycle := .correct, lastErr := some (s.p2 - e.trigger), corrections := s.station.corrections + 1 }
    drives := { s.drives with
      timeoutFlag := false
      outfeed := if s.drives.webSeq ≠ .draining ∧ (s.loop.zone = .empty ∨ s.loop.zone = .unknown) then .held (.station .creep e.trigger)
        else movedTo s s.loop.zone s.drives.setpoint .creep .station e.trigger } } := by
    unfold correct
    rw [askStation_eq (by rfl) (by simp)]
    rfl
  rw [asked]
  refine (finish_arrival h {} (pumpStep_of_cycle (.inr (.inl rfl))) (stopEnds_of_cycle (.inr (.inr rfl))) (by exact nofun)).trans (attnUpdate_of_follows ?_)
  exact attnFollows_station h _ _ _ _

theorem movedTo_creep (s : State) (e : Int) : movedTo s s.loop.zone s.drives.setpoint .creep .station e = .moving
    { kind := if e < s.p2 then .reverse else .forward, purpose := .creep, owner := .station, distance := (e - s.p2).natAbs, speed := 10, endPoint := some e
      deadline := some (s.now + (3 * (s.p2 - e).natAbs + 49) / 50 + s.workNat .moveTimeout) } := by
  have far : (s.p2 - e).natAbs = (e - s.p2).natAbs := by omega
  rw [far]
  rfl

/-- Settles O46. -/
theorem movesEnd : Obligations.MovesEnd := by
  intro s h
  refine ⟨fun still => ?_, fun m outfeed reports waits free => ?_, fun m outfeed reports owner feeding cycle target web ahead => ?_,
    fun m e es outfeed reports arrives queue stopped => ?_, fun m e es outfeed reports arrives queue cut goes recut => ?_⟩
  · have recorded : moveReported s = stilled s.drives.outfeed s := by
      unfold moveReported
      cases outfeed : s.drives.outfeed with
      | moving m => unfold State.moving at still; rw [outfeed] at still; exact absurd still nofun
      | stopped => dsimp only; rw [← outfeed]; rfl
      | held r => dsimp only; rw [← outfeed]; rfl
    refine (exec_moveEnded h).trans (congrArg Host.Outcome.next ?_)
    rw [recorded]
    exact finish_of_settled (h.drives_change _ rfl rfl rfl rfl rfl) rfl rfl
  · have recorded : moveReported s = stilled .stopped s := by
      unfold moveReported
      rw [outfeed]
      exact if_pos (by rw [reports]; exact nofun)
    refine (exec_moveEnded h).trans (congrArg Host.Outcome.next ?_)
    rw [recorded]
    exact finish_stilled h waits _
  · have runs : moveReported s = stilled (freeRunFrom s) s := by
      have away : ¬ (m.owner = .station ∨ s.station.cycle = .approach) := by rw [owner, cycle]; exact not_or.mpr ⟨nofun, nofun⟩
      have free : (stilled .stopped s).freeCond = true := by
        show (s.feeding && decide (s.station.cycle = .idle) && s.planner.target.isNone) = true
        rw [feeding, cycle, target]; rfl
      have ended : moveReported s = freeMoveEnded (stilled .stopped s) := by
        unfold moveReported
        rw [outfeed]
        dsimp only
        rw [if_neg (by simpa using reports), if_neg away]
        rfl
      rw [ended]
      unfold freeMoveEnded
      dsimp only
      rw [drainTest_of_not_draining (s := stilled .stopped s) web, if_pos free, startFreeRun_eq (s := stilled .stopped s) web ahead nofun]
      rfl
    refine (exec_moveEnded h).trans (congrArg Host.Outcome.next ?_)
    rw [runs]
    exact finish_stilled h (by rw [cycle]; exact nofun) _
  · have state : e.state ≠ .pending := by rcases arrives with ⟨_, x⟩ | ⟨_, x, _⟩ <;> rw [x] <;> exact nofun
    have reported := (moveReported_arrives outfeed reports arrives).trans (arrive_paused queue state stopped)
    refine ⟨_, (exec_moveEnded h).trans (congrArg Host.Outcome.next ((congrArg (finish s) reported).trans
      (finish_arrival h (u := pausedAt e es _ s) {} (pumpStep_of_cycle (.inl rfl)) (stopEnds_of_line stopped) nofun))), rfl, rfl, rfl, rfl, rfl, rfl, rfl, rfl, rfl⟩
  · have state : e.state ≠ .pending := by rcases arrives with ⟨_, x⟩ | ⟨_, x, _⟩ <;> rw [x] <;> exact nofun
    have reported := moveReported_arrives outfeed reports arrives
    refine ⟨fun near away => ?_, fun far miss away => ?_, fun far near => ?_⟩
    · exact prepared_of_arrival h cut goes recut away (reported.trans (arrive_near queue state near))
    · exact prepared_of_arrival h cut goes recut away (reported.trans (arrive_missed queue state far miss))
    · rw [arrive_corrects queue state far near, goOn_of_continuing (by exact goes)] at reported
      refine (exec_moveEnded h).trans (congrArg Host.Outcome.next ?_)
      rw [reported, finish_correct h, movedTo_creep]

end Sys2Proof.Machine
end

section
/-!
A stroke completes (R126, R127): the cuts credited, the entry gone, what the line and the station make of it.
-/
namespace Sys2Proof.Machine

/-! ### The cuts of a stroke (R7, R8, R12) -/

theorem finish_of_last {p : Panel} (last : p.cuts.length ≤ p.cutsDone) : p.finish false = { p with
    state := .done
    completion := some (if p.delivered + 1 = p.cuts.length then .delivered else if p.delivered = 0 then .scrapped else .partly) } := by
  unfold Panel.finish Panel.code
  rw [if_neg (not_or.mpr ⟨nofun, not_lt.mpr last⟩)]

theorem creditPanel_eq (d : Bool) (i : Nat) (p : Panel) : creditPanel d i p = strokeOn d i p := by
  unfold creditPanel strokeOn
  by_cases done : p.state = .done
  · rw [if_pos done, if_pos done]
  · rw [if_neg done, if_neg done]
    have delivered : (if 2 ≤ i ∧ d = true then p.delivered + 1 else p.delivered) = p.delivered + (if 2 ≤ i ∧ d = true then 1 else 0) := by split <;> rfl
    have scrapped : (if 2 ≤ i ∧ ¬ d = true then p.scrapped + 1 else p.scrapped) = p.scrapped + (if 2 ≤ i ∧ d = false then 1 else 0) := by
      cases d <;> simp; split <;> rfl
    dsimp only
    rw [delivered, scrapped]
    by_cases last : p.cuts.length ≤ p.cutsDone + 1
    · rw [if_pos last, if_pos last, finish_of_last last]
    · rw [if_neg last, if_neg last]

/-- The panels with the cuts of a stroke credited to them (R127). -/
def strokedPanels (d : Bool) (cs : List CutRef) (ps : List Panel) : List Panel :=
  cs.foldl (fun ps c => ps.map (fun p => if p.serial = c.panel.serial then strokeOn d c.index p else p)) ps

theorem creditCuts_eq (cs : List CutRef) (s : State) : creditCuts cs s = { s with
    panels := strokedPanels (decide (s.station.gate.commanded = .delivery)) cs s.panels } := by
  unfold creditCuts strokedPanels
  dsimp only
  generalize decide (s.station.gate.commanded = .delivery) = d
  induction cs generalizing s with
  | nil => rfl
  | cons c cs ih =>
    refine (ih (updPanel c.panel (creditPanel d c.index) s)).trans ?_
    unfold updPanel
    simp only [creditPanel_eq]
    rfl

theorem strokeOn_kept (d : Bool) (i : Nat) (p : Panel) : (strokeOn d i p).serial = p.serial ∧ (strokeOn d i p).proof = p.proof
    ∧ ((strokeOn d i p).state = .atOutfeed → p.state = .atOutfeed) := by
  unfold strokeOn
  by_cases done : p.state = .done
  · rw [if_pos done]; exact ⟨rfl, rfl, id⟩
  · rw [if_neg done]
    dsimp only
    by_cases last : p.cuts.length ≤ p.cutsDone + 1
    · rw [if_pos last]; exact ⟨rfl, rfl, nofun⟩
    · rw [if_neg last]; exact ⟨rfl, rfl, nofun⟩

/-- A stroke leaves a panel's place in the list, its number and its proof field, and puts none AT_OUTFEED. -/
theorem strokedPanels_map (d : Bool) (cs : List CutRef) (ps : List Panel) : ∃ g : Panel → Panel, strokedPanels d cs ps = ps.map g
    ∧ ∀ p, (g p).serial = p.serial ∧ (g p).proof = p.proof ∧ ((g p).state = .atOutfeed → p.state = .atOutfeed) := by
  unfold strokedPanels
  induction cs generalizing ps with
  | nil => exact ⟨id, (List.map_id _).symm, fun p => ⟨rfl, rfl, id⟩⟩
  | cons c cs ih =>
    obtain ⟨g, mapped, kept⟩ := ih (ps.map (fun p => if p.serial = c.panel.serial then strokeOn d c.index p else p))
    refine ⟨g ∘ fun p => if p.serial = c.panel.serial then strokeOn d c.index p else p, mapped.trans (List.map_map ..), fun p => ?_⟩
    have once : (if p.serial = c.panel.serial then strokeOn d c.index p else p).serial = p.serial
        ∧ (if p.serial = c.panel.serial then strokeOn d c.index p else p).proof = p.proof
        ∧ ((if p.serial = c.panel.serial then strokeOn d c.index p else p).state = .atOutfeed → p.state = .atOutfeed) := by
      by_cases named : p.serial = c.panel.serial
      · rw [if_pos named]; exact strokeOn_kept d c.index p
      · rw [if_neg named]; exact ⟨rfl, rfl, id⟩
    obtain ⟨serial, proof, state⟩ := kept (if p.serial = c.panel.serial then strokeOn d c.index p else p)
    exact ⟨serial.trans once.1, proof.trans once.2.1, fun x => once.2.2 (state x)⟩

/-- A panel with its proof field set reaches DONE by this stroke (R12, R127). -/
def ProofCut (e : Entry) (ps : List Panel) (s : State) : Prop :=
  ∃ c ∈ strokeCuts e, (∃ p ∈ s.panel? c.panel, p.proof = true ∧ p.state ≠ .done)
    ∧ ∃ q ∈ ps.find? (fun q => q.serial == c.panel.serial), q.state = .done

theorem proofDone_iff {s t u : State} {e : Entry} {d : Bool} (before : u.panels = s.panels) (after : t.panels = strokedPanels d (strokeCuts e) s.panels) :
    proofDone u t e.cuts = true ↔ ProofCut e (strokedPanels d (strokeCuts e) s.panels) s := by
  obtain ⟨g, mapped, kept⟩ := strokedPanels_map d (strokeCuts e) s.panels
  rw [mapped] at after ⊢
  unfold proofDone ProofCut
  rw [List.any_eq_true]
  refine exists_congr fun c => and_congr_right fun _ => ?_
  unfold State.panel?
  rw [before, after, List.find?_map]
  have same : ((fun q : Panel => q.serial == c.panel.serial) ∘ g) = fun q => q.serial == c.panel.serial := funext fun q => by
    show ((g q).serial == _) = _
    rw [(kept q).1]
  rw [same]
  cases s.panels.find? (fun q => q.serial == c.panel.serial) with
  | none => simp
  | some p => simp [(kept p).2.1]; tauto

/-! ### The entry of a stroke leaves (R108, R127) -/

theorem far_home (k : KnifeState) : KnifeState.at k.far = if decide (k = .traversingLR) = true then .homeR else .homeL := by
  unfold KnifeState.far
  by_cases right : k = .traversingLR
  · rw [if_pos right, decide_eq_true right]; rfl
  · rw [if_neg right, decide_eq_false right]; rfl

/-- The inputs with the switch active at the home a traverse goes to (R126). -/
def inputsAtFar (s : State) : Inputs :=
  { s.inputs with
    homeL := s.inputs.homeL || !decide (s.station.knife = .traversingLR), homeR := s.inputs.homeR || decide (s.station.knife = .traversingLR) }

theorem setHome_far (s : State) : setHome s.station.knife.far true s.inputs = inputsAtFar s := by
  unfold KnifeState.far inputsAtFar
  by_cases right : s.station.knife = .traversingLR
  · rw [if_pos right, decide_eq_true right]; simp [setHome]
  · rw [if_neg right, decide_eq_false right]; simp [setHome]

theorem exec_strokeComplete {s : State} (h : Settled s) (knife : s.station.knife = .traversingLR ∨ s.station.knife = .traversingRL) :
    exec .strokeComplete s = .next (finish s (completeStroke { s with inputs := inputsAtFar s })) := by
  refine congrArg Host.Outcome.next ((if_pos (decide_eq_true knife)).trans ?_)
  rw [inputEvent_of_running h.running, setHome_far]

/-- The unit after a stroke, the line and the outfeed apart: the knife home, the cuts credited, the entry gone, the station IDLE without records. -/
def stroked (i : Inputs) (e : Entry) (es : List Entry) (s : State) : State :=
  { s with
    inputs := i
    panels := strokedPanels (decide (s.station.gate.commanded = .delivery)) (strokeCuts e) s.panels
    station := { s.station with
      cycle := .idle, corrections := 0, lastErr := none, recut := false, knife := if decide (s.station.knife = .traversingLR) = true then .homeR else .homeL, knifeTimer := none
      laneSet := (e.lane.map (·.lanes)).getD s.station.laneSet }
    planner := { s.planner with queue := es, target := es.head?.map (·.trigger) } }

theorem none_stroked {d : Bool} {cs : List CutRef} {ps : List Panel} (none : ∀ p ∈ ps, p.state ≠ .atOutfeed) : ∀ p ∈ strokedPanels d cs ps, p.state ≠ .atOutfeed := by
  obtain ⟨g, mapped, kept⟩ := strokedPanels_map d cs ps
  rw [mapped]
  intro p held out
  obtain ⟨q, hq, rfl⟩ := List.mem_map.mp held
  exact none q hq ((kept q).2.2 out)

/-- The stroke's entry has left, and the line is told of it (R127, R171). -/
theorem completeStroke_parts {s : State} {e : Entry} {es : List Entry} (i : Inputs) (queue : s.planner.queue = e :: es) (state : e.state = .executing)
    (none : ∀ p ∈ s.panels, p.state ≠ .atOutfeed) (web : s.drives.webSeq ≠ .draining) : ∃ b : Bool,
    (b = true ↔ ProofCut e (stroked i e es s).panels s)
      ∧ completeStroke { s with inputs := i } = strokeReported (if b then handCycleEnd .proof (stroked i e es s) else stroked i e es s) := by
  have current : State.current (knifeAt s.station.knife.far { s with inputs := i }) = some e := current_of_executing queue state
  refine ⟨_, proofDone_iff (u := knifeAt s.station.knife.far { s with inputs := i }) (t := creditCuts e.cuts (knifeAt s.station.knife.far { s with inputs := i })) rfl
    (by rw [creditCuts_eq]; rfl), ?_⟩
  have leaves (t : State) (credited : t = creditCuts e.cuts (knifeAt s.station.knife.far { s with inputs := i })) :
      drainTest (removeFirst (clearRecords { t with station := { t.station with
        laneSet := (knifeAt s.station.knife.far { s with inputs := i }).lanesFor e, cycle := .idle } })) = stroked i e es s := by
    rw [credited, creditCuts_eq, removeFirst_of_idle ?_ ?_, drainTest_of_not_draining ?_]
    · unfold stroked; rw [show es = s.planner.queue.tail by rw [queue]; rfl, ← far_home]; rfl
    · exact web
    · rfl
    · exact fun p held out => absurd out (none_stroked none p held)
  unfold completeStroke
  dsimp only
  rw [current]
  dsimp only
  rw [leaves _ rfl]

/-! ### The end of a stroke's event -/

theorem strokeReported_of_line {s : State} (h : s.line.state ≠ .stopping ∨ s.feeding = false) : strokeReported s = s :=
  if_neg fun x => h.elim (fun y => y x.1) fun y => Bool.false_ne_true (y.symm.trans x.2)

theorem handCycleEnd_of_line {s : State} (h : s.line.state ≠ .running) (c : StopCause) : handCycleEnd c s = s := if_neg h

/-- An event that brings the line to rest, and reports it (R183). -/
theorem finish_rested {old u : State} (off : u.continuing = false) (station : pumpStep u = none) (changed : u.line.state ≠ old.line.state) :
    ∃ l, finish old u = { levelled u with link := l } ∧ (u.link.events.length < 64 → u.line.event ∈ l.events) := by
  have feeding : u.feeding = false := by
    by_contra on
    rw [Bool.not_eq_false] at on
    rw [continuing_of_feeding on] at off; exact nomatch off
  have told : lineUpdate old (levelled u) = queueEvent u.line.event (levelled u) := lineUpdate_of_changed changed
  refine ⟨(attnUpdate (queueEvent u.line.event (levelled u))).link, ?_, fun room => ?_⟩
  · rw [finish_of_not_feeding feeding station (stopEnds_of_line off), told, queueEvent_eq]; rfl
  · show u.line.event ∈ (queueEvent u.line.event (levelled u)).link.events
    rw [queueEvent_events, if_pos (show (levelled u).link.events.length < 64 from room)]
    simp

theorem feeding_of_running {s : State} (running : s.line.state = .running) : s.feeding = true := by unfold State.feeding LineBlock.feeding; rw [running]

theorem off_of_line {s : State} (h : s.line.state ≠ .running) (g : s.line.state ≠ .stopping) : s.continuing = false ∧ s.feeding = false := by
  have off : s.continuing = false := continuing_of_state ⟨h, g⟩
  exact ⟨off, not_feeding_of_resting off⟩

theorem not_feeding_of_controlled {s : State} {c : StopCause} (line : s.line.state = .stopping) (stop : s.line.stop = some ⟨.controlled, c⟩) : s.feeding = false := by
  unfold State.feeding LineBlock.feeding; rw [line, stop]; rfl

theorem feeding_of_cycleEnd {s : State} {c : StopCause} (line : s.line.state = .stopping) (stop : s.line.stop = some ⟨.cycleEnd, c⟩) : s.feeding = true := by
  unfold State.feeding LineBlock.feeding; rw [line, stop]; rfl

/-- An idle station has nothing to do on a line that does not feed, or without a target. -/
theorem pumpStep_of_idle_rest {s : State} (idle : s.station.cycle = .idle) (rest : s.feeding = false ∨ s.planner.target = none) : pumpStep s = none := by
  refine (pumpStep_eq_none_iff s).mpr ⟨fun _ work => ?_, fun c => by rw [idle] at c; exact nomatch c⟩
  rcases rest with off | gone
  · exact Bool.false_ne_true (off.symm.trans work.2)
  · have some := work.1
    rw [gone] at some; exact nomatch some

/-- A CYCLE_END stop that ends with the station IDLE and the outfeed at rest (R171). -/
theorem endCycleEnd_eq {s : State} (idle : s.station.cycle = .idle) (outfeed : s.drives.outfeed = .stopped) :
    endCycleEnd s = { s with line := { s.line with state := .holding } } := by
  unfold endCycleEnd
  rw [leaveFeeding_eq]
  unfold left outfeedAfterLeaving setLine
  dsimp only
  rw [idle, outfeed]
  simp only [reduceCtorEq, decide_false, if_false]
  rw [← outfeed, ← idle]
  rfl

/-- The station takes up an entry ahead of P2, the outfeed at rest (R114, R140, R141). -/
theorem takeUp_eq {s : State} {f : Entry} {fs : List Entry} (queue : s.planner.queue = f :: fs) (ahead : s.p2 < f.trigger) (outfeed : s.drives.outfeed = .stopped)
    (web : s.drives.webSeq ≠ .draining) : takeUp s = { s with
      station := { s.station with cycle := .approach, corrections := 0, lastErr := none, recut := false }
      planner := { s.planner with queue := { f with state := .active } :: fs }
      drives := { s.drives with
        outfeed := if s.loop.zone = .empty ∨ s.loop.zone = .unknown then .held (.station .approach f.trigger)
          else movedTo s s.loop.zone s.drives.setpoint .approach .station f.trigger } } := by
  have takes : clearRecords (setCycle .approach (setEntry .active s)) = { s with
      station := { s.station with cycle := .approach, corrections := 0, lastErr := none, recut := false }
      planner := { s.planner with queue := { f with state := .active } :: fs } } := by
    rw [setEntry_eq, queue]; rfl
  unfold takeUp
  rw [queue]
  dsimp only
  rw [takes, if_pos (by exact ahead), askStation_eq ?_ ?_]
  · rw [if_congr (and_iff_right (by exact web)) rfl rfl]; rfl
  · exact outfeed
  · exact fun x => absurd x.2 (not_le.mpr ahead)

theorem pumpStep_takes {s : State} (idle : s.station.cycle = .idle) (target : s.planner.target.isSome = true) (feeding : s.feeding = true) :
    pumpStep s = some (takeUp s) := by
  unfold pumpStep
  rw [idle]
  exact if_pos ⟨target, feeding⟩

/-- A CONTROLLED stop ends as the station comes to rest: in HOLDING, or in END_OF_WEB (R170, R173). -/
theorem endStop_controlled {s : State} {c : StopCause} (line : s.line.state = .stopping) (stop : s.line.stop = some ⟨.controlled, c⟩) (idle : s.station.cycle = .idle) :
    endStop s = if c = .webEnd then enterEndOfWeb s.line s else { s with line := { s.line with state := .holding } } := by
  have off := not_feeding_of_controlled line stop
  unfold endStop
  rw [if_pos line, if_neg (by rw [off]; exact nofun), if_pos (by rw [idle]; rfl), stop]
  by_cases web : c = .webEnd
  · rw [if_pos web, if_pos (by simp [web])]
  · rw [if_neg web, if_neg (by simp [web])]; rfl

/-- An event that brings the station to IDLE on a line that has stopped. -/
theorem finish_idle_off {s : State} (h : Settled s) (off : s.continuing = false) (i : Inputs) (x : Station) (idle : x.cycle = .idle) :
    finish s { s with inputs := i, station := x } = { s with inputs := i, station := x } := by
  have feeding : State.feeding { s with inputs := i, station := x } = false := not_feeding_of_resting off
  have waits : pumpStep { s with inputs := i, station := x } = none := pumpStep_of_idle_rest idle (.inl feeding)
  have free : freeUpdate s { s with inputs := i, station := x } = { s with inputs := i, station := x } :=
    freeUpdate_of_none fun y => absurd ((freeCond_of_not_feeding feeding).symm.trans y) (by exact nofun)
  exact (Steady.finish_eq {} h (pump_of_none _ waits) (stopEnds_of_line off) free).trans (attnUpdate_of_follows (attnFollows_station h _ _ _ _))

/-- Settles O49. -/
theorem strokeCompletes : Obligations.StrokeCompletes := by
  intro s h knife cycle none web
  have act := exec_strokeComplete h knife
  have before : s.freeCond = false := freeCond_of_cycle (by rw [cycle]; exact nofun)
  refine ⟨fun e es queue state cut => ?_, fun empty running stopping => ?_⟩
  · obtain ⟨b, proof, parts⟩ := completeStroke_parts (inputsAtFar s) queue state none web
    rw [parts] at act
    refine ⟨fun running stopping => ?_, fun running last outfeed ahead plain => ?_, fun f fs running next ahead outfeed plain => ?_,
      fun running last outfeed done => ?_, fun c stopping stop cause => ?_, fun stopping stop => ?_, fun c stopping stop outfeed => ?_⟩
    · obtain ⟨off, still⟩ := off_of_line running stopping
      have calm : strokeReported (if b = true then handCycleEnd .proof (stroked (inputsAtFar s) e es s) else stroked (inputsAtFar s) e es s) =
          stroked (inputsAtFar s) e es s := by
        rw [handCycleEnd_of_line (s := stroked (inputsAtFar s) e es s) running, ite_self]
        exact strokeReported_of_line (.inr still)
      rw [calm] at act
      refine ⟨_, act.trans (congrArg Host.Outcome.next (Steady.finish_eq (w := stroked (inputsAtFar s) e es s) {} h
        (pump_of_none _ (pumpStep_of_idle_rest rfl (.inl still))) (stopEnds_of_line off) (freeUpdate_of_none fun x => ?_))), rfl, rfl, rfl, rfl, rfl, rfl, rfl, rfl, rfl, rfl⟩
      exact absurd ((freeCond_of_not_feeding (u := stroked (inputsAtFar s) e es s) still).symm.trans x) (by exact nofun)
    · subst last
      have calm : strokeReported (if b = true then handCycleEnd .proof (stroked (inputsAtFar s) e [] s) else stroked (inputsAtFar s) e [] s) =
          stroked (inputsAtFar s) e [] s := by
        rw [if_neg fun x => plain (proof.mp x)]
        exact strokeReported_of_line (.inl (by show s.line.state ≠ _; rw [running]; exact nofun))
      rw [calm] at act
      refine ⟨_, act.trans (congrArg Host.Outcome.next (Steady.finish_eq (w := setOutfeed (freeRunFrom s) (stroked (inputsAtFar s) e [] s)) {} h
        (pump_of_none _ (pumpStep_of_idle_rest rfl (.inr rfl))) ?_ ((freeUpdate_starts ?_ before ?_).trans
          (startFreeRun_eq (s := stroked (inputsAtFar s) e [] s) web ahead ?_)))), rfl, rfl, rfl, rfl, rfl, rfl, rfl, rfl, rfl, rfl⟩
      · unfold State.stopEnds; show (decide (s.line.state = .stopping) && _) = false; rw [running]; rfl
      · show (s.feeding && true && true) = true
        rw [feeding_of_running running]; rfl
      · show State.moving s = false
        unfold State.moving; rw [outfeed]
      · show State.outfeedHeld s = true → _
        unfold State.outfeedHeld; rw [outfeed]; exact nofun
    · subst next
      have calm : strokeReported (if b = true then handCycleEnd .proof (stroked (inputsAtFar s) e (f :: fs) s) else stroked (inputsAtFar s) e (f :: fs) s) =
          stroked (inputsAtFar s) e (f :: fs) s := by
        rw [if_neg fun x => plain (proof.mp x)]
        exact strokeReported_of_line (.inl (by show s.line.state ≠ _; rw [running]; exact nofun))
      rw [calm] at act
      have takes := pumpStep_takes (s := stroked (inputsAtFar s) e (f :: fs) s) rfl rfl (feeding_of_running running)
      rw [takeUp_eq (s := stroked (inputsAtFar s) e (f :: fs) s) rfl ahead outfeed web] at takes
      refine ⟨_, act.trans (congrArg Host.Outcome.next (Steady.finish_eq (w := _) {} h (pump_once takes ?_) ?_ (freeUpdate_of_none ?_))),
        rfl, rfl, rfl, rfl, rfl, rfl, rfl, rfl, rfl, rfl⟩
      · exact pumpStep_of_cycle (.inr (.inr (.inr rfl)))
      · unfold State.stopEnds; show (decide (s.line.state = .stopping) && _) = false; rw [running]; rfl
      · rw [freeCond_of_cycle (by exact nofun)]; exact nofun
    · subst last
      have hands : handCycleEnd .proof (stroked (inputsAtFar s) e [] s) =
          { stroked (inputsAtFar s) e [] s with line := { s.line with state := .stopping, stop := some ⟨.cycleEnd, .proof⟩ } } := if_pos running
      have ends : strokeReported (handCycleEnd .proof (stroked (inputsAtFar s) e [] s)) =
          { stroked (inputsAtFar s) e [] s with line := { s.line with state := .holding, stop := some ⟨.cycleEnd, .proof⟩ } } := by
        rw [hands]
        exact (if_pos ⟨rfl, rfl⟩).trans (endCycleEnd_eq rfl outfeed)
      rw [if_pos (proof.mpr done), ends] at act
      obtain ⟨l, ended, -⟩ := finish_rested (old := s) (u := { stroked (inputsAtFar s) e [] s with line := { s.line with state := .holding, stop := some ⟨.cycleEnd, .proof⟩ } })
        rfl (pumpStep_of_idle_rest rfl (.inl rfl)) (by rw [running]; exact nofun)
      rw [ended] at act
      exact ⟨_, act, rfl, rfl, rfl, outfeed, infeedReference_of_not_feeding rfl⟩
    · have off := not_feeding_of_controlled stopping stop
      have calm : strokeReported (if b = true then handCycleEnd .proof (stroked (inputsAtFar s) e es s) else stroked (inputsAtFar s) e es s) =
          stroked (inputsAtFar s) e es s := by
        rw [handCycleEnd_of_line (s := stroked (inputsAtFar s) e es s) (by show s.line.state ≠ _; rw [stopping]; exact nofun), ite_self]
        exact strokeReported_of_line (.inr off)
      rw [calm] at act
      have ends := endStop_controlled (s := stroked (inputsAtFar s) e es s) stopping stop rfl
      rw [if_neg cause] at ends
      have waits : pumpStep (stroked (inputsAtFar s) e es s) = Option.none := pumpStep_of_idle_rest rfl (.inl off)
      rw [finish_of_endStop waits ends (pumpStep_of_idle_rest rfl (.inl rfl)) rfl] at act
      obtain ⟨l, ended, told⟩ := finish_rested (old := s) (u := { stroked (inputsAtFar s) e es s with line := { s.line with state := .holding } })
        rfl (pumpStep_of_idle_rest rfl (.inl rfl)) (by rw [stopping]; exact nofun)
      exact ⟨_, act.trans (congrArg Host.Outcome.next ended), rfl, rfl, rfl, rfl, rfl, drives_off h off rfl rfl, rfl, rfl, rfl, rfl, fun room => told (Nat.lt_succ_iff.mpr room)⟩
    · have off := not_feeding_of_controlled stopping stop
      have calm : strokeReported (if b = true then handCycleEnd .proof (stroked (inputsAtFar s) e es s) else stroked (inputsAtFar s) e es s) =
          stroked (inputsAtFar s) e es s := by
        rw [handCycleEnd_of_line (s := stroked (inputsAtFar s) e es s) (by show s.line.state ≠ _; rw [stopping]; exact nofun), ite_self]
        exact strokeReported_of_line (.inr off)
      rw [calm] at act
      have ends := endStop_controlled (s := stroked (inputsAtFar s) e es s) stopping stop rfl
      obtain ⟨c, w, frame⟩ := enterEndOfWeb_frame s.line (stroked (inputsAtFar s) e es s)
      rw [if_pos rfl, show (stroked (inputsAtFar s) e es s).line = s.line from rfl, frame] at ends
      have still : pumpStep (endedWeb s.line c w (stroked (inputsAtFar s) e es s)) = Option.none := pumpStep_of_idle_rest rfl (.inl rfl)
      have waits : pumpStep (stroked (inputsAtFar s) e es s) = Option.none := pumpStep_of_idle_rest rfl (.inl off)
      rw [finish_of_endStop waits ends still rfl] at act
      obtain ⟨l, ended, told⟩ := finish_rested (old := s) (u := endedWeb s.line c w (stroked (inputsAtFar s) e es s))
        rfl still (by rw [stopping]; exact nofun)
      rw [ended] at act
      exact ⟨_, act, rfl, rfl, rfl, rfl, rfl, drives_off h off rfl rfl, rfl, rfl, rfl, fun room => told (Nat.lt_succ_iff.mpr room)⟩
    · have on := feeding_of_cycleEnd stopping stop
      have ends : strokeReported (if b = true then handCycleEnd .proof (stroked (inputsAtFar s) e es s) else stroked (inputsAtFar s) e es s) =
          { stroked (inputsAtFar s) e es s with line := { s.line with state := .holding } } := by
        rw [handCycleEnd_of_line (s := stroked (inputsAtFar s) e es s) (by show s.line.state ≠ _; rw [stopping]; exact nofun), ite_self]
        exact (if_pos ⟨stopping, on⟩).trans (endCycleEnd_eq rfl outfeed)
      rw [ends] at act
      obtain ⟨l, ended, told⟩ := finish_rested (old := s) (u := { stroked (inputsAtFar s) e es s with line := { s.line with state := .holding } })
        rfl (pumpStep_of_idle_rest rfl (.inl rfl)) (by rw [stopping]; exact nofun)
      rw [ended] at act
      refine ⟨_, act, rfl, rfl, rfl, rfl, rfl, ?_, rfl, rfl, rfl, rfl, fun room => told (Nat.lt_succ_iff.mpr room)⟩
      exact congrArg (fun n => { s.drives with infeedRef := n }) (infeedReference_of_not_feeding (u := { stroked (inputsAtFar s) e es s with line := { s.line with state := .holding } }) rfl)
  · obtain ⟨off, still⟩ := off_of_line running stopping
    have gone : completeStroke { s with inputs := inputsAtFar s } = { s with
        inputs := inputsAtFar s
        station := { s.station with
          cycle := .idle, corrections := 0, lastErr := Option.none, recut := false
          knife := if decide (s.station.knife = .traversingLR) = true then .homeR else .homeL, knifeTimer := Option.none } } := by
      have current : State.current (knifeAt s.station.knife.far { s with inputs := inputsAtFar s }) = Option.none := by
        unfold State.current; show (match s.planner.queue with | e :: _ => _ | [] => _) = _; rw [empty]
      unfold completeStroke
      dsimp only
      rw [current]
      dsimp only
      rw [strokeReported_of_line ?_, ← far_home]
      · rfl
      · exact .inr still
    rw [act, gone]
    exact congrArg Host.Outcome.next (finish_idle_off h off _ _ rfl)

end Sys2Proof.Machine
end

section
/-!
Tail-out (R147, R148): the station's current entry is the first of the queue, so a queue whose first entry is still PENDING while the station is in PREPARING gets
a current entry as the entries beyond the limit leave it.
-/
namespace Sys2Proof.Machine

/-- A LANE entry at the limit, EXECUTING. -/
def laneWaiting : Entry := { cut := none, lane := some ⟨0, ⟨0, 1⟩⟩, trigger := 0, state := .executing }

/-- A LANE entry far beyond the limit, PENDING. -/
def laneBeyond : Entry := { cut := none, lane := some ⟨0, ⟨0, 1⟩⟩, trigger := 1000000000, state := .pending }

/-- The outfeed runs. -/
def running : Move := { kind := .forward, purpose := .freeRun, owner := .free, distance := 1, speed := 10, endPoint := none, deadline := none }

/-- The tail-out watch has fired with the station in PREPARING behind a first entry that is still PENDING, and lies beyond the limit. -/
def tailOutPreparing : State :=
  { State.reset with
    station := { State.reset.station with cycle := .preparing, blades := [] }
    planner := { queue := [laneBeyond, laneWaiting], target := some 1000000000 }
    drives := { outfeed := .moving running, aEnd := some 0 }
    reg := { State.reset.reg with anchor := some (0, 0) }
    watches := { tailOut := some { limit := 0, due := true } } }

theorem settled_tailOutPreparing : Settled tailOutPreparing where
  running := rfl
  station := rfl
  stop := rfl
  close := rfl
  infeed := rfl
  dwell := rfl
  idle := rfl
  starve := rfl
  attn := rfl

/-- Refutes O47: the entries beyond the limit leave, the EXECUTING one comes first, and the station in PREPARING completes it in the same event. -/
theorem not_tailOutDrains : ¬ Obligations.TailOutDrains := by
  intro drains
  obtain ⟨drained, -⟩ := drains tailOutPreparing 0 running settled_tailOutPreparing rfl rfl rfl nofun (by decide) rfl
  obtain ⟨t, ended, -, -, -, -, -, station, -⟩ := drained (.inl (by decide +kernel))
  have idle : (event tailOut tailOutPreparing).station.cycle = .idle := by decide +kernel
  have same : event tailOut tailOutPreparing = t := by
    have runs : exec .tailOut tailOutPreparing = .next (event tailOut tailOutPreparing) := rfl
    exact Host.Outcome.next.inj (runs.symm.trans ended)
  rw [same, station] at idle
  exact absurd idle nofun

end Sys2Proof.Machine
end

section
/-!
Conversions (R33 to R36): the rounds, and what a result that raises a fault leaves; the DANCER result (R37 to R41, R140, R141).
-/
namespace Sys2Proof.Machine

/-! ### Rounds (R33, R34) -/

theorem nextRound_eq (s : State) : nextRound s.newRound s.sampler.round = turnsAfter s := by
  unfold turnsAfter
  cases round : s.sampler.round with
  | nil => rfl
  | cons c rest =>
    obtain ⟨c, n⟩ := c
    cases n with
    | zero => cases rest <;> rfl
    | succ n =>
      cases n with
      | zero => cases rest <;> rfl
      | succ n => rfl

/-- The Sampler after a conversion of a channel (R33 to R35). -/
def sampled (c : Channel) (r : Nat) (s : State) : Sampler := { s.sampler.latest c r with round := turnsAfter s }

/-- The sampler's next turn, by a state that has the rounds and the grants of `s`. -/
theorem advanceRound_eq {s u : State} {c : Channel} {r : Nat} (sampler : u.sampler = s.sampler.latest c r) (cal : u.cal = s.cal) (straps : u.straps = s.straps)
    (teach1 : u.sensor1.teach.isSome = s.sensor1.teach.isSome) (teach2 : u.sensor2.teach.isSome = s.sensor2.teach.isSome) :
    advanceRound u = { u with sampler := sampled c r s } := by
  have fresh : u.newRound = s.newRound := by
    unfold State.newRound State.workNat State.work; rw [cal, straps, teach1, teach2]
  have round : u.sampler.round = s.sampler.round := by rw [sampler]; cases c <;> rfl
  unfold advanceRound sampled
  rw [fresh, round, nextRound_eq, sampler]

/-! ### A fault raised in a conversion -/

/-- A fault raised does not look at the sampler. -/
theorem raiseFault_sampler (c : FaultCause) (x : Sampler) (u : State) : raiseFault c { u with sampler := x } = { raiseFault c u with sampler := x } := by
  unfold raiseFault
  by_cases noted : u.line.state = .faulted ∨ u.line.state = .eStopped
  · rw [if_pos noted, if_pos noted]
    unfold queueEvent; split <;> rfl
  · rw [if_neg noted, if_neg noted, enterFaulted_eq, enterFaulted_eq, queueEvent_eq, queueEvent_eq _ u]
    have same : (queueEvent (.fault c true (State.p1 { u with sampler := x }) (State.p2 { u with sampler := x })) { u with sampler := x }).link =
        (queueEvent (.fault c true u.p1 u.p2) u).link := by unfold queueEvent; split <;> rfl
    rw [same]
    rfl

theorem raiseFault_frame (c : FaultCause) (u : State) : (raiseFault c u).sampler = u.sampler ∧ (raiseFault c u).cal = u.cal ∧ (raiseFault c u).straps = u.straps
    ∧ (raiseFault c u).sensor1 = u.sensor1 ∧ (raiseFault c u).sensor2 = u.sensor2 ∧ (raiseFault c u).loop = u.loop := by
  unfold raiseFault
  split
  · rw [queueEvent_eq]; exact ⟨rfl, rfl, rfl, rfl, rfl, rfl⟩
  · rw [enterFaulted_eq, queueEvent_eq]; exact ⟨rfl, rfl, rfl, rfl, rfl, rfl⟩

/-! ### The end of a conversion -/

/-- A closure that waits for NIP_CLOSED adds no point (R159, R160). -/
theorem closeUpdate_of_inactive {u : State} (inactive : u.inputs.nipClosed = false) : closeUpdate u = { u with lam := closeLam u } := by
  unfold closeUpdate closeLam
  by_cases demand : u.closeDemand = true
  · rw [if_pos demand, if_pos demand]
    have act : commandClose u = confirmNip (updLam (fun l => { l with
        nip := .closing, commandClose := true, nipTimer := some (u.startTimer (u.workNat .nipTimeout)) }) u) := by
      unfold commandClose
      rcases nip_of_closeDemand demand with nip | nip <;> rw [nip]
    rw [act]
    unfold closedLam
    rw [inactive]
    exact if_neg (by show ¬ u.inputs.nipClosed = true; rw [inactive]; exact nofun)
  · rw [if_neg demand, if_neg demand]

/-- The end of an event that leaves station, planner and line alone and gives the station nothing to do, NIP_CLOSED inactive. -/
theorem finish_inactive {s u : State} (h : Settled s) (station : u.station = s.station) (planner : u.planner = s.planner) (line : u.line = s.line)
    (rests : pumpStep u = none) (inactive : u.inputs.nipClosed = false) : finish s u = attnUpdate (levelled { u with lam := closeLam u }) := by
  have stop : u.stopEnds = false := by
    rw [← h.stop]; unfold State.stopEnds State.feeding; rw [line, station, planner]
  have free : freeUpdate s u = u := by
    refine freeUpdate_of_none fun x => ?_
    rw [← x]; unfold State.freeCond State.feeding; rw [line, station, planner]
  unfold finish
  rw [pump_of_none _ rests, endStop_of_stands stop, free, bringUp_eq, closeUpdate_of_inactive inactive]
  exact congrArg attnUpdate (lineUpdate_of_same (by show u.line.state = _; rw [line]) (by show u.line.stop = _; rw [line]))

/-! ### A DANCER result (R37 to R41) -/

/-- The Loop after a DANCER result (R37, R38, R40). -/
def measured (r : Nat) (s : State) : LoopBlock :=
  { s.loop with
    length := some (s.work .loopAt0 + roundDiv (r * (s.work .loopAt1023 - s.work .loopAt0)) 1023)
    zone := zoneFrom s (s.work .loopAt0 + roundDiv (r * (s.work .loopAt1023 - s.work .loopAt0)) 1023)
    faulted := decide (r < 8 ∨ 1015 < r) }

/-- The unit as a DANCER result finds its outfeed (R140, R141). -/
def reeled (x : Sampler) (r : Nat) (s : State) : State := { s with sampler := x, loop := measured r s }

/-- A DANCER result raises the fault (R40). -/
def DancerFaults (r : Nat) (s : State) : Prop := s.loop.watching = true ∧ (r < 8 ∨ 1015 < r) ∧ s.loop.faulted = false

theorem convert_reeled {s : State} {r : Nat} (channel : s.sampler.channel = .dancer) {o : Outfeed}
    (change : zoneChange s.loop.zone (reeled (s.sampler.latest .dancer r) r s) = setOutfeed o (reeled (s.sampler.latest .dancer r) r s)) :
    (¬ DancerFaults r s → convert r s = setOutfeed o (reeled (sampled .dancer r s) r s))
    ∧ (DancerFaults r s → convert r s = raiseFault .dancer (setOutfeed o (reeled (sampled .dancer r s) r s))) := by
  have act : convert r s = advanceRound (if s.loop.watching = true ∧ outOfRange r = true ∧ ¬ s.loop.faulted = true
      then raiseFault .dancer (setOutfeed o (reeled (s.sampler.latest .dancer r) r s)) else setOutfeed o (reeled (s.sampler.latest .dancer r) r s)) := by
    unfold convert
    dsimp only
    rw [channel]
    show advanceRound (dancerResult r _) = _
    unfold dancerResult
    exact congrArg (fun x : State => advanceRound (if x.loop.watching = true ∧ outOfRange r = true ∧ ¬ s.loop.faulted = true then raiseFault .dancer x else x)) change
  have tests : (s.loop.watching = true ∧ outOfRange r = true ∧ ¬ s.loop.faulted = true) ↔ DancerFaults r s := by
    unfold outOfRange DancerFaults; simp
  rw [act]
  refine ⟨fun quiet => ?_, fun faults => ?_⟩
  · rw [if_neg fun x => quiet (tests.mp x)]
    exact advanceRound_eq (s := s) (u := setOutfeed o (reeled (s.sampler.latest .dancer r) r s)) (c := .dancer) (r := r) rfl rfl rfl rfl rfl
  · obtain ⟨sampler, cal, straps, sensor1, sensor2, -⟩ := raiseFault_frame .dancer (setOutfeed o (reeled (s.sampler.latest .dancer r) r s))
    rw [if_pos (tests.mpr faults), advanceRound_eq (s := s) (c := .dancer) (r := r) sampler cal straps (by rw [sensor1]; rfl) (by rw [sensor2]; rfl),
      ← raiseFault_sampler]
    rfl

/-- What a DANCER result that raises no fault leaves, the outfeed given. -/
def DancerGives (r : BitVec 10) (s : State) (o : Outfeed) : Prop :=
  ∃ t, exec (.conversionComplete r) s = .next t ∧ t.loop = measured r.toNat s ∧ t.sampler = sampled .dancer r.toNat s
    ∧ t.drives = { s.drives with outfeed := o, infeedRef := t.infeedReference } ∧ t.line = s.line ∧ WebKept s t

theorem dancerGives {s : State} {r : BitVec 10} (h : Settled s) (channel : s.sampler.channel = .dancer) (quiet : ¬ DancerFaults r.toNat s)
    (inactive : s.inputs.nipClosed = false) {o : Outfeed}
    (change : zoneChange s.loop.zone (reeled (s.sampler.latest .dancer r.toNat) r.toNat s) = setOutfeed o (reeled (s.sampler.latest .dancer r.toNat) r.toNat s))
    (rests : pumpStep (setOutfeed o (reeled (sampled .dancer r.toNat s) r.toNat s)) = none) : DancerGives r s o := by
  have ended := finish_inactive (u := setOutfeed o (reeled (sampled .dancer r.toNat s) r.toNat s)) h rfl rfl rfl rests inactive
  have act := exec_conversionComplete r h.running
  rw [(convert_reeled channel change).1 quiet, ended] at act
  generalize closeLam (setOutfeed o (reeled (sampled .dancer r.toNat s) r.toNat s)) = lam at act
  have loop : (setOutfeed o (reeled (sampled .dancer r.toNat s) r.toNat s)).loop = measured r.toNat s := rfl
  have sampler : (setOutfeed o (reeled (sampled .dancer r.toNat s) r.toNat s)).sampler = sampled .dancer r.toNat s := rfl
  have drives : (setOutfeed o (reeled (sampled .dancer r.toNat s) r.toNat s)).drives = { s.drives with outfeed := o } := rfl
  have line : (setOutfeed o (reeled (sampled .dancer r.toNat s) r.toNat s)).line = s.line := rfl
  have web : WebKept s (setOutfeed o (reeled (sampled .dancer r.toNat s) r.toNat s)) := ⟨rfl, rfl, rfl, rfl, rfl, rfl, rfl, ⟨rfl, rfl⟩, rfl⟩
  generalize setOutfeed o (reeled (sampled .dancer r.toNat s) r.toNat s) = u at act loop sampler drives line web
  obtain ⟨panels, reg, cursor1, cursor2, planner, station, cal, rolls, pending⟩ := web
  refine ⟨_, act, loop, sampler, ?_, line, ⟨panels, reg, cursor1, cursor2, planner, station, cal, rolls, pending⟩⟩
  rw [infeedReference_congr (s := { u with lam := lam }) (t := attnUpdate (levelled { u with lam := lam })) rfl rfl rfl rfl rfl rfl rfl]
  exact congrArg (fun d : Drives => { d with infeedRef := State.infeedReference { u with lam := lam } }) drives

/-! ### The outfeed's answer to a change of zone (R140, R141) -/

theorem catchUp_iff (z : Zone) : z.catchUp = true ↔ z = .normal ∨ z = .high ∨ z = .full := by unfold Zone.catchUp; simp

theorem not_holding_of_catchUp {z : Zone} (h : z = .normal ∨ z = .high ∨ z = .full) : ¬ (z = .empty ∨ z = .unknown) := by
  rcases h with rfl | rfl | rfl <;> exact not_or.mpr ⟨nofun, nofun⟩

theorem freeCond_iff (s : State) : s.freeCond = true ↔ s.feeding = true ∧ s.station.cycle = .idle ∧ s.planner.target = none := by
  unfold State.freeCond; simp [and_assoc]

theorem zoneChange_same {s : State} {old : Zone} (same : s.loop.zone = old) : zoneChange old s = s := if_pos (.inr same)

theorem zoneChange_stopped {s : State} (stopped : s.drives.outfeed = .stopped) (old : Zone) : zoneChange old s = s := by
  have held : s.outfeedHeld = false := by unfold State.outfeedHeld; rw [stopped]
  have hold : loopHold s = s := by unfold loopHold; rw [stopped]
  have issue : reissue s = s := by unfold reissue; rw [stopped]
  unfold zoneChange
  rw [held, hold, issue]
  simp

section
variable {s : State} {old : Zone} (web : s.drives.webSeq ≠ .draining) (changed : s.loop.zone ≠ old)
include web changed

theorem zoneChange_holds {m : Move} (moving : s.drives.outfeed = .moving m) (going : m.kind ≠ .stopNow) (zone : s.loop.zone = .empty) :
    zoneChange old s = setOutfeed (.held (if m.owner = .free then .free else .station m.purpose (m.endPoint.getD s.p2))) s := by
  unfold zoneChange loopHold
  rw [if_neg (not_or.mpr ⟨by unfold State.draining; simpa using web, changed⟩), if_pos (.inl zone), moving]
  dsimp only
  cases kind : m.kind with
  | stopNow => exact absurd kind going
  | _ => cases m.owner <;> rfl

theorem zoneChange_reissues {m : Move} (moving : s.drives.outfeed = .moving m) (fed : ¬ (s.loop.zone = .empty ∨ s.loop.zone = .unknown))
    (speed : old.catchUp ≠ s.loop.zone.catchUp) : zoneChange old s = setOutfeed (reissued s s.loop.zone s.drives.setpoint m) s := by
  have held : s.outfeedHeld = false := by unfold State.outfeedHeld; rw [moving]
  unfold zoneChange
  rw [if_neg (not_or.mpr ⟨by unfold State.draining; simpa using web, changed⟩), if_neg fed, held, if_neg nofun, if_pos speed, reissue_of_moving moving]

theorem zoneChange_held {r : HeldReq} (held : s.drives.outfeed = .held r) (fed : ¬ (s.loop.zone = .empty ∨ s.loop.zone = .unknown)) :
    zoneChange old s = if s.loop.zone.catchUp then thenArrive (releaseHold s) else s := by
  have holds : s.outfeedHeld = true := by unfold State.outfeedHeld; rw [held]
  unfold zoneChange
  rw [if_neg (not_or.mpr ⟨by unfold State.draining; simpa using web, changed⟩), if_neg fed, holds, if_pos rfl]

theorem zoneChange_releases {r : HeldReq} (held : s.drives.outfeed = .held r) (fed : s.loop.zone = .normal ∨ s.loop.zone = .high ∨ s.loop.zone = .full) :
    zoneChange old s = thenArrive (releaseHold s) :=
  (zoneChange_held web changed held (not_holding_of_catchUp fed)).trans (if_pos ((catchUp_iff _).mpr fed))

end

theorem releaseHold_station {s : State} {p : Purpose} {e : Int} (held : s.drives.outfeed = .held (.station p e)) (away : e ≠ s.p2) :
    thenArrive (releaseHold s) = setOutfeed (movedTo s s.loop.zone s.drives.setpoint p .station e) s := by
  have released : releaseHold s = (issueMove p .station e (setOutfeed .stopped s), false) := by
    unfold releaseHold; rw [held]; exact if_neg away
  rw [released, issueMove_eq]
  rfl

theorem releaseHold_nothing {s : State} (held : s.drives.outfeed = .held .nothing) : thenArrive (releaseHold s) = setOutfeed .stopped s := by
  have released : releaseHold s = (setOutfeed .stopped s, false) := by unfold releaseHold; rw [held]
  rw [released]
  rfl

theorem releaseHold_free {s : State} (held : s.drives.outfeed = .held .free) (web : s.drives.webSeq ≠ .draining) (zone : ¬ (s.loop.zone = .empty ∨ s.loop.zone = .unknown)) :
    thenArrive (releaseHold s) = setOutfeed (if s.feeding = true ∧ s.station.cycle = .idle ∧ s.planner.target = none then movedTo s s.loop.zone s.drives.setpoint .freeRun .free (s.p2 + s.work .dMk) else .stopped) s := by
  have target : (setOutfeed .stopped s).freeEnd = some (s.p2 + s.work .dMk) := if_neg (by show ¬ decide (s.drives.webSeq = .draining) = true; simpa using web)
  have stays : ¬ ((setOutfeed .stopped s).zoneHolds = true ∨ (setOutfeed .stopped s).outfeedHeld = true) := by
    rw [zoneHolds_of_not_draining (s := setOutfeed .stopped s) web]
    exact not_or.mpr ⟨by show ¬ decide (s.loop.zone = .empty ∨ s.loop.zone = .unknown) = true; simpa using zone, nofun⟩
  have starts : startFreeRun (setOutfeed .stopped s) = setOutfeed (movedTo s s.loop.zone s.drives.setpoint .freeRun .free (s.p2 + s.work .dMk)) s := by
    unfold startFreeRun
    rw [target]
    dsimp only
    rw [if_neg stays, issueMove_eq]
    rfl
  have released : releaseHold s = (if (setOutfeed .stopped s).freeCond = true then startFreeRun (setOutfeed .stopped s) else setOutfeed .stopped s, false) := by
    unfold releaseHold; rw [held]
  rw [released]
  show (if (setOutfeed .stopped s).freeCond = true then startFreeRun (setOutfeed .stopped s) else setOutfeed .stopped s) = _
  rw [starts, show (setOutfeed .stopped s).freeCond = s.freeCond from rfl, if_congr (freeCond_iff s) rfl rfl]
  split <;> rfl

/-! ### What the station can do as the outfeed changes -/

theorem pumpStep_of_moves {s u : State} (h : pumpStep s = none) (station : u.station = s.station) (planner : u.planner = s.planner) (line : u.line = s.line)
    (still : s.station.cycle ≠ .preparing ∨ (u.moving = false → s.moving = false)) : pumpStep u = none := by
  obtain ⟨idle, preparing⟩ := (pumpStep_eq_none_iff s).mp h
  refine (pumpStep_eq_none_iff u).mpr ⟨fun c x => ?_, fun c e current prepared => ?_⟩
  · rw [station] at c
    refine idle c ⟨by rw [← planner]; exact x.1, ?_⟩
    have on := x.2
    unfold State.feeding at on ⊢
    rwa [line] at on
  · rw [station] at c
    have first : s.current = some e := by rw [← current]; unfold State.current; rw [planner]
    have ready : s.prepared e = true := by rw [← prepared]; unfold State.prepared State.bladesConfirmed; rw [station]
    obtain ⟨lane, waits⟩ := preparing c e first ready
    refine ⟨lane, ?_⟩
    rcases still with away | still
    · exact absurd c away
    · unfold State.mayTraverse State.continuing at waits ⊢
      rw [station, line]
      cases moving : u.moving with
      | true => simp
      | false => rw [still moving] at waits; exact waits

/-- On a line that does not feed, Loop and Sampler bear on nothing that an event brings to its end. -/
theorem Settled.reeled {s : State} (h : Settled s) (off : s.feeding = false) (x : Sampler) (l : LoopBlock) : Settled { s with sampler := x, loop := l } where
  running := h.running
  station := pumpStep_of_moves h.station rfl rfl rfl (.inr id)
  stop := h.stop
  close := closeDemand_of_not_feeding off
  infeed := (infeedRef_off h off).trans (infeedReference_of_not_feeding (u := { s with sampler := x, loop := l }) off).symm
  dwell := h.dwell
  idle := h.idle
  starve := h.starve
  attn := h.attn

theorem not_feeding_of_halted {s : State} (h : s.line.state = .faulted ∨ s.line.state = .eStopped) : s.feeding = false := by
  unfold State.feeding LineBlock.feeding; rcases h with x | x <;> rw [x]

theorem FaultRaised.loop {c : FaultCause} {s t : State} (h : FaultRaised c s t) : t.loop = s.loop := by
  unfold FaultRaised at h
  split at h
  · unfold FaultNoted at h; rw [h, queueEvent_eq]; rfl
  · exact h.kept.loop

theorem moving_of_outfeed {s : State} {m : Move} (h : s.drives.outfeed = .moving m) : s.moving = true := by unfold State.moving; rw [h]

theorem not_moving_of_held {s : State} {r : HeldReq} (h : s.drives.outfeed = .held r) : s.moving = false := by unfold State.moving; rw [h]

theorem setOutfeed_self {s : State} {o : Outfeed} (h : s.drives.outfeed = o) : setOutfeed o s = s := by subst h; rfl

/-- Settles O39. -/
theorem dancerZoneAndFault : Obligations.DancerZoneAndFault := by
  intro s r h channel
  have keeps (q : (s.loop.watching = false ∨ ¬ (r.toNat < 8 ∨ 1015 < r.toNat) ∨ s.loop.faulted = true) ∧ s.inputs.nipClosed = false) : ¬ DancerFaults r.toNat s := by
    rintro ⟨watching, bad, fresh⟩
    rcases q.1 with x | x | x
    · exact Bool.false_ne_true (x.symm.trans watching)
    · exact x bad
    · exact Bool.false_ne_true (fresh.symm.trans x)
  have stands (same : s.drives.outfeed = .stopped ∨ (measured r.toNat s).zone = s.loop.zone) :
      zoneChange s.loop.zone (reeled (s.sampler.latest .dancer r.toNat) r.toNat s) = setOutfeed s.drives.outfeed (reeled (s.sampler.latest .dancer r.toNat) r.toNat s) :=
    same.elim (fun x => zoneChange_stopped (s := reeled (s.sampler.latest .dancer r.toNat) r.toNat s) x _)
      (fun x => zoneChange_same (s := reeled (s.sampler.latest .dancer r.toNat) r.toNat s) x)
  refine ⟨fun same quiet => ?_, fun same watching bad fresh => ?_, fun m moving going waits web zone before quiet => ?_, fun m moving web speed quiet => ?_,
    fun q held web zone quiet => ?_, fun p e held away web changed fed quiet => ?_, fun held web changed fed waits ahead quiet => ?_,
    fun held web changed fed waits quiet => ?_⟩
  · exact dancerGives h channel (keeps quiet) quiet.2 (stands same) (pumpStep_of_moves h.station rfl rfl rfl (.inr id))
  · have acted := exec_conversionComplete r h.running
    rw [(convert_reeled channel (stands same)).2 ⟨watching, bad, fresh⟩] at acted
    have raised := faultRaised_of_halted (old := s) .dancer (u := setOutfeed s.drives.outfeed (reeled (sampled .dancer r.toNat s) r.toNat s)) rfl
      fun halted => h.reeled (not_feeding_of_halted halted) _ _
    exact ⟨_, acted, raised.loop, raised⟩
  · refine dancerGives h channel (keeps quiet) quiet.2 (zoneChange_holds (s := reeled (s.sampler.latest .dancer r.toNat) r.toNat s) web ?_ moving going zone)
      (pumpStep_of_moves h.station rfl rfl rfl (.inl waits))
    exact fun x => before (x.symm.trans zone)
  · have fed : ¬ ((measured r.toNat s).zone = .empty ∨ (measured r.toNat s).zone = .unknown) := by
      rcases speed with ⟨-, x⟩ | ⟨-, x⟩
      · exact not_holding_of_catchUp x
      · rw [show (measured r.toNat s).zone = .low from x]; exact not_or.mpr ⟨nofun, nofun⟩
    have apart : s.loop.zone.catchUp ≠ (measured r.toNat s).zone.catchUp := by
      rcases speed with ⟨x, y⟩ | ⟨x, y⟩
      · have new : (measured r.toNat s).zone.catchUp = true := (catchUp_iff _).mpr y
        rw [x, new]; exact nofun
      · have new : (measured r.toNat s).zone = .low := y
        rw [new, (catchUp_iff _).mpr x]; exact nofun
    refine dancerGives h channel (keeps quiet) quiet.2 (zoneChange_reissues (s := reeled (s.sampler.latest .dancer r.toNat) r.toNat s) web ?_ moving fed apart)
      (pumpStep_of_moves h.station rfl rfl rfl (.inr fun x => ?_))
    · exact fun same => apart (congrArg Zone.catchUp same.symm)
    · obtain ⟨m', issued⟩ := moving_reissued (s := reeled (s.sampler.latest .dancer r.toNat) r.toNat s) (zone := (measured r.toNat s).zone) (v := s.drives.setpoint) m
      exact absurd ((moving_of_outfeed issued).symm.trans x) nofun
  · have low : (measured r.toNat s).zone = .low := zone
    have change : zoneChange s.loop.zone (reeled (s.sampler.latest .dancer r.toNat) r.toNat s) = reeled (s.sampler.latest .dancer r.toNat) r.toNat s := by
      by_cases same : (measured r.toNat s).zone = s.loop.zone
      · exact zoneChange_same same
      · refine (zoneChange_held (s := reeled (s.sampler.latest .dancer r.toNat) r.toNat s) web same held ?_).trans (if_neg ?_)
        · show ¬ ((measured r.toNat s).zone = .empty ∨ (measured r.toNat s).zone = .unknown)
          rw [low]; exact not_or.mpr ⟨nofun, nofun⟩
        · show ¬ (measured r.toNat s).zone.catchUp = true
          rw [low]; exact nofun
    exact dancerGives h channel (keeps quiet) quiet.2 (change.trans (setOutfeed_self (s := reeled (s.sampler.latest .dancer r.toNat) r.toNat s) held).symm)
      (pumpStep_of_moves h.station rfl rfl rfl (.inr fun _ => not_moving_of_held held))
  · refine dancerGives h channel (keeps quiet) quiet.2 ((zoneChange_releases (s := reeled (s.sampler.latest .dancer r.toNat) r.toNat s) web ?_ held fed).trans
      (releaseHold_station (s := reeled (s.sampler.latest .dancer r.toNat) r.toNat s) held away))
      (pumpStep_of_moves h.station rfl rfl rfl (.inr fun _ => not_moving_of_held held))
    exact fun x => changed x.symm
  · refine dancerGives h channel (keeps quiet) quiet.2 ((zoneChange_releases (s := reeled (s.sampler.latest .dancer r.toNat) r.toNat s) web ?_ held fed).trans
      (releaseHold_free (s := reeled (s.sampler.latest .dancer r.toNat) r.toNat s) held web (not_holding_of_catchUp fed)))
      (pumpStep_of_moves h.station rfl rfl rfl (.inl waits))
    exact fun x => changed x.symm
  · refine dancerGives h channel (keeps quiet) quiet.2 ((zoneChange_releases (s := reeled (s.sampler.latest .dancer r.toNat) r.toNat s) web ?_ held fed).trans
      (releaseHold_nothing (s := reeled (s.sampler.latest .dancer r.toNat) r.toNat s) held)) (pumpStep_of_moves h.station rfl rfl rfl (.inl waits))
    exact fun x => changed x.symm

end Sys2Proof.Machine
end

section
/-!
TEMP results (R154 to R157) and LEVEL results (R63).
-/
namespace Sys2Proof.Machine

/-! ### A fault raised and the heat -/

/-- A fault raised looks at neither heat state nor settle timer. -/
theorem raiseFault_heat (c : FaultCause) (u : State) (h : Heat) (k : Option Timer) : raiseFault c { u with lam := { u.lam with heat := h, settle := k } } =
    { raiseFault c u with lam := { (raiseFault c u).lam with heat := h, settle := k } } := by
  have same (e : Event) : (queueEvent e { u with lam := { u.lam with heat := h, settle := k } }).link = (queueEvent e u).link := by unfold queueEvent; split <;> rfl
  unfold raiseFault
  by_cases noted : u.line.state = .faulted ∨ u.line.state = .eStopped
  · rw [if_pos noted, if_pos noted, queueEvent_eq, queueEvent_eq _ u, same]; rfl
  · rw [if_neg noted, if_neg noted, enterFaulted_eq, enterFaulted_eq, queueEvent_eq, queueEvent_eq _ u, same]; rfl

/-- A fault raised leaves the heat alone. -/
theorem raiseFault_lam (c : FaultCause) (u : State) : { (raiseFault c u).lam with
    nip := u.lam.nip, nipTimer := u.lam.nipTimer, commandClose := u.lam.commandClose, reclose := u.lam.reclose } = u.lam := by
  unfold raiseFault
  by_cases noted : u.line.state = .faulted ∨ u.line.state = .eStopped
  · rw [if_pos noted, queueEvent_eq]
  · rw [if_neg noted, enterFaulted_eq, queueEvent_eq]; rfl

theorem FaultRaised.lam {c : FaultCause} {s t : State} (h : FaultRaised c s t) : { t.lam with
    nip := s.lam.nip, nipTimer := s.lam.nipTimer, reclose := s.lam.reclose, commandClose := s.lam.commandClose, dwell := s.lam.dwell, idle := s.lam.idle } = s.lam := by
  unfold FaultRaised at h
  split at h
  · unfold FaultNoted at h; rw [h, queueEvent_eq]; rfl
  · exact h.kept.lam

theorem FaultRaised.sampler {c : FaultCause} {s t : State} (h : FaultRaised c s t) : t.sampler = s.sampler := by
  unfold FaultRaised at h
  split at h
  · unfold FaultNoted at h; rw [h, queueEvent_eq]; rfl
  · exact h.kept.sampler

/-- The sampler's next turn, by a state that a fault has been raised in. -/
theorem advanceRound_raised {s u : State} {c : Channel} {r : Nat} (f : FaultCause) (sampler : u.sampler = s.sampler.latest c r) (cal : u.cal = s.cal)
    (straps : u.straps = s.straps) (sensor1 : u.sensor1 = s.sensor1) (sensor2 : u.sensor2 = s.sensor2) :
    advanceRound (raiseFault f u) = raiseFault f { u with sampler := sampled c r s } := by
  obtain ⟨sampler', cal', straps', sensor1', sensor2', -⟩ := raiseFault_frame f u
  rw [advanceRound_eq (s := s) (c := c) (r := r) (sampler'.trans sampler) (cal'.trans cal) (straps'.trans straps)
    (by rw [sensor1', sensor1]) (by rw [sensor2', sensor2])]
  exact (raiseFault_sampler f (sampled c r s) u).symm

/-- On a line that does not feed, the heat within its mode bears on nothing that an event brings to its end. -/
theorem Settled.reheated {s : State} (h : Settled s) (off : s.feeding = false) (m : Sampler) (x : Laminator) (nip : x.nip = s.lam.nip)
    (hot : x.heat.hot = s.lam.heat.hot) (dwell : x.dwell = s.lam.dwell) (idle : x.idle = s.lam.idle)
    (runs : State.idleRuns { s with lam := x } = s.idleRuns) : Settled { s with sampler := m, lam := x } :=
  Settled.reeled (s := { s with lam := x }) (h.heat_change off s.now x nip hot dwell (by rw [idle, h.idle, runs])) off m s.loop

theorem idleRuns_of_halted {s : State} (h : s.line.state = .faulted ∨ s.line.state = .eStopped) : s.idleRuns = false := by
  unfold State.idleRuns; rcases h with x | x <;> simp [x]

/-! ### The temperature lost (R154, R157) -/

/-- The laminator with its sensor faulted (R154). -/
def sensorLostLam (x : Laminator) : Laminator := { x with temperature := none, sensorFaulted := true, heater := false }

/-- The laminator without a temperature to settle by (R157). -/
def unsettledLam (x : Laminator) : Laminator :=
  { x with heat := if x.heat = .ready then .warming else x.heat, settle := if x.heat = .warming then none else x.settle }

theorem unsettledLam_eq (x : Laminator) : unsettledLam x =
    if x.heat = .warming then { x with settle := none } else if x.heat = .ready then { x with heat := .warming } else x := by
  unfold unsettledLam
  by_cases warming : x.heat = .warming
  · rw [if_pos warming, if_pos warming, if_neg (by rw [warming]; exact nofun)]
  · rw [if_neg warming, if_neg warming]
    split <;> rfl

theorem setHeat_same {s : State} {h : Heat} (target : s.lam.target = some (s.lam.setpoint : Int)) (warm : h = .warming ∨ h = .ready) :
    setHeat h s.lam.setpoint s = { s with lam := { s.lam with heat := h } } := by
  have keeps : keepsArmed s.lam.target s.lam.setpoint = true := by unfold keepsArmed; rw [target]; simp
  have aims : s.targetFor h s.lam.setpoint = some (s.lam.setpoint : Int) := by rcases warm with rfl | rfl <;> rfl
  rw [setHeat_eq aims, keeps, Bool.and_true, ← target]

theorem loseTemperature_eq {s : State} (aims : s.lam.heat = .ready → s.lam.target = some (s.lam.setpoint : Int)) :
    loseTemperature s = { s with lam := unsettledLam s.lam } := by
  rw [unsettledLam_eq]
  unfold loseTemperature
  by_cases warming : s.lam.heat = .warming
  · rw [if_pos warming]
    split
    · rfl
    · rename_i ready; exact absurd (warming.symm.trans ready) (by decide)
    · exact absurd warming ‹_›
  · rw [if_neg warming]
    by_cases ready : s.lam.heat = .ready
    · rw [if_pos ready, ← setHeat_same (aims ready) (.inl rfl)]
      split <;> [exact absurd ‹_› warming; rfl; exact absurd ready ‹_›]
    · rw [if_neg ready]
      split <;> [exact absurd ‹_› warming; exact absurd ‹_› ready; rfl]

theorem hot_unsettledLam (x : Laminator) : (unsettledLam x).heat.hot = x.heat.hot := by
  unfold unsettledLam
  cases x.heat <;> rfl

/-- The unit with its temperature lost (R154, R157). -/
def temperatureLost (m : Sampler) (s : State) : State := { s with sampler := m, lam := unsettledLam (sensorLostLam s.lam) }

theorem raiseFault_unsettled (c : FaultCause) (u : State) :
    raiseFault c { u with lam := unsettledLam u.lam } = { raiseFault c u with lam := unsettledLam (raiseFault c u).lam } := by
  have kept := raiseFault_lam c u
  have heat : (raiseFault c u).lam.heat = u.lam.heat := (congrArg Laminator.heat kept :)
  have settle : (raiseFault c u).lam.settle = u.lam.settle := (congrArg Laminator.settle kept :)
  refine (raiseFault_heat c u (if u.lam.heat = .ready then .warming else u.lam.heat) (if u.lam.heat = .warming then none else u.lam.settle)).trans ?_
  unfold unsettledLam
  rw [heat, settle]

theorem convert_lost {s : State} {r : Nat} (channel : s.sampler.channel = .temp) (lost : r = 0 ∨ r = 1023)
    (aims : s.lam.heat = .ready → s.lam.target = some (s.lam.setpoint : Int)) :
    (s.lam.sensorFaulted = true → convert r s = temperatureLost (sampled .temp r s) s)
    ∧ (s.lam.sensorFaulted = false → convert r s = raiseFault .tempSensor (temperatureLost (sampled .temp r s) s)) := by
  have act : convert r s = advanceRound (loseTemperature (if s.lam.sensorFaulted = true then { s with sampler := s.sampler.latest .temp r, lam := sensorLostLam s.lam }
      else raiseFault .tempSensor { s with sampler := s.sampler.latest .temp r, lam := sensorLostLam s.lam })) := by
    unfold convert
    dsimp only
    rw [channel]
    exact congrArg advanceRound (if_pos lost)
  rw [act]
  refine ⟨fun was => ?_, fun first => ?_⟩
  · rw [if_pos was, loseTemperature_eq (s := { s with sampler := s.sampler.latest .temp r, lam := sensorLostLam s.lam }) aims]
    exact advanceRound_eq (s := s) (u := { s with sampler := s.sampler.latest .temp r, lam := unsettledLam (sensorLostLam s.lam) }) rfl rfl rfl rfl rfl
  · have kept := raiseFault_lam .tempSensor { s with sampler := s.sampler.latest .temp r, lam := sensorLostLam s.lam }
    have heat := congrArg Laminator.heat kept
    have target := congrArg Laminator.target kept
    have setpoint := congrArg Laminator.setpoint kept
    dsimp only at heat target setpoint
    rw [if_neg (by rw [first]; exact nofun), loseTemperature_eq ?_, ← raiseFault_unsettled]
    · exact advanceRound_raised (s := s) (u := temperatureLost (s.sampler.latest .temp r) s) .tempSensor rfl rfl rfl rfl rfl
    · intro ready
      rw [target, setpoint]
      exact aims (heat.symm.trans ready)

theorem settled_temperatureLost {s : State} (h : Settled s) (halted : s.line.state = .faulted ∨ s.line.state = .eStopped) (m : Sampler) :
    Settled (temperatureLost m s) :=
  h.reheated (not_feeding_of_halted halted) m _ rfl (hot_unsettledLam (sensorLostLam s.lam)) rfl rfl
    ((idleRuns_of_halted (s := { s with lam := unsettledLam (sensorLostLam s.lam) }) halted).trans (idleRuns_of_halted halted).symm)

theorem closeDemand_temperatureLost {s : State} (h : Settled s) (m : Sampler) : (temperatureLost m s).closeDemand = false := by
  have stands := h.close
  rw [closeDemand_eq] at stands ⊢
  have nip : nipCloses (temperatureLost m s) = nipCloses s := rfl
  rw [nip]
  rcases Bool.and_eq_false_iff.mp stands with cold | x
  · refine Bool.and_eq_false_iff.mpr (.inl ?_)
    simp only [decide_eq_false_iff_not] at cold ⊢
    have heat : (temperatureLost m s).lam.heat = s.lam.heat := if_neg fun x => cold (.inl x)
    rwa [heat]
  · rw [x, Bool.and_false]

/-! ### A temperature (R155 to R157) -/

theorem hot_iff (h : Heat) : h.hot = true ↔ h ≠ .off := by cases h <;> decide

/-- The laminator with a usable temperature taken, before the settle test (R154 to R156). -/
def heatedLam (n : Nat) (lock : Bool) (s : State) : Laminator :=
  { s.lam with temperature := some n, sensorFaulted := false, lockout := lock, armed := s.armedAfter n, heater := s.heaterAfter n lock }

/-- The settle test's band (R157). -/
@[reducible] def InBand (n : Nat) (s : State) : Prop := (s.lam.setpoint : Int) - s.work .tBand ≤ n

/-- What the settle test makes of heat state, settle timer and target (R157). -/
structure SettleTested (n : Nat) (s : State) (x : Laminator) : Prop where
  rest : { x with heat := s.lam.heat, settle := s.lam.settle, target := s.lam.target, armed := s.lam.armed } = s.lam
  armed : s.lam.heat = .off ∨ s.lam.heat = .standby ∨ s.lam.target = some (s.lam.setpoint : Int) → x.armed = s.lam.armed
  starts : s.lam.heat = .warming → InBand n s → s.lam.settle = none → 0 < s.workNat .settle → x.settle = some ⟨s.now, 1000 * s.workNat .settle⟩ ∧ x.heat = .warming
  settles : s.lam.heat = .warming → InBand n s → s.lam.settle = none → s.workNat .settle = 0 → x.heat = .ready
  drops : s.lam.heat = .warming → ¬ InBand n s → x.settle = none ∧ x.heat = .warming
  keeps : s.lam.heat = .ready → x.heat = if InBand n s then .ready else .warming
  cold : s.lam.heat = .off ∨ s.lam.heat = .standby → x.heat = s.lam.heat

theorem keepsArmed_same {s : State} (target : s.lam.target = some (s.lam.setpoint : Int)) : keepsArmed s.lam.target s.lam.setpoint = true := by
  unfold keepsArmed; rw [target]; simp

theorem settleTest_eq (n : Nat) (s : State) : settleTest n s =
    match s.lam.heat with
    | Heat.warming =>
      if InBand n s then
        if s.lam.settle.isSome then s
        else if s.workNat .settle = 0 then setHeat .ready s.lam.setpoint s
        else { s with lam := { s.lam with settle := some ⟨s.now, 1000 * s.workNat .settle⟩ } }
      else { s with lam := { s.lam with settle := none } }
    | Heat.ready => if InBand n s then s else setHeat .warming s.lam.setpoint s
    | _ => s := by
  unfold settleTest
  by_cases band : InBand n s
  · rw [decide_eq_true (show _ ≤ _ from band)]
    cases s.lam.heat <;> simp only [if_pos band]
    rfl
  · rw [decide_eq_false (show ¬ _ ≤ _ from band)]
    cases s.lam.heat <;> simp only [if_neg band]
    rfl

theorem settleTest_stands {n : Nat} {s : State} (stands : s.lam.heat = .off ∨ s.lam.heat = .standby ∨ (s.lam.heat = .ready ∧ InBand n s)
    ∨ (s.lam.heat = .warming ∧ InBand n s ∧ s.lam.settle.isSome = true)) : settleTest n s = s := by
  rw [settleTest_eq]
  rcases stands with heat | heat | ⟨heat, band⟩ | ⟨heat, band, runs⟩ <;> rw [heat]
  · exact if_pos band
  · exact (if_pos band).trans (if_pos runs)

theorem settleTest_tested (n : Nat) (s : State) : ∃ x, settleTest n s = { s with lam := x } ∧ SettleTested n s x := by
  rw [settleTest_eq]
  cases heat : s.lam.heat with
  | off => exact ⟨s.lam, rfl, rfl, fun _ => rfl, by simp [heat], by simp [heat], by simp [heat], by simp [heat], fun _ => rfl⟩
  | standby => exact ⟨s.lam, rfl, rfl, fun _ => rfl, by simp [heat], by simp [heat], by simp [heat], by simp [heat], fun _ => rfl⟩
  | ready =>
    by_cases band : InBand n s
    · exact ⟨s.lam, if_pos band, rfl, fun _ => rfl, by simp [heat], by simp [heat], by simp [heat], by simp [heat, band], fun _ => rfl⟩
    · refine ⟨_, (if_neg band).trans (setHeat_eq (s := s) (h := .warming) (v := s.lam.setpoint) (new := s.lam.setpoint) rfl), rfl, fun aims => ?_,
        by simp [heat], by simp [heat], by simp [heat], by simp [band], by simp [heat]⟩
      rcases aims with x | x | aims
      · exact absurd (heat.symm.trans x) nofun
      · exact absurd (heat.symm.trans x) nofun
      · show (s.lam.armed && _) = _
        rw [keepsArmed_same aims, Bool.and_true]
  | warming =>
    by_cases band : InBand n s
    · dsimp only
      rw [if_pos band]
      cases settle : s.lam.settle with
      | some k => exact ⟨s.lam, rfl, rfl, fun _ => rfl, by simp [settle], by simp [settle], by simp [band], by simp [heat], fun _ => rfl⟩
      | none =>
        rw [if_neg nofun]
        by_cases zero : s.workNat .settle = 0
        · refine ⟨_, (if_pos zero).trans (setHeat_eq (s := s) (h := .ready) (v := s.lam.setpoint) (new := s.lam.setpoint) rfl), rfl, fun aims => ?_,
            by simp [zero], by simp, by simp [band], by simp [heat], by simp [heat]⟩
          rcases aims with x | x | aims
          · exact absurd (heat.symm.trans x) nofun
          · exact absurd (heat.symm.trans x) nofun
          · show (s.lam.armed && _) = _
            rw [keepsArmed_same aims, Bool.and_true]
        · exact ⟨_, if_neg zero, rfl, fun _ => rfl, fun _ _ _ _ => ⟨rfl, heat⟩, by simp [zero], by simp [band], by simp [heat], fun _ => rfl⟩
    · exact ⟨_, if_neg band, rfl, fun _ => rfl, by simp [band], by simp [band], fun _ _ => ⟨rfl, heat⟩, by simp [heat], fun _ => rfl⟩

/-- The unit with a usable temperature taken, before the settle test. -/
def warmed (m : Sampler) (n : Nat) (lock : Bool) (s : State) : State := { s with sampler := m, lam := heatedLam n lock s }

/-- What the laminator has of a TEMP result depends on nothing a conversion of it changes before. -/
theorem convert_warmed {s : State} {r : Nat} (channel : s.sampler.channel = .temp) (sound : ¬ (r = 0 ∨ r = 1023)) : convert r s =
    advanceRound (settleTest (2 * r) (if s.lockoutAfter (2 * r) = true ∧ ¬ s.lam.lockout = true
      then raiseFault .overtemp (warmed (s.sampler.latest .temp r) (2 * r) (s.lockoutAfter (2 * r)) s)
      else warmed (s.sampler.latest .temp r) (2 * r) (s.lockoutAfter (2 * r)) s)) := by
  unfold convert
  dsimp only
  rw [channel]
  exact congrArg advanceRound (if_neg sound)

theorem convert_cool {s : State} {r : Nat} (channel : s.sampler.channel = .temp) (sound : ¬ (r = 0 ∨ r = 1023)) (cool : s.lockoutAfter (2 * r) = false) :
    ∃ x, convert r s = { s with sampler := sampled .temp r s, lam := x } ∧ SettleTested (2 * r) (warmed (sampled .temp r s) (2 * r) false s) x := by
  obtain ⟨x, tested, settling⟩ := settleTest_tested (2 * r) (warmed (s.sampler.latest .temp r) (2 * r) false s)
  refine ⟨x, ?_, settling.rest, settling.armed, settling.starts, settling.settles, settling.drops, settling.keeps, settling.cold⟩
  rw [convert_warmed channel sound, cool, if_neg (by simp), tested]
  exact advanceRound_eq (s := s) (u := { s with sampler := s.sampler.latest .temp r, lam := x }) rfl rfl rfl rfl rfl

theorem convert_hot {s : State} {r : Nat} (channel : s.sampler.channel = .temp) (sound : ¬ (r = 0 ∨ r = 1023)) (hot : s.lockoutAfter (2 * r) = true)
    (fresh : s.lam.lockout = false) (stands : s.lam.heat = .off ∨ s.lam.heat = .standby ∨ (s.lam.heat = .ready ∧ InBand (2 * r) s)
      ∨ (s.lam.heat = .warming ∧ InBand (2 * r) s ∧ s.lam.settle.isSome = true)) :
    convert r s = raiseFault .overtemp (warmed (sampled .temp r s) (2 * r) true s) := by
  have kept := raiseFault_lam .overtemp (warmed (s.sampler.latest .temp r) (2 * r) true s)
  have heat : (raiseFault .overtemp (warmed (s.sampler.latest .temp r) (2 * r) true s)).lam.heat = s.lam.heat := (congrArg Laminator.heat kept :)
  have settle : (raiseFault .overtemp (warmed (s.sampler.latest .temp r) (2 * r) true s)).lam.settle = s.lam.settle := (congrArg Laminator.settle kept :)
  have setpoint : (raiseFault .overtemp (warmed (s.sampler.latest .temp r) (2 * r) true s)).lam.setpoint = s.lam.setpoint := (congrArg Laminator.setpoint kept :)
  have cal : (raiseFault .overtemp (warmed (s.sampler.latest .temp r) (2 * r) true s)).cal = s.cal := (raiseFault_frame .overtemp _).2.1
  rw [convert_warmed channel sound, hot, if_pos (by simp [fresh]), settleTest_stands]
  · exact advanceRound_raised (s := s) (u := warmed (s.sampler.latest .temp r) (2 * r) true s) .overtemp rfl rfl rfl rfl rfl
  · unfold InBand State.work at stands ⊢
    rw [heat, settle, setpoint, cal]
    exact stands

theorem settled_warmed {s : State} (h : Settled s) (halted : s.line.state = .faulted ∨ s.line.state = .eStopped) (m : Sampler) (n : Nat) (lock : Bool) :
    Settled (warmed m n lock s) :=
  h.reheated (not_feeding_of_halted halted) m _ rfl rfl rfl rfl rfl

/-! ### The obligation -/

theorem overLimit_of_target {s : State} {g : Int} (target : s.lam.target = some g) : s.overLimit = g + s.work .tOver := by
  unfold State.overLimit; rw [target]; rfl

theorem lockoutAfter_of_cool {s : State} {n : Nat} (cool : n < 1500) (under : ∀ g, s.lam.target = some g → (n : Int) < g + s.work .tOver)
    (off : s.lam.heat = .off ↔ s.lam.target = none) : s.lockoutAfter n = false := by
  have below : s.lam.heat.hot = true → (n : Int) < s.overLimit := by
    intro hot
    obtain ⟨g, target⟩ := Option.ne_none_iff_exists'.mp (fun x => (hot_iff _).mp hot (off.mpr x))
    rw [overLimit_of_target target]
    exact under g target
  unfold State.lockoutAfter State.isOver State.clearsLockout
  cases hot : s.lam.heat.hot with
  | false => simp [cool]
  | true =>
    have limit := below hot
    simp [cool, limit]

theorem lockoutAfter_of_hot {s : State} {n : Nat} (hot : 1500 ≤ n ∨ (s.lam.armed = true ∧ s.lam.heat ≠ .off ∧ ∃ g, s.lam.target = some g ∧ g + s.work .tOver ≤ n)) :
    s.lockoutAfter n = true := by
  have isOver : s.isOver n = true := by
    unfold State.isOver
    rcases hot with absolute | ⟨armed, heat, g, target, limit⟩
    · simp [absolute]
    · rw [overLimit_of_target target, armed, (hot_iff _).mpr heat]; simp [limit]
  unfold State.lockoutAfter
  rw [isOver, Bool.true_or]

theorem armedAfter_eq {s : State} (n : Nat) (off : s.lam.heat = .off ↔ s.lam.target = none) :
    s.armedAfter n = (s.lam.armed || decide (∃ g ∈ s.lam.target, (n : Int) < g + s.work .tOver)) := by
  unfold State.armedAfter
  congr 1
  cases target : s.lam.target with
  | none =>
    have cold : s.lam.heat.hot = false := by rw [off.mpr target]; rfl
    simp [cold]
  | some g =>
    have hot : s.lam.heat.hot = true := (hot_iff _).mpr fun x => absurd (target.symm.trans (off.mp x)) nofun
    rw [hot, overLimit_of_target target]; simp

/-- The end of a sound TEMP result (R154 to R157), NIP_CLOSED inactive. -/
theorem finish_warmed {s : State} (h : Settled s) (inactive : s.inputs.nipClosed = false) (m : Sampler) (x : Laminator) :
    ∃ t, finish s { s with sampler := m, lam := x } = t ∧ t.sampler = m ∧ t.line = s.line ∧ WebKept s t
      ∧ { t.lam with nip := x.nip, nipTimer := x.nipTimer, commandClose := x.commandClose, reclose := x.reclose, idle := x.idle, dwell := x.dwell } = x := by
  have ended := finish_inactive (u := { s with sampler := m, lam := x }) h rfl rfl rfl (pumpStep_none_congr (s := s) rfl rfl rfl rfl h.station) inactive
  have frame := closeLam_frame { s with sampler := m, lam := x }
  generalize closeLam { s with sampler := m, lam := x } = y at ended frame
  exact ⟨_, ended, rfl, rfl, ⟨rfl, rfl, rfl, rfl, rfl, rfl, rfl, ⟨rfl, rfl⟩, rfl⟩,
    congrArg (fun z : Laminator => { z with idle := x.idle, dwell := x.dwell }) frame⟩

/-- A LEVEL result and the turn that follows leave the unit settled (R63). -/
theorem exec_level {s : State} (h : Settled s) {r : BitVec 10} {m : Sampler} {a b : SensorBlock} (result : convert r.toNat s = { s with sampler := m, sensor1 := a, sensor2 := b }) :
    exec (.conversionComplete r) s = .next { s with sampler := m, sensor1 := a, sensor2 := b } := by
  have settled : Settled { s with sampler := m, sensor1 := a, sensor2 := b } :=
    h.congr rfl rfl rfl rfl rfl rfl rfl rfl rfl rfl rfl (h.attn.congr rfl rfl rfl rfl rfl rfl)
  rw [exec_conversionComplete r h.running, result, finish_of_settled (old := s) settled rfl rfl]

theorem map_teach_none {b : SensorBlock} (h : b.teach = none) (f : Teach → Teach) : { b with teach := (none : Option Teach).map f } = b := by
  rw [Option.map_none, ← h]

theorem convert_level1 {s : State} {r : Nat} {k : Option Teach} (channel : s.sampler.channel = .level1) (teach : s.sensor1.teach = k) :
    convert r s = { s with sampler := sampled .level1 r s, sensor1 := { s.sensor1 with teach := k.map (Teach.see r) } } := by
  subst teach
  unfold convert
  dsimp only
  rw [channel]
  exact advanceRound_eq (s := s) (u := { s with sampler := s.sampler.latest .level1 r, sensor1 := { s.sensor1 with teach := s.sensor1.teach.map (Teach.see r) } })
    (c := .level1) (r := r) rfl rfl rfl (by simp) rfl

theorem convert_level2 {s : State} {r : Nat} {k : Option Teach} (channel : s.sampler.channel = .level2) (teach : s.sensor2.teach = k) :
    convert r s = { s with sampler := sampled .level2 r s, sensor2 := { s.sensor2 with teach := k.map (Teach.see r) } } := by
  subst teach
  unfold convert
  dsimp only
  rw [channel]
  exact advanceRound_eq (s := s) (u := { s with sampler := s.sampler.latest .level2 r, sensor2 := { s.sensor2 with teach := s.sensor2.teach.map (Teach.see r) } })
    (c := .level2) (r := r) rfl rfl rfl rfl (by simp)

theorem sound_of_ne {r : BitVec 10} (low : r ≠ 0) (high : r ≠ 1023) : ¬ (r.toNat = 0 ∨ r.toNat = 1023) :=
  not_or.mpr ⟨fun x => low (BitVec.eq_of_toNat_eq x), fun x => high (BitVec.eq_of_toNat_eq x)⟩

/-- Settles O40. -/
theorem tempAndLevelResults : Obligations.TempAndLevelResults := by
  intro s r h
  refine ⟨fun channel lost aims => ?_, fun channel low high cool under off inactive => ?_, fun channel low high hot fresh off stands => ?_,
    fun k channel teach => ?_, fun k channel teach => ?_, fun channel teach => ?_, fun channel teach => ?_⟩
  · have lost : r.toNat = 0 ∨ r.toNat = 1023 := by rcases lost with rfl | rfl <;> [exact .inl rfl; exact .inr rfl]
    obtain ⟨was, first⟩ := convert_lost channel lost aims
    have acted := exec_conversionComplete r h.running
    have same : temperatureLost (sampled .temp r.toNat s) s = { s with sampler := sampled .temp r.toNat s, lam :=
        if s.lam.heat = .warming then { sensorLostLam s.lam with settle := none }
        else if s.lam.heat = .ready then { sensorLostLam s.lam with heat := .warming } else sensorLostLam s.lam } := by
      unfold temperatureLost; rw [unsettledLam_eq]; rfl
    have heat := congrArg (fun u : State => u.lam.heat) same
    cases faulted : s.lam.sensorFaulted with
    | true =>
      rw [was faulted, Unmoved.finish_open {} h (closeDemand_temperatureLost h _)] at acted
      exact ⟨_, acted, rfl, rfl, rfl, heat, rfl, rfl, nofun, fun _ => ⟨rfl, ⟨rfl, rfl, rfl, rfl, rfl, rfl, rfl, ⟨rfl, rfl⟩, rfl⟩⟩⟩
    | false =>
      rw [first faulted] at acted
      have raised := faultRaised_of_halted (old := s) .tempSensor (u := temperatureLost (sampled .temp r.toNat s) s) rfl
        fun halted => settled_temperatureLost h halted _
      have lam := raised.lam
      generalize finish s (raiseFault .tempSensor (temperatureLost (sampled .temp r.toNat s) s)) = t at acted raised lam
      refine ⟨_, acted, (congrArg Laminator.temperature lam :), (congrArg Laminator.heater lam :), (congrArg Laminator.sensorFaulted lam :),
        (congrArg Laminator.heat lam :).trans heat, (congrArg Laminator.armed lam :), raised.sampler, fun _ => ?_, nofun⟩
      rw [same] at raised
      exact raised
  · have sound := sound_of_ne low high
    have quiet : s.lockoutAfter (2 * r.toNat) = false := lockoutAfter_of_cool (by omega) (fun g target => by have := under g target; push_cast; exact this) off
    obtain ⟨x, result, tested⟩ := convert_cool channel sound quiet
    obtain ⟨t, ended, sampler, line, web, frame⟩ := finish_warmed h inactive (sampled .temp r.toNat s) x
    have acted := exec_conversionComplete r h.running
    rw [result, ended] at acted
    have lam {α : Type} (f : Laminator → α) : f { t.lam with nip := x.nip, nipTimer := x.nipTimer, commandClose := x.commandClose, reclose := x.reclose, idle := x.idle, dwell := x.dwell } = f x := congrArg f frame
    have rest := tested.rest
    have armed (y : s.lam.heat = .off ∨ s.lam.heat = .standby ∨ s.lam.target = some (s.lam.setpoint : Int)) : t.lam.armed = s.armedAfter (2 * r.toNat) :=
      (lam (·.armed)).trans (tested.armed y)
    have inBand : ((s.lam.setpoint : Int) - s.work .tBand ≤ 2 * r.toNat) ↔ InBand (2 * r.toNat) s := by unfold InBand; push_cast; rfl
    have covered (g : Int) (target : s.lam.target = some g) : s.armedAfter (2 * r.toNat) = true := by
      have := under g target
      rw [armedAfter_eq _ off, target]; simp [this]
    refine ⟨t, acted, (lam (·.temperature)).trans (congrArg Laminator.temperature rest :), (lam (·.sensorFaulted)).trans (congrArg Laminator.sensorFaulted rest :),
      (lam (·.lockout)).trans (congrArg Laminator.lockout rest :), fun _ target => ?_, fun standby => ?_, fun cold => ?_, ?_, fun warming band none some => ?_,
      fun warming band none zero => ?_, fun warming out => ?_, fun ready => ?_, fun cold => ?_, sampler, line, web⟩
    · exact (armed (.inr (.inr target))).trans (covered _ target)
    · obtain ⟨g, target⟩ := Option.ne_none_iff_exists'.mp fun x => absurd (standby.symm.trans (off.mpr x)) nofun
      exact (armed (.inr (.inl standby))).trans (covered g target)
    · rw [armed (.inl cold), armedAfter_eq _ off, off.mp cold]; simp
    · refine (lam (·.heater)).trans ((congrArg Laminator.heater rest :).trans ?_)
      show s.heaterAfter (2 * r.toNat) false = _
      unfold State.heaterAfter
      rw [if_neg nofun]
      push_cast
      rfl
    · obtain ⟨settle, heat⟩ := tested.starts warming (inBand.mp band) none some
      exact ⟨(lam (·.settle)).trans settle, (lam (·.heat)).trans heat⟩
    · exact (lam (·.heat)).trans (tested.settles warming (inBand.mp band) none zero)
    · obtain ⟨settle, heat⟩ := tested.drops warming fun y => out (inBand.mpr y)
      exact ⟨(lam (·.settle)).trans settle, (lam (·.heat)).trans heat⟩
    · refine (lam (·.heat)).trans ((tested.keeps ready).trans ?_)
      exact if_congr inBand.symm rfl rfl
    · exact (lam (·.heat)).trans (tested.cold cold)
  · have sound := sound_of_ne low high
    have limit : s.lockoutAfter (2 * r.toNat) = true := lockoutAfter_of_hot (by push_cast; rcases hot with x | x <;> [exact .inl (by omega); exact .inr x])
    have result := convert_hot channel sound limit fresh (by unfold InBand; push_cast; exact stands)
    have acted := exec_conversionComplete r h.running
    rw [result] at acted
    have raised := faultRaised_of_halted (old := s) .overtemp (u := warmed (sampled .temp r.toNat s) (2 * r.toNat) true s) rfl
      fun halted => settled_warmed h halted _ _ _
    have lam := raised.lam
    generalize finish s (raiseFault .overtemp (warmed (sampled .temp r.toNat s) (2 * r.toNat) true s)) = t at acted raised lam
    refine ⟨_, acted, (congrArg Laminator.temperature lam :), (congrArg Laminator.sensorFaulted lam :), (congrArg Laminator.lockout lam :),
      (congrArg Laminator.heater lam :), raised.sampler, ?_⟩
    have same := armedAfter_eq (2 * r.toNat) off
    push_cast at same
    unfold warmed heatedLam at raised
    rw [same] at raised
    exact raised
  · exact exec_level h (convert_level1 channel teach)
  · exact exec_level h (convert_level2 channel teach)
  · exact exec_level h ((convert_level1 channel teach).trans
      (congrArg (fun b => { s with sampler := sampled .level1 r.toNat s, sensor1 := b }) (map_teach_none teach _)))
  · exact exec_level h ((convert_level2 channel teach).trans
      (congrArg (fun b => { s with sampler := sampled .level2 r.toNat s, sensor2 := b }) (map_teach_none teach _)))

end Sys2Proof.Machine
end

section
/-!
The M2 cursor's prediction (R69, R70), a head handed to the planner while the commits wait (R88, R89, R100), and the outfeed target (R96, R107, R115).
-/
namespace Sys2Proof.Machine

/-! ### Predictions at M2 (R69, R70) -/

theorem setExpect2_window {s : State} {r : PanelRef} {m : Mark} {a : Int} (next : s.next2 = some (r, m, some a)) : setExpect2 s = { s with
    cursor2 := { s.cursor2 with state := .window, expect := some ⟨r, m, some (s.window2 a)⟩, deciding := false }
    watches := { s.watches with m2Window := some (watchPasses s.p2 (s.window2 a).upper) }
    sensor2 := { s.sensor2 with bar := s.sensor2.bar.markStale } } := by
  unfold setExpect2; rw [next]

theorem predict_of_anchor {s : State} {ak bk : Int} (anchor : s.reg.anchor = some (ak, bk)) (a : Int) :
    s.predict a = bk + (a - ak) + roundDiv ((a - ak) * s.reg.s) 1000000 := by
  unfold State.predict; rw [anchor]

theorem predict_of_k {s : State} {k : Int} (anchor : s.reg.anchor = none) (loop : s.loop.k = some k) (a : Int) : s.predict a = a + k := by
  unfold State.predict; rw [anchor, loop]

/-! ### A commit that must wait (R99, R100) -/

theorem rank_lt_three (x : PanelState) : decide (x.rank < 3) = decide (x = .queued ∨ x = .infeed ∨ x = .atOutfeed) := by cases x <;> rfl

theorem lanesToBe_eq (s : State) : s.lanesToBe = (s.planner.queue.filterMap (·.lane)).getLast?.elim s.station.laneSet (·.lanes) := by
  unfold State.lanesToBe
  cases (s.planner.queue.filterMap (·.lane)).getLast? <;> rfl

/-- The panel that the planner would commit next, by the order of the list (R100). -/
theorem nextCommit_eq (s : State) : s.nextCommit =
    (s.panels.find? (fun q => decide (q.state.rank < 3))).bind (fun p => if p.state = .atOutfeed ∧ s.hasRoom p = true then some p else none) := by
  have same : (fun q : Panel => decide (q.state.rank < 3)) = fun p => decide (p.state = .queued ∨ p.state = .infeed ∨ p.state = .atOutfeed) :=
    funext fun q => rank_lt_three q.state
  unfold State.nextCommit
  rw [same]
  cases s.panels.find? _ <;> rfl

theorem commitLoop_of_none {s : State} (none : s.nextCommit = none) (n : Nat) : commitLoop n s = s := by
  cases n with
  | zero => rfl
  | succ n => unfold commitLoop; rw [none]

/-- The planner waits while the first panel to be committed has no room (R99, R100). -/
theorem tryCommits_of_full {s : State} (wait : ∀ q, s.panels.find? (fun q => decide (q.state.rank < 3)) = some q → q.state = .atOutfeed →
    32 < q.cuts.length + (if q.lanes = s.lanesToBe then 0 else 1) + s.planner.queue.length) : tryCommits s = s := by
  refine commitLoop_of_none ?_ _
  rw [nextCommit_eq]
  cases first : s.panels.find? (fun q => decide (q.state.rank < 3)) with
  | none => rfl
  | some q =>
    refine if_neg fun ⟨state, room⟩ => ?_
    have long := wait q first state
    have fits : s.needs q + s.planner.queue.length ≤ 32 := of_decide_eq_true room
    unfold State.needs at fits
    omega

/-- A panel's change that keeps its state keeps its place in the list. -/
theorem find?_updPanel {f : Panel → Panel} (state : ∀ q, (f q).state = q.state) (r : PanelRef) (s : State) (test : PanelState → Bool) :
    (updPanel r f s).panels.find? (fun q => test q.state) =
      (s.panels.find? (fun q => test q.state)).map (fun q => if q.serial = r.serial then f q else q) := by
  rw [updPanel_panels, List.find?_map]
  refine congrArg (fun g => (s.panels.find? g).map _) (funext fun q => ?_)
  dsimp only [Function.comp]
  split
  · rw [state]
  · rfl

/-- A change of a panel that bears on no commit keeps the planner waiting (R99, R100). -/
theorem tryCommits_updPanel {f : Panel → Panel} (state : ∀ q, (f q).state = q.state) (cuts : ∀ q, (f q).cuts = q.cuts) (lanes : ∀ q, (f q).lanes = q.lanes) (r : PanelRef)
    {s : State} (wait : ∀ q, s.panels.find? (fun q => decide (q.state.rank < 3)) = some q → q.state = .atOutfeed →
      32 < q.cuts.length + (if q.lanes = s.lanesToBe then 0 else 1) + s.planner.queue.length) : tryCommits (updPanel r f s) = updPanel r f s := by
  refine tryCommits_of_full fun q first out => ?_
  rw [find?_updPanel state r s (fun x => decide (x.rank < 3))] at first
  obtain ⟨o, found, rfl⟩ := Option.map_eq_some_iff.mp first
  have same : (if o.serial = r.serial then f o else o).state = o.state ∧ (if o.serial = r.serial then f o else o).cuts = o.cuts
      ∧ (if o.serial = r.serial then f o else o).lanes = o.lanes := by
    split
    · exact ⟨state o, cuts o, lanes o⟩
    · exact ⟨rfl, rfl, rfl⟩
  rw [same.1] at out
  rw [same.2.1, same.2.2]
  exact wait o found out

/-- A head handed to the planner while no commit has room (R88, R89). -/
theorem planHead_of_full {s : State} {p : Panel} {b : Coord} (only : ∀ q ∈ s.panels, q.serial = p.serial → q = p) (head : p.bHead = some b)
    (wait : ∀ q, s.panels.find? (fun q => decide (q.state.rank < 3)) = some q → q.state = .atOutfeed →
      32 < q.cuts.length + (if q.lanes = s.lanesToBe then 0 else 1) + s.planner.queue.length) : planHead p.ref s =
      setPanel p.ref { p with
        l2 := some (headLength s.reg.s p)
        triggers := some (p.cuts.map (triggerOf b.pos (headLength s.reg.s p).len p.lNom (s.work .dMk))) } s := by
  have lengths : updPanel p.ref (fun q => { q with l2 := some (headLength s.reg.s q) }) s = setPanel p.ref { p with l2 := some (headLength s.reg.s p) } s :=
    updPanel_of_only only _
  have written : State.triggersOf (setPanel p.ref { p with l2 := some (headLength s.reg.s p) } s) { p with l2 := some (headLength s.reg.s p) }
      = some (p.cuts.map (triggerOf b.pos (headLength s.reg.s p).len p.lNom (s.work .dMk))) := by
    unfold State.triggersOf; dsimp only; rw [head]; rfl
  unfold planHead
  dsimp only
  refine (tryCommits_updPanel ?_ ?_ ?_ _ ?_).trans ?_
  · exact fun _ => rfl
  · exact fun _ => rfl
  · exact fun _ => rfl
  · intro q first out
    obtain ⟨o, found, rfl⟩ := Option.map_eq_some_iff.mp ((find?_updPanel (f := fun q => { q with l2 := some (headLength s.reg.s q) })
      (fun _ => rfl) p.ref s (fun x => decide (x.rank < 3))).symm.trans first)
    by_cases named : o.serial = p.ref.serial
    · rw [if_pos named] at out ⊢; exact wait o found out
    · rw [if_neg named] at out ⊢; exact wait o found out
  · rw [lengths, updPanel_setPanel rfl, written]

/-! ### The outfeed target (R96, R107, R115) -/

/-- With the station approaching, the first entry is the ACTIVE one (R96). -/
def marked (e : Entry) (es : List Entry) : List Entry := { e with state := .active } :: es.map (fun d => if d.state = .active then { d with state := .pending } else d)

theorem remark_approach {s : State} {e : Entry} {es : List Entry} (cycle : s.station.cycle = .approach) (queue : s.planner.queue = e :: es) :
    remark s = { s with planner := { s.planner with queue := marked e es } } := by
  unfold remark
  rw [if_pos cycle, queue]
  rfl

theorem targetUpdate_same {s : State} {e : Entry} {es : List Entry} (cycle : s.station.cycle = .approach) (queue : s.planner.queue = e :: es)
    (target : s.planner.target = some e.trigger) : targetUpdate s = { s with planner := { s.planner with queue := marked e es } } := by
  unfold targetUpdate
  rw [remark_approach cycle queue]
  exact if_pos target.symm

theorem targetUpdate_new {s : State} {e : Entry} {es : List Entry} {o : Int} (cycle : s.station.cycle = .approach) (queue : s.planner.queue = e :: es)
    (target : s.planner.target = some o) (other : o ≠ e.trigger) :
    targetUpdate s = approachTarget (some o) (some e.trigger) { s with planner := { s.planner with queue := marked e es, target := some e.trigger } } := by
  unfold targetUpdate
  rw [remark_approach cycle queue]
  refine (if_neg ?_).trans ((if_pos (by exact cycle)).trans ?_)
  · show some e.trigger ≠ s.planner.target
    rw [target]; exact fun x => other (Option.some.inj x).symm
  · show approachTarget s.planner.target _ _ = _
    rw [target]; rfl

theorem targetUpdate_emptied {s : State} {o : Int} (cycle : s.station.cycle = .approach) (queue : s.planner.queue = []) (target : s.planner.target = some o) :
    targetUpdate s = takeOverMove (clearRecords (setCycle .idle { s with planner := { s.planner with target := none } })) := by
  have still : remark s = s := by unfold remark; rw [if_pos cycle, queue]
  unfold targetUpdate
  rw [still]
  dsimp only
  rw [queue, target]
  exact (if_neg nofun).trans (if_pos cycle)

/-- A new target that the approach runs on to (R115). -/
theorem approachTarget_runs {s : State} {m : Move} {o t : Int} (moving : s.drives.outfeed = .moving m)
    (feeds : s.drives.webSeq = .draining ∨ (s.loop.zone ≠ .empty ∧ s.loop.zone ≠ .unknown)) (ahead : s.p2 < t) (reach : o < t ∨ s.work .stopMin ≤ t - s.p2) :
    approachTarget (some o) (some t) s = setOutfeed (movedTo s s.loop.zone s.drives.setpoint .approach .station t) s := by
  have goes : ¬ (s.zoneHolds = true ∨ s.outfeedHeld = true) := by
    unfold State.zoneHolds State.outfeedHeld State.draining
    rw [moving]
    rcases feeds with web | zone
    · simp [web]
    · simp [zone]
  unfold approachTarget askStation
  dsimp only
  rw [if_neg ?_, if_neg goes, if_neg ?_, issueMove_eq]
  · exact fun x => absurd x.2 (not_le.mpr ahead)
  · simp only [Option.any_some, decide_eq_true_eq]
    omega

/-- A new target too near to stop at: STOP-NOW (R115). -/
theorem approachTarget_stops {s : State} {m : Move} {o t : Int} (moving : s.drives.outfeed = .moving m) (back : t < o) (near : t - s.p2 < s.work .stopMin) :
    approachTarget (some o) (some t) s = setOutfeed (.moving { stopNow m m.owner true with purpose := .approach, deadline := some (s.now + s.workNat .moveTimeout) }) s := by
  unfold approachTarget
  dsimp only
  rw [if_pos ⟨by simpa using back, near⟩]
  unfold thenArrive stationStop
  rw [moving]
  rfl

end Sys2Proof.Machine
end

section
/-!
Placing entries (R97, R98): where an entry comes to stand with nothing in its way, the conflicting entry that counts, the merge, the push, and how each is judged.
-/
namespace Sys2Proof.Machine

/-! ### Where an entry is put -/

/-- A queue with an entry put at a position (R97). -/
def putAt (e : Entry) (y : Int) (q : List Entry) : List Entry :=
  q.filter (fun d => decide (d.trigger < y)) ++ { e with state := .pending, trigger := y } :: q.filter (fun d => decide (y < d.trigger))

theorem insertEntry_eq {e : Entry} {q : List Entry} (strict : q.Pairwise (fun d e => d.trigger < e.trigger)) (away : ∀ d ∈ q, d.trigger ≠ e.trigger) :
    insertEntry e q = q.filter (fun d => decide (d.trigger < e.trigger)) ++ e :: q.filter (fun d => decide (e.trigger < d.trigger)) := by
  induction q with
  | nil => rfl
  | cons d q ih =>
    obtain ⟨first, rest⟩ := List.pairwise_cons.mp strict
    unfold insertEntry
    by_cases before : e.trigger < d.trigger
    · have behind : ∀ c ∈ d :: q, e.trigger < c.trigger := by
        intro c hc
        rcases List.mem_cons.mp hc with rfl | hc
        · exact before
        · exact before.trans (first c hc)
      rw [if_pos before, List.filter_eq_nil_iff.mpr fun c hc => by have := behind c hc; simp; omega,
        List.filter_eq_self.mpr fun c hc => decide_eq_true (behind c hc)]
      rfl
    · have ahead : d.trigger < e.trigger := lt_of_le_of_ne (not_lt.mp before) (away d (List.mem_cons_self ..))
      rw [if_neg before, List.filter_cons_of_pos (by simpa using ahead), List.filter_cons_of_neg (by simpa using before),
        ih rest fun c hc => away c (List.mem_cons_of_mem _ hc)]
      rfl

/-! ### Conflicts (R97) -/

/-- The entry `d` is a free cut of the panel of `e` (R94, R106). -/
def OwnOf (e d : Entry) : Prop := (d.state = .pending ∨ d.state = .active) ∧ d.partner = none
  ∧ ∃ n ∈ (e.cut.map (·.panel.serial)).or (e.lane.map (·.owner.serial)), ∃ k ∈ d.cut, k.panel.serial = n

/-- The entry `d` meets the placement of `e` at `y`, moved from `o` or new (R97). -/
def Meets (sep : Int) (e : Entry) (o : Option Int) (y : Int) (d : Entry) : Prop := (d.trigger - y).natAbs < sep
  ∨ ((d.state = .settling ∨ d.state = .executing) ∧ y ≤ d.trigger)
  ∨ (¬ OwnOf e d ∧ ∃ z ∈ o, (z < d.trigger ∧ d.trigger < y) ∨ (y < d.trigger ∧ d.trigger < z))

theorem movedTogether_iff (e d : Entry) : movedTogether e d = true ↔ OwnOf e d := by
  unfold movedTogether OwnOf Entry.panel? movesWith Entry.refreshable
  cases e.cut <;> cases e.lane <;> cases d.cut <;> simp [and_assoc]
  all_goals exact fun _ _ => eq_comm

theorem conflicts_iff (sep : Int) (old : Option Int) (x : Int) (e d : Entry) : conflicts sep old x e d = true ↔ Meets sep e old x d := by
  unfold conflicts Meets
  rw [Bool.or_eq_true, Bool.or_eq_true, Bool.and_eq_true, Bool.and_eq_true, Bool.not_eq_true', ← Bool.not_eq_true, movedTogether_iff]
  unfold Entry.fixed
  cases old <;> simp [or_assoc]

/-- The entry `c` counts before `d`, of those that meet a placement (R94, R97). -/
def CountsBefore (old : Option Int) (x : Int) (c d : Entry) : Prop :=
  (old = none → (c.trigger - x).natAbs < (d.trigger - x).natAbs ∨ ((c.trigger - x).natAbs = (d.trigger - x).natAbs ∧ c.trigger ≤ d.trigger))
  ∧ ∀ o ∈ old, if o ≤ x then o ≤ c.trigger ∧ c.trigger ≤ d.trigger else c.trigger ≤ o ∧ d.trigger ≤ c.trigger

theorem nearest_spec {x : Int} {q : List Entry} {f : Entry} (strict : q.Pairwise (fun d e => d.trigger < e.trigger)) (near : nearest x q = some f) :
    f ∈ q ∧ ∀ d ∈ q, (f.trigger - x).natAbs < (d.trigger - x).natAbs ∨ ((f.trigger - x).natAbs = (d.trigger - x).natAbs ∧ f.trigger ≤ d.trigger) := by
  induction q generalizing f with
  | nil => exact absurd near nofun
  | cons e es ih =>
    obtain ⟨first, rest⟩ := List.pairwise_cons.mp strict
    unfold nearest at near
    cases later : nearest x es with
    | none =>
      rw [later] at near
      obtain rfl := Option.some.inj near
      rw [nearest_eq_none later]
      exact ⟨List.mem_cons_self .., fun d hd => by rw [List.mem_singleton.mp hd]; exact .inr ⟨rfl, le_rfl⟩⟩
    | some g =>
      obtain ⟨mem, least⟩ := ih rest later
      rw [later] at near
      dsimp only at near
      have ahead := first g mem
      by_cases nearer : (g.trigger - x).natAbs < (e.trigger - x).natAbs
      · rw [if_pos nearer] at near
        obtain rfl := Option.some.inj near
        refine ⟨List.mem_cons_of_mem _ mem, fun d hd => ?_⟩
        rcases List.mem_cons.mp hd with rfl | hd
        · exact .inl nearer
        · exact least d hd
      · rw [if_neg nearer] at near
        obtain rfl := Option.some.inj near
        refine ⟨List.mem_cons_self .., fun d hd => ?_⟩
        rcases List.mem_cons.mp hd with rfl | hd
        · exact .inr ⟨rfl, le_rfl⟩
        · have := least d hd
          have := first d hd
          omega

theorem eq_of_trigger {q : List Entry} (strict : q.Pairwise (fun d e => d.trigger < e.trigger)) {c d : Entry} (hc : c ∈ q) (hd : d ∈ q) (same : c.trigger = d.trigger) :
    c = d := by
  have apart : (q.map (·.trigger)).Nodup := List.pairwise_map.mpr (strict.imp fun x => ne_of_lt x)
  exact List.inj_on_of_nodup_map apart hc hd same

theorem head?_of_least {q : List Entry} (strict : q.Pairwise (fun d e => d.trigger < e.trigger)) {c : Entry} (mem : c ∈ q) (least : ∀ d ∈ q, c.trigger ≤ d.trigger) :
    q.head? = some c := by
  cases q with
  | nil => exact absurd mem (List.not_mem_nil)
  | cons d q =>
    rcases List.mem_cons.mp mem with rfl | later
    · rfl
    · exact absurd (List.rel_of_pairwise_cons strict later) (not_lt.mpr (least d (List.mem_cons_self ..)))

theorem getLast?_of_greatest {q : List Entry} (strict : q.Pairwise (fun d e => d.trigger < e.trigger)) {c : Entry} (mem : c ∈ q) (greatest : ∀ d ∈ q, d.trigger ≤ c.trigger) :
    q.getLast? = some c := by
  obtain ⟨d, last⟩ : ∃ d, q.getLast? = some d := by
    cases h : q.getLast? with
    | none => rw [List.getLast?_eq_none_iff.mp h] at mem; exact absurd mem (List.not_mem_nil)
    | some d => exact ⟨d, rfl⟩
  obtain ⟨front, rfl⟩ := List.getLast?_eq_some_iff.mp last
  rcases List.mem_append.mp mem with before | here
  · have := (List.pairwise_append.mp strict).2.2 c before d (List.mem_singleton_self d)
    have := greatest d (List.mem_append_right _ (List.mem_singleton_self d))
    omega
  · rw [last, List.mem_singleton.mp here]

theorem conflictOf_of_clear {sep : Int} {old : Option Int} {x : Int} {e : Entry} {q : List Entry} (clear : ∀ d ∈ q, ¬ Meets sep e old x d) :
    conflictOf sep old x e q = none := by
  have none : q.filter (conflicts sep old x e) = [] := List.filter_eq_nil_iff.mpr fun d hd => by rw [conflicts_iff]; exact clear d hd
  unfold conflictOf
  rw [none]
  cases old with
  | none => rfl
  | some o => unfold firstMet; dsimp only; split <;> rfl

theorem conflictOf_of_counts {sep : Int} {old : Option Int} {x : Int} {e c : Entry} {q : List Entry} (strict : q.Pairwise (fun d e => d.trigger < e.trigger))
    (mem : c ∈ q) (meets : Meets sep e old x c) (counts : ∀ d ∈ q, Meets sep e old x d → CountsBefore old x c d) : conflictOf sep old x e q = some c := by
  have strict' : (q.filter (conflicts sep old x e)).Pairwise (fun d e => d.trigger < e.trigger) := strict.filter _
  have mem' : c ∈ q.filter (conflicts sep old x e) := List.mem_filter.mpr ⟨mem, (conflicts_iff ..).mpr meets⟩
  have counts' : ∀ d ∈ q.filter (conflicts sep old x e), CountsBefore old x c d := fun d hd =>
    counts d (List.mem_filter.mp hd).1 ((conflicts_iff ..).mp (List.mem_filter.mp hd).2)
  unfold conflictOf
  generalize q.filter (conflicts sep old x e) = cs at strict' mem' counts'
  cases old with
  | none =>
    dsimp only
    cases near : nearest x cs with
    | none => rw [nearest_eq_none near] at mem'; exact absurd mem' (List.not_mem_nil)
    | some f =>
      obtain ⟨hf, least⟩ := nearest_spec strict' near
      have one := least c mem'
      have two := (counts' f hf).1 rfl
      rw [eq_of_trigger strict' hf mem' (by omega)]
  | some o =>
    unfold firstMet
    dsimp only
    by_cases onward : o ≤ x
    · have at' (d : Entry) (hd : d ∈ cs) : o ≤ c.trigger ∧ c.trigger ≤ d.trigger := by have := (counts' d hd).2 o rfl; rwa [if_pos onward] at this
      rw [if_pos onward, head?_of_least (strict'.filter _) (List.mem_filter.mpr ⟨mem', by simpa using (at' c mem').1⟩)
        fun d hd => (at' d (List.mem_filter.mp hd).1).2, Option.some_or]
    · have at' (d : Entry) (hd : d ∈ cs) : c.trigger ≤ o ∧ d.trigger ≤ c.trigger := by have := (counts' d hd).2 o rfl; rwa [if_neg onward] at this
      rw [if_neg onward, getLast?_of_greatest (strict'.filter _) (List.mem_filter.mpr ⟨mem', by simpa using (at' c mem').1⟩)
        fun d hd => (at' d (List.mem_filter.mp hd).1).2, Option.some_or]

/-! ### The judgement of a displacement (R93, R98) -/

theorem judgeCut_eq (r : PanelRef) (wanted given : Int) (s : State) :
    judgeCut r wanted given s = { s with panels := judgedCut s [r.serial] (given - wanted) s.panels } := by
  unfold judgeCut State.cutFlag judgedCut
  by_cases far : s.work .rejectTol < (given - wanted).natAbs
  · rw [if_pos far, decide_eq_true far, decide_eq_false fun x => absurd x.2 (not_le.mpr far), flagged_off]
    exact raiseFlag_flagged ..
  · rw [if_neg far, decide_eq_false far, flagged_off]
    by_cases missed : s.work .cutTol < (given - wanted).natAbs
    · rw [if_pos missed, decide_eq_true ⟨missed, not_lt.mp far⟩]
      exact raiseFlag_flagged ..
    · rw [if_neg missed, decide_eq_false fun x => missed x.1, flagged_off]

theorem judgedCut_comm (s : State) (ns : List Nat) (d : Int) (ps : List Panel) : judgedCut s ns (-d) ps = judgedCut s ns d ps := by
  unfold judgedCut; rw [Int.natAbs_neg]

theorem judgeNewcomer_cut {n : Entry} {c : CutRef} (cut : n.cut = some c) (lane : n.lane = none) (wanted given : Int) (s : State) :
    judgeNewcomer n wanted given s = { s with panels := judgedCut s [c.panel.serial] (given - wanted) s.panels } := by
  unfold judgeNewcomer; rw [cut, lane]; exact judgeCut_eq ..

/-- The panels after a lane change has been judged for lateness (R98). -/
def laneJudged (s : State) (r : PanelRef) (t given : Int) : List Panel :=
  flagged .laneLate (decide (s.work .rejectTol < given - (t - s.work .dSk))) [r.serial] s.panels

theorem judgeNewcomer_lane {n : Entry} {l : LaneChange} (cut : n.cut = none) (lane : n.lane = some l) {s : State} {t : Int} (first : s.firstTrigger l.owner = some t)
    (wanted given : Int) : judgeNewcomer n wanted given s = { s with panels := laneJudged s l.owner t given } := by
  unfold judgeNewcomer judgeLane laneJudged
  rw [cut, lane]
  dsimp only
  rw [first]
  dsimp only
  by_cases late : s.work .rejectTol < given - (t - s.work .dSk)
  · rw [if_pos late, decide_eq_true late]; exact raiseFlag_flagged ..
  · rw [if_neg late, decide_eq_false late, flagged_off]

theorem judgeNewcomer_lane_queue {n : Entry} {l : LaneChange} (cut : n.cut = none) (lane : n.lane = some l) {s : State} {t : Int}
    (first : s.firstTrigger l.owner = some t) (wanted given : Int) (q : List Entry) : judgeNewcomer n wanted given (setQueue q s) =
      { s with panels := laneJudged s l.owner t given, planner := { s.planner with queue := q } } :=
  judgeNewcomer_lane (s := setQueue q s) cut lane first wanted given

theorem flagMerged_two {c n : Entry} {a b : CutRef} (cut : c.cut = some a) (new : n.cut = some b) (s : State) :
    flagMerged c n s = { s with panels := flagged .merged true [a.panel.serial, b.panel.serial] s.panels } := by
  unfold flagMerged; rw [cut, new]; exact raiseFlags_flagged ..

theorem flagMerged_one {c n : Entry} (one : c.cut = none ∨ n.cut = none) (s : State) : flagMerged c n s = s := by
  unfold flagMerged
  rcases one with x | x
  · rw [x]
  · rw [x]; cases c.cut <;> rfl

/-! ### The placement (R97, R98, R110) -/

section
variable {s : State} {old : Option Int} {e : Entry} {x : Int}

theorem placeEntry_of_clear (n : Nat) (pushed : Bool) (wanted : Int) (clear : ∀ d ∈ s.planner.queue, ¬ Meets (s.work .cutMinSep) e old x d) :
    placeEntry (n + 1) old pushed wanted e x s = if s.beyondLimit x = true then s
      else if pushed = true then judgeNewcomer e wanted x (setQueue (insertEntry { e with trigger := x } s.planner.queue) s)
      else setQueue (insertEntry { e with trigger := x } s.planner.queue) s := by
  unfold placeEntry
  rw [conflictOf_of_clear clear]

/-- The entry `c` of the queue is the one that counts, of those that meet the placement of `e` at `x` (R94, R97). -/
structure Counts (s : State) (old : Option Int) (e : Entry) (x : Int) (c : Entry) : Prop where
  mem : c ∈ s.planner.queue
  meets : Meets (s.work .cutMinSep) e old x c
  before : ∀ d ∈ s.planner.queue, Meets (s.work .cutMinSep) e old x d → CountsBefore old x c d

variable {c : Entry} (strict : QueueStrict s) (counts : Counts s old e x c)
include strict counts

theorem placeEntry_takes (n : Nat) (pushed : Bool) (wanted : Int) (takes : canTake c e = true) : placeEntry (n + 1) old pushed wanted e x s =
    judgeNewcomer e wanted c.trigger (flagMerged c e (setQueue (s.planner.queue.map (fun q => if q = c then mergeEntries c e else q)) s)) := by
  unfold placeEntry
  rw [conflictOf_of_counts strict.1 counts.mem counts.meets counts.before]
  exact if_pos takes

theorem placeEntry_pushes (n : Nat) (pushed : Bool) (wanted : Int) (full : canTake c e = false) :
    placeEntry (n + 1) old pushed wanted e x s = placeEntry n none true wanted e (c.trigger + s.work .cutMinSep) s := by
  conv_lhs => unfold placeEntry
  rw [conflictOf_of_counts strict.1 counts.mem counts.meets counts.before]
  exact if_neg (by simp [full])

end

/-- An entry as it is placed: PENDING (R96). -/
def asPending (e : Entry) : Entry := { e with state := .pending }

theorem beyondLimit_iff (s : State) (y : Int) : s.beyondLimit y = true ↔ ¬ ∀ l ∈ s.planner.limit, y ≤ l := by
  unfold State.beyondLimit; cases s.planner.limit <;> simp

theorem place_eq (old : Option Int) (e : Entry) (s : State) :
    place old e s = placeEntry (s.planner.queue.length + 1) old false e.trigger (asPending e) e.trigger s := rfl

theorem not_trigger_of_clear {sep : Int} (pos : 0 < sep) {e : Entry} {o : Option Int} {y : Int} {q : List Entry} (clear : ∀ d ∈ q, ¬ Meets sep e o y d) :
    ∀ d ∈ q, d.trigger ≠ y := fun d hd same => clear d hd (.inl (by rw [same]; omega))

/-- Nothing in its way, an entry is placed at its trigger (R97). -/
theorem place_of_clear {s : State} {old : Option Int} {e : Entry} (strict : s.planner.queue.Pairwise (fun d e => d.trigger < e.trigger)) (pos : 0 < s.work .cutMinSep)
    (clear : ∀ d ∈ s.planner.queue, ¬ Meets (s.work .cutMinSep) e old e.trigger d) (within : ∀ l ∈ s.planner.limit, e.trigger ≤ l) :
    place old e s = setQueue (putAt e e.trigger s.planner.queue) s := by
  rw [place_eq, placeEntry_of_clear _ _ _ (by exact clear), if_neg (by rw [beyondLimit_iff]; exact not_not.mpr within), if_neg nofun,
    insertEntry_eq strict (by exact not_trigger_of_clear pos clear)]
  rfl

/-- Beyond the end-of-web limit an entry is not placed (R110). -/
theorem place_of_beyond {s : State} {old : Option Int} {e : Entry} (clear : ∀ d ∈ s.planner.queue, ¬ Meets (s.work .cutMinSep) e old e.trigger d)
    (beyond : ¬ ∀ l ∈ s.planner.limit, e.trigger ≤ l) : place old e s = s := by
  rw [place_eq, placeEntry_of_clear _ _ _ (by exact clear), if_pos ((beyondLimit_iff ..).mpr beyond)]

/-- An entry that the counting one can take joins it (R98). -/
theorem place_joins {s : State} {old : Option Int} {e c : Entry} (strict : QueueStrict s) (counts : Counts s old e e.trigger c) (takes : canTake c e = true) :
    place old e s =
      judgeNewcomer (asPending e) e.trigger c.trigger (flagMerged c (asPending e) (setQueue (s.planner.queue.map (fun q => if q = c then mergeEntries c e else q)) s)) := by
  rw [place_eq, placeEntry_takes (e := asPending e) (c := c) strict ⟨counts.mem, counts.meets, counts.before⟩ _ _ _ (by exact takes)]
  rfl

/-- An entry that the counting one cannot take is pushed CUT_MIN_SEP past it (R98). -/
theorem place_pushed {s : State} {old : Option Int} {e c : Entry} (strict : QueueStrict s) (pos : 0 < s.work .cutMinSep) (counts : Counts s old e e.trigger c)
    (full : canTake c e = false) (clear : ∀ d ∈ s.planner.queue, ¬ Meets (s.work .cutMinSep) e none (c.trigger + s.work .cutMinSep) d)
    (within : ∀ l ∈ s.planner.limit, c.trigger + s.work .cutMinSep ≤ l) :
    place old e s = judgeNewcomer (asPending e) e.trigger (c.trigger + s.work .cutMinSep)
      (setQueue (putAt e (c.trigger + s.work .cutMinSep) s.planner.queue) s) := by
  obtain ⟨n, some⟩ : ∃ n, s.planner.queue.length = n + 1 := Nat.exists_eq_succ_of_ne_zero fun x => by
    have mem := counts.mem; rw [List.length_eq_zero_iff.mp x] at mem; exact absurd mem (List.not_mem_nil)
  rw [place_eq, placeEntry_pushes (e := asPending e) (c := c) strict ⟨counts.mem, counts.meets, counts.before⟩ _ _ _ (by exact full), some,
    placeEntry_of_clear _ _ _ (by exact clear), if_neg (by rw [beyondLimit_iff]; exact not_not.mpr within), if_pos rfl,
    insertEntry_eq strict.1 (by exact not_trigger_of_clear pos clear)]
  rfl

/-! ### What a newcomer comes to (R98) -/

theorem canTake_cut {c e : Entry} {n : CutRef} (cut : e.cut = some n) (lane : e.lane = none) :
    canTake c e = true ↔ (c.state = .pending ∨ c.state = .active) ∧ ∀ b ∈ c.cut, c.partner = none ∧ b.panel.serial ≠ n.panel.serial := by
  unfold canTake Entry.refreshable
  rw [cut, lane]
  cases c.cut <;> simp

theorem canTake_lane {c e : Entry} (cut : e.cut = none) (lane : e.lane.isSome = true) :
    canTake c e = true ↔ (c.state = .pending ∨ c.state = .active) ∧ c.lane = none := by
  unfold canTake Entry.refreshable
  rw [cut, lane]
  cases c.cut <;> cases c.lane <;> simp

section
variable {s : State} {old : Option Int} {e c : Entry} (strict : QueueStrict s) (counts : Counts s old e e.trigger c)
include strict counts

/-- Two cuts become one entry, MERGED (R98). -/
theorem place_merges {n b : CutRef} (cut : e.cut = some n) (lane : e.lane = none) (free : c.state = .pending ∨ c.state = .active) (held : c.cut = some b)
    (alone : c.partner = none) (other : b.panel.serial ≠ n.panel.serial) : place old e s = { s with
      panels := judgedCut s [n.panel.serial] (c.trigger - e.trigger) (flagged .merged true [b.panel.serial, n.panel.serial] s.panels)
      planner := { s.planner with queue := s.planner.queue.map (fun d => if d = c then { c with partner := some n } else d) } } := by
  have takes : canTake c e = true := (canTake_cut cut lane).mpr ⟨free, fun x hx => ⟨alone, by rw [held] at hx; rwa [← Option.some.inj hx]⟩⟩
  have merged : mergeEntries c e = { c with partner := some n } := by
    unfold mergeEntries; rw [cut, lane, held, alone, Option.or_none]; rfl
  rw [place_joins strict counts takes, judgeNewcomer_cut (n := asPending e) (c := n) cut lane, flagMerged_two (n := asPending e) held cut, merged]
  rfl

/-- A cut rides on a LANE entry (R98). -/
theorem place_rides {n : CutRef} (cut : e.cut = some n) (lane : e.lane = none) (free : c.state = .pending ∨ c.state = .active) (held : c.cut = none) :
    place old e s = { s with
      panels := judgedCut s [n.panel.serial] (c.trigger - e.trigger) s.panels
      planner := { s.planner with queue := s.planner.queue.map (fun d => if d = c then { c with cut := some n } else d) } } := by
  have takes : canTake c e = true := (canTake_cut cut lane).mpr ⟨free, fun x hx => by rw [held] at hx; exact absurd hx nofun⟩
  have merged : mergeEntries c e = { c with cut := some n } := by
    unfold mergeEntries; rw [cut, lane, held, Option.or_none]; rfl
  rw [place_joins strict counts takes, judgeNewcomer_cut (n := asPending e) (c := n) cut lane, flagMerged_one (n := asPending e) (.inl held), merged]
  rfl

/-- A cut is pushed past an entry that cannot take it (R98). -/
theorem place_pushes_cut (pos : 0 < s.work .cutMinSep) {n : CutRef} (cut : e.cut = some n) (lane : e.lane = none)
    (full : ¬ (c.state = .pending ∨ c.state = .active) ∨ ∃ b ∈ c.cut, c.partner.isSome = true ∨ b.panel.serial = n.panel.serial)
    (clear : ∀ d ∈ s.planner.queue, ¬ Meets (s.work .cutMinSep) e none (c.trigger + s.work .cutMinSep) d)
    (within : ∀ l ∈ s.planner.limit, c.trigger + s.work .cutMinSep ≤ l) : place old e s = { s with
      panels := judgedCut s [n.panel.serial] (c.trigger + s.work .cutMinSep - e.trigger) s.panels
      planner := { s.planner with queue := putAt e (c.trigger + s.work .cutMinSep) s.planner.queue } } := by
  have refuses : canTake c e = false := by
    rw [← Bool.not_eq_true, canTake_cut cut lane]
    rintro ⟨free, rest⟩
    rcases full with fixed | ⟨b, held, partnered | same⟩
    · exact fixed free
    · rw [(rest b held).1] at partnered; exact absurd partnered nofun
    · exact (rest b held).2 same
  rw [place_pushed strict pos counts refuses clear within, judgeNewcomer_cut (n := asPending e) (c := n) cut lane]
  rfl

variable {l : LaneChange} {t : Int} (cut : e.cut = none) (lane : e.lane = some l) (first : s.firstTrigger l.owner = some t)
include cut lane first

/-- A lane change rides on a cut (R98, R104). -/
theorem place_carried (free : c.state = .pending ∨ c.state = .active) (cuts : c.cut.isSome = true) (plain : c.lane = none) : place old e s = { s with
      panels := laneJudged s l.owner t c.trigger
      planner := { s.planner with queue := s.planner.queue.map (fun d => if d = c then { c with lane := some l } else d) } } := by
  have takes : canTake c e = true := (canTake_lane cut (by rw [lane]; rfl)).mpr ⟨free, plain⟩
  have merged : mergeEntries c e = { c with lane := some l } := by
    unfold mergeEntries; rw [cut, lane, plain, cuts, Option.or_none, Option.or_none]; rfl
  rw [place_joins strict counts takes, flagMerged_one (n := asPending e) (.inr cut), merged]
  exact judgeNewcomer_lane_queue (n := asPending e) cut lane first _ _ _

/-- A lane change is pushed past an entry that cannot take it (R98). -/
theorem place_pushes_lane (pos : 0 < s.work .cutMinSep) (full : ¬ (c.state = .pending ∨ c.state = .active) ∨ c.lane.isSome = true)
    (clear : ∀ d ∈ s.planner.queue, ¬ Meets (s.work .cutMinSep) e none (c.trigger + s.work .cutMinSep) d)
    (within : ∀ l ∈ s.planner.limit, c.trigger + s.work .cutMinSep ≤ l) : place old e s = { s with
      panels := laneJudged s l.owner t (c.trigger + s.work .cutMinSep)
      planner := { s.planner with queue := putAt e (c.trigger + s.work .cutMinSep) s.planner.queue } } := by
  have refuses : canTake c e = false := by
    rw [← Bool.not_eq_true, canTake_lane cut (by rw [lane]; rfl)]
    rintro ⟨free, plain⟩
    rcases full with fixed | laden
    · exact fixed free
    · rw [plain] at laden; exact absurd laden nofun
  rw [place_pushed strict pos counts refuses clear within]
  exact judgeNewcomer_lane_queue (n := asPending e) cut lane first _ _ _

end

end Sys2Proof.Machine
end

section
/-!
Committing a panel (R99 to R105): its cuts behind the entries held, its lane change riding on the last of them or ahead of its first cut.
-/
namespace Sys2Proof.Machine

theorem putAt_last {e : Entry} {y : Int} {q : List Entry} (behind : ∀ d ∈ q, d.trigger < y) : putAt e y q = q ++ [{ e with state := .pending, trigger := y }] := by
  unfold putAt
  rw [List.filter_eq_self.mpr fun d hd => decide_eq_true (behind d hd), List.filter_eq_nil_iff.mpr fun d hd => by have := behind d hd; simp; omega]

theorem putAt_first {e : Entry} {y : Int} {q : List Entry} (ahead : ∀ d ∈ q, y < d.trigger) : putAt e y q = { e with state := .pending, trigger := y } :: q := by
  unfold putAt
  rw [List.filter_eq_self.mpr fun d hd => decide_eq_true (ahead d hd), List.filter_eq_nil_iff.mpr fun d hd => by have := ahead d hd; simp; omega]
  rfl

/-! ### The cuts of a panel (R101) -/

/-- The entry of a panel's cut (R95). -/
def cutEntry (r : PanelRef) (n : Nat) (t : Int) : Entry := { cut := some ⟨r, n + 1⟩, trigger := t }

/-- The cut entries of a panel, from an index on (R95, R101). -/
def cutEntries (r : PanelRef) (k : Nat) (ts : List Int) : List Entry := (ts.zipIdx k).map (fun x => cutEntry r x.2 x.1)

theorem cutEntries_cons (r : PanelRef) (k : Nat) (t : Int) (ts : List Int) :
    cutEntries r k (t :: ts) = cutEntry r k t :: cutEntries r (k + 1) ts := rfl

theorem length_cutEntries (r : PanelRef) (k : Nat) (ts : List Int) : (cutEntries r k ts).length = ts.length := by simp [cutEntries]

theorem mem_cutEntries {r : PanelRef} {k : Nat} {ts : List Int} {d : Entry} (h : d ∈ cutEntries r k ts) :
    d.trigger ∈ ts ∧ d.state = .pending ∧ d.partner = none ∧ d.lane = none ∧ ∃ n, k ≤ n ∧ d.cut = some ⟨r, n + 1⟩ := by
  obtain ⟨⟨t, n⟩, mem, rfl⟩ := List.mem_map.mp h
  obtain ⟨low, -, at'⟩ := List.mem_zipIdx mem
  exact ⟨by rw [at']; exact List.getElem_mem _, rfl, rfl, rfl, n, low, rfl⟩

theorem strict_cutEntries {sep : Int} (pos : 0 < sep) (r : PanelRef) (k : Nat) {ts : List Int} (apart : ts.Pairwise (fun a b => a + sep ≤ b)) :
    (cutEntries r k ts).Pairwise (fun d e => d.trigger < e.trigger) := by
  induction ts generalizing k with
  | nil => exact .nil
  | cons t ts ih =>
    obtain ⟨first, rest⟩ := List.pairwise_cons.mp apart
    refine .cons (fun d hd => ?_) (ih (k + 1) rest)
    have := first d.trigger (mem_cutEntries hd).1
    show t < d.trigger
    omega

/-- Entries that all lie ahead of P2 before a position meet no newcomer there (R97). -/
theorem not_meets_of_behind {sep : Int} {e d : Entry} {y : Int} (pos : 0 < sep) (behind : d.trigger + sep ≤ y) : ¬ Meets sep e none y d := by
  rintro (near | ⟨-, ahead⟩ | ⟨-, z, hz, -⟩)
  · omega
  · omega
  · exact absurd hz nofun

theorem placeCuts_from (r : PanelRef) (k : Nat) (ts : List Int) {s : State} (strict : QueueStrict s) (pos : 0 < s.work .cutMinSep)
    (room : ts.length + s.planner.queue.length ≤ 32) (apart : ts.Pairwise (fun a b => a + s.work .cutMinSep ≤ b))
    (behind : ∀ d ∈ s.planner.queue, ∀ t ∈ ts, d.trigger + s.work .cutMinSep ≤ t) (within : ∀ l ∈ s.planner.limit, ∀ t ∈ ts, t ≤ l) :
    (ts.zipIdx k).foldl (fun s ti => place none { cut := some ⟨r, ti.2 + 1⟩, trigger := ti.1 } s) s = setQueue (s.planner.queue ++ cutEntries r k ts) s := by
  induction ts generalizing k s with
  | nil => exact congrArg (fun q => setQueue q s) (List.append_nil _).symm
  | cons t ts ih =>
    obtain ⟨first, rest⟩ := List.pairwise_cons.mp apart
    have here (d : Entry) (hd : d ∈ s.planner.queue) := behind d hd t (List.mem_cons_self ..)
    have placed : place none (cutEntry r k t) s = setQueue (s.planner.queue ++ [cutEntry r k t]) s := by
      rw [place_of_clear strict.1 pos (fun d hd => not_meets_of_behind pos (here d hd)) (fun l hl => within l hl t (List.mem_cons_self ..)),
        putAt_last fun d hd => by have : d.trigger + s.work .cutMinSep ≤ (cutEntry r k t).trigger := here d hd; omega]
      rfl
    rw [List.zipIdx_cons, List.foldl_cons]
    refine (congrArg (fun u => (ts.zipIdx (k + 1)).foldl _ u) placed).trans ?_
    refine (ih (k + 1) (s := setQueue (s.planner.queue ++ [cutEntry r k t]) s) ⟨?_, ?_⟩ pos ?_ rest ?_ ?_).trans ?_
    · refine List.pairwise_append.mpr ⟨strict.1, List.pairwise_singleton .., fun d hd e he => ?_⟩
      have := here d hd
      rw [List.mem_singleton.mp he]
      show d.trigger < t
      omega
    · have : (s.planner.queue ++ [cutEntry r k t]).length ≤ 32 := by simp at room ⊢; omega
      exact this
    · have : ts.length + (s.planner.queue ++ [cutEntry r k t]).length ≤ 32 := by simp at room ⊢; omega
      exact this
    · intro d hd x hx
      rcases List.mem_append.mp hd with held | new
      · exact behind d held x (List.mem_cons_of_mem _ hx)
      · rw [List.mem_singleton.mp new]; exact first x hx
    · exact fun l hl x hx => within l hl x (List.mem_cons_of_mem _ hx)
    · show setQueue ((s.planner.queue ++ _) ++ cutEntries r (k + 1) ts) s = _
      rw [List.append_assoc]
      rfl

/-! ### The commit (R100, R101) -/

/-- The panels with a panel COMMITTED (R11). -/
def committedPanels (n : Nat) (ps : List Panel) : List Panel := ps.map (fun o => if o.serial = n then { o with state := .committed } else o)

theorem tryCommits_of_commit {s : State} {p : Panel} {q : List Entry} {target : Option Int} (next : s.nextCommit = some p)
    (alone : ∀ q ∈ s.panels, q.state = .atOutfeed → q.serial = p.serial)
    (commit : commitPanel p s = { s with panels := committedPanels p.serial s.panels, planner := { s.planner with queue := q, target := target } }) :
    tryCommits s = { s with panels := committedPanels p.serial s.panels, planner := { s.planner with queue := q, target := target } } := by
  have mem : p ∈ s.panels := by
    rw [nextCommit_eq] at next
    obtain ⟨o, found, same⟩ := Option.bind_eq_some_iff.mp next
    split at same
    · rw [← Option.some.inj same]; exact List.mem_of_find?_eq_some found
    · exact absurd same nofun
  obtain ⟨n, some⟩ : ∃ n, s.panels.length = n + 1 := Nat.exists_eq_succ_of_ne_zero fun x => by
    rw [List.length_eq_zero_iff.mp x] at mem; exact absurd mem (List.not_mem_nil)
  unfold tryCommits
  rw [some]
  unfold commitLoop
  rw [next]
  dsimp only
  rw [commit]
  refine commitLoop_of_none ?_ n
  rw [nextCommit_eq]
  dsimp only
  cases first : (committedPanels p.serial s.panels).find? (fun q => decide (q.state.rank < 3)) with
  | none => rfl
  | some o =>
    refine if_neg fun ⟨state, _⟩ => ?_
    obtain ⟨k, hk, rfl⟩ := List.mem_map.mp (List.mem_of_find?_eq_some first)
    by_cases named : k.serial = p.serial
    · rw [if_pos named] at state; exact absurd state nofun
    · rw [if_neg named] at state; exact named (alone k hk state)

theorem placeLane_rides {u : State} {l : LaneChange} {tOld : Option Int} {t : Int} {d : Entry}
    (chosen : (u.planner.queue.filter (canCarryLane (tOld.map (· - u.work .dSk)) (t - u.work .dSk))).getLast? = some d) :
    placeLane l tOld t u = setQueue (u.planner.queue.map (fun q => if q = d then { q with lane := some l } else q)) u := by
  unfold placeLane
  dsimp only
  rw [chosen]

theorem placeLane_alone {u : State} {l : LaneChange} {tOld : Option Int} {t : Int}
    (none : u.planner.queue.filter (canCarryLane (tOld.map (· - u.work .dSk)) (t - u.work .dSk)) = []) :
    placeLane l tOld t u = place .none { cut := .none, lane := some l, trigger := t - u.work .dSk } u := by
  unfold placeLane
  dsimp only
  rw [none]
  rfl

/-- The panel `p` with triggers `t :: ts` can be committed behind all that is held (R99 to R101). -/
structure CommitsBehind (s : State) (p : Panel) (t : Int) (ts : List Int) : Prop where
  strict : QueueStrict s
  pos : 0 < s.work .cutMinSep
  sk : 0 < s.work .dSk
  triggers : p.triggers = some (t :: ts)
  all : ts.length + 1 = p.cuts.length
  cycle : s.station.cycle ≠ .approach
  room : p.cuts.length + 1 + s.planner.queue.length ≤ 32
  apart : (t :: ts).Pairwise (fun a b => a + s.work .cutMinSep ≤ b)
  behind : ∀ d ∈ s.planner.queue, d.trigger + s.work .cutMinSep ≤ t
  within : ∀ l ∈ s.planner.limit, ∀ x ∈ t :: ts, x ≤ l

/-- The unit with a panel COMMITTED and the queue given, the target not yet taken afresh. -/
def committing (s : State) (p : Panel) (q : List Entry) : State :=
  { s with panels := committedPanels p.serial s.panels, planner := { s.planner with queue := q } }

section
variable {s : State} {p : Panel} {t : Int} {ts : List Int} (h : CommitsBehind s p t ts)
include h

theorem CommitsBehind.first_least : ∀ x ∈ t :: ts, t ≤ x := by
  have pos := h.pos
  intro x hx
  rcases List.mem_cons.mp hx with rfl | hx
  · exact le_rfl
  · have := List.rel_of_pairwise_cons h.apart hx; omega

theorem CommitsBehind.cuts_placed :
    placeCuts p.ref (t :: ts) (updPanel p.ref (fun q => { q with state := .committed }) s) = committing s p (s.planner.queue ++ cutEntries p.ref 0 (t :: ts)) := by
  have all := h.all
  have room := h.room
  refine placeCuts_from p.ref 0 (t :: ts) (s := updPanel p.ref (fun q => { q with state := .committed }) s) h.strict h.pos ?_ h.apart ?_ h.within
  · show (t :: ts).length + s.planner.queue.length ≤ 32
    rw [List.length_cons]; omega
  · intro d hd x hx
    exact (h.behind d hd).trans (h.first_least x hx)

theorem CommitsBehind.commitPanel_eq (q : List Entry)
    (lane : p.lanes = s.lanesToBe ∧ q = s.planner.queue ++ cutEntries p.ref 0 (t :: ts)
      ∨ p.lanes ≠ s.lanesToBe ∧ placeLane ⟨p.lanes, p.ref⟩ s.lastCutTrigger t (committing s p (s.planner.queue ++ cutEntries p.ref 0 (t :: ts))) = committing s p q) :
    commitPanel p s = { s with
      panels := committedPanels p.serial s.panels, planner := { s.planner with queue := q, target := q.head?.map (·.trigger) } } := by
  have target : targetUpdate (committing s p q) = { s with
      panels := committedPanels p.serial s.panels, planner := { s.planner with queue := q, target := q.head?.map (·.trigger) } } :=
    targetUpdate_of_no_approach (s := committing s p q) h.cycle
  unfold commitPanel
  dsimp only
  rw [h.triggers, Option.getD_some, h.cuts_placed, ← target]
  rcases lane with ⟨same, rfl⟩ | ⟨change, placed⟩
  · rw [decide_eq_false (not_not.mpr same)]
  · rw [decide_eq_true change]; exact congrArg targetUpdate placed

/-- The lane change rides on the last entry held (R104). -/
theorem CommitsBehind.lane_rides {ds : List Entry} {d : Entry} (queue : s.planner.queue = ds ++ [d]) (cut : d.cut.isSome = true) (plain : d.lane = none)
    (waits : d.state ≠ .executing) (clear : d.trigger ≤ t - s.work .dSk) :
    placeLane ⟨p.lanes, p.ref⟩ s.lastCutTrigger t (committing s p (s.planner.queue ++ cutEntries p.ref 0 (t :: ts)))
      = committing s p (ds ++ { d with lane := some ⟨p.lanes, p.ref⟩ } :: cutEntries p.ref 0 (t :: ts)) := by
  have sk := h.sk
  have pos := h.pos
  have last : s.lastCutTrigger = some d.trigger := by
    unfold State.lastCutTrigger
    rw [queue, List.filter_append, List.filter_cons_of_pos (by simpa using cut), List.filter_nil, List.getLast?_concat]; rfl
  have later : ∀ e ∈ cutEntries p.ref 0 (t :: ts), t ≤ e.trigger := fun e he => h.first_least _ (mem_cutEntries he).1
  have carries : canCarryLane (some (d.trigger - s.work .dSk)) (t - s.work .dSk) d = true := by
    unfold canCarryLane; simp [cut, plain, waits, clear]; omega
  have none : (cutEntries p.ref 0 (t :: ts)).filter (canCarryLane (some (d.trigger - s.work .dSk)) (t - s.work .dSk)) = [] := by
    refine List.filter_eq_nil_iff.mpr fun e he => ?_
    have := later e he
    unfold canCarryLane
    simp only [Bool.and_eq_true, decide_eq_true_eq]
    omega
  have chosen : ((ds ++ [d] ++ cutEntries p.ref 0 (t :: ts)).filter (canCarryLane (some (d.trigger - s.work .dSk)) (t - s.work .dSk))).getLast? = some d := by
    rw [List.filter_append, none, List.append_nil, List.filter_append, List.filter_cons_of_pos carries, List.filter_nil, List.getLast?_concat]
  have before : ∀ e ∈ ds, e ≠ d := by
    have strict := h.strict.1
    rw [queue] at strict
    intro e he same
    have := (List.pairwise_append.mp strict).2.2 e he d (List.mem_singleton_self d)
    rw [same] at this
    omega
  have behind : ∀ e ∈ cutEntries p.ref 0 (t :: ts), e ≠ d := by
    intro e he same
    have := later e he
    have := h.behind d (by rw [queue]; simp)
    rw [same] at *
    omega
  refine (placeLane_rides (u := committing s p (s.planner.queue ++ cutEntries p.ref 0 (t :: ts))) (d := d) ?_).trans ?_
  · rw [last]
    show ((s.planner.queue ++ _).filter _).getLast? = _
    rw [queue]
    exact chosen
  · refine congrArg (committing s p) ?_
    show (s.planner.queue ++ _).map _ = _
    rw [queue, List.map_append, List.map_append, List.map_singleton, if_pos rfl,
      (List.map_congr_left fun e he => if_neg (before e he)).trans (List.map_id' ds), (List.map_congr_left fun e he => if_neg (behind e he)).trans (List.map_id' _),
      List.append_assoc]
    rfl

/-- The lane change goes D_SK ahead of the first cut (R105). -/
theorem CommitsBehind.lane_ahead (queue : s.planner.queue = []) (sep : s.work .cutMinSep ≤ s.work .dSk) :
    placeLane ⟨p.lanes, p.ref⟩ s.lastCutTrigger t (committing s p (s.planner.queue ++ cutEntries p.ref 0 (t :: ts)))
      = committing s p ({ cut := none, lane := some ⟨p.lanes, p.ref⟩, trigger := t - s.work .dSk } :: cutEntries p.ref 0 (t :: ts)) := by
  have sk := h.sk
  have pos := h.pos
  have all := h.all
  have room := h.room
  have later : ∀ e ∈ cutEntries p.ref 0 (t :: ts), t ≤ e.trigger := fun e he => h.first_least _ (mem_cutEntries he).1
  rw [queue, List.nil_append]
  have none : (cutEntries p.ref 0 (t :: ts)).filter (canCarryLane (s.lastCutTrigger.map (· - s.work .dSk)) (t - s.work .dSk)) = [] := by
    refine List.filter_eq_nil_iff.mpr fun e he => ?_
    have := later e he
    unfold canCarryLane
    simp only [Bool.and_eq_true, decide_eq_true_eq]
    omega
  rw [placeLane_alone (u := committing s p (cutEntries p.ref 0 (t :: ts))) (by exact none),
    place_of_clear (s := committing s p (cutEntries p.ref 0 (t :: ts))) (strict_cutEntries h.pos p.ref 0 h.apart) h.pos]
  · refine congrArg (committing s p) (putAt_first fun e he => ?_)
    have := later e he
    show t - s.work .dSk < e.trigger
    omega
  · intro e he
    have := later e he
    obtain ⟨-, pending, -⟩ := mem_cutEntries he
    rintro (near | ⟨fixed, -⟩ | ⟨-, z, hz, -⟩)
    · have : (e.trigger - (t - s.work .dSk)).natAbs < s.work .cutMinSep := near
      omega
    · rw [pending] at fixed; exact absurd fixed (by decide)
    · exact absurd hz nofun
  · intro l hl
    have := h.within l hl t (List.mem_cons_self ..)
    show t - s.work .dSk ≤ l
    omega

end

end Sys2Proof.Machine
end

section
/-!
Refreshes (R91, R93, R94, R106): the entries that serve a panel's cuts, the triggers they keep, the judgements of those that are held, and the entries that move.
-/
namespace Sys2Proof.Machine

/-! ### The parts of a refresh -/

/-- A panel's recomputed triggers, applied part by part (R93, R94, R106). -/
theorem applyTriggers_of {s u t : State} {r : PanelRef} {news : List Int} {p : Panel} (later : p.state ≠ .atOutfeed) {es : List (Option Entry)}
    {ms : List (Entry × Int)} {ls : List Entry} (ks : List Int)
    (served : (List.range news.length).map (fun i => s.entryOf r (i + 1)) = es)
    (kept : (es.zip ((p.triggers.getD []).zip news)).map (fun x => keptTrigger x.1 x.2.1 x.2.2) = ks)
    (judged : (es.zip news).foldl (fun s x => judgeHeld r x.1 x.2 s) (updPanel r (fun q => { q with triggers := some ks }) s) = u)
    (moves : ownMoves r (es.zip news) = ms)
    (lanes : (if (es.head?.bind id).any Entry.refreshable = true then u.planner.queue.filter (laneMovesWith r) else []) = ls)
    (placed : targetUpdate (placeMoved (ms ++ ls.filterMap (fun e => news.head?.map (fun t => (e, t - u.work .dSk))))
      (setQueue (u.planner.queue.filter (fun e => !((ms.map (·.1)).contains e || ls.contains e))) u)) = t)
    (room : u.planner.queue.length ≤ t.planner.queue.length) : applyTriggers r news p s = t := by
  subst served kept judged moves lanes placed
  unfold applyTriggers
  rw [if_neg later]
  exact if_neg (not_lt.mpr room)

theorem refresh_of {s : State} {p : Panel} {l : Length2} {b : Coord} (found : s.panel? p.ref = some p) (state : p.state ≠ .done) (head : p.bHead = some b) :
    refresh p.ref l s = applyTriggers p.ref (p.cuts.map (triggerOf b.pos l.len p.lNom (s.work .dMk))) p (updPanel p.ref (fun q => { q with l2 := some l }) s) := by
  have written : State.triggersOf (updPanel p.ref (fun q => { q with l2 := some l }) s) { p with l2 := some l }
      = some (p.cuts.map (triggerOf b.pos l.len p.lNom (s.work .dMk))) := by
    unfold State.triggersOf; dsimp only; rw [head]; rfl
  unfold refresh
  rw [found]
  dsimp only
  rw [if_neg state, written]

/-! ### The entries that serve a panel's cuts (R95) -/

theorem drop_zipIdx (ts : List Int) (j k : Nat) : (ts.zipIdx j).drop k = (ts.drop k).zipIdx (j + k) := by
  induction ts generalizing j k with
  | nil => simp
  | cons t ts ih =>
    cases k with
    | zero => rfl
    | succ k => rw [List.zipIdx_cons, List.drop_succ_cons, List.drop_succ_cons, ih, Nat.add_assoc, Nat.add_comm 1]

theorem cutEntries_drop (r : PanelRef) (k : Nat) (ts : List Int) : (ts.zipIdx.drop k).map (fun x => cutEntry r x.2 x.1) = cutEntries r k (ts.drop k) := by
  rw [drop_zipIdx, Nat.zero_add]; rfl

/-- Among a panel's cut entries, the one that serves its cut `i + 1`. -/
theorem find?_cutEntries (r : PanelRef) (k i : Nat) (ts : List Int) :
    (cutEntries r k ts).find? (fun e => e.cuts.any (fun c => c.panel.serial == r.serial && c.index == i + 1)) =
      if k ≤ i then (ts[i - k]?).map (cutEntry r i) else none := by
  induction ts generalizing k with
  | nil => simp [cutEntries]
  | cons t ts ih =>
    have serves : (cutEntry r k t).cuts.any (fun c => c.panel.serial == r.serial && c.index == i + 1) = decide (k = i) := by
      unfold cutEntry Entry.cuts; rw [Bool.eq_iff_iff]; simp
    rw [cutEntries_cons, List.find?_cons, serves]
    by_cases here : k = i
    · subst here; simp
    · rw [decide_eq_false here, ih]
      by_cases before : k ≤ i
      · obtain ⟨j, rfl⟩ := Nat.exists_eq_add_of_lt (lt_of_le_of_ne before here)
        rw [if_pos (by omega), if_pos before, show k + j + 1 - k = (k + j + 1 - (k + 1)) + 1 by omega, List.getElem?_cons_succ]
      · rw [if_neg before, if_neg (by omega)]

/-- What serves the cuts of a panel whose first `m` cuts are done and whose others stand in the queue as entries of their own. -/
def servedFrom (r : PanelRef) (m : Nat) (olds : List Int) : List (Option Entry) := List.replicate m none ++ (cutEntries r m olds).map some

theorem served_eq {s : State} {r : PanelRef} {k n : Nat} {olds : List Int} (long : olds.length = n) (most : k ≤ n)
    (finds : ∀ i, s.entryOf r (i + 1) = if k ≤ i then (((olds.drop k)[i - k]?).map (cutEntry r i)) else none) :
    (List.range n).map (fun i => s.entryOf r (i + 1)) = servedFrom r k (olds.drop k) := by
  unfold servedFrom
  refine List.ext_getElem (by simp [length_cutEntries, long]; omega) fun i hi _ => ?_
  rw [List.length_map, List.length_range] at hi
  rw [List.getElem_map, List.getElem_range, finds]
  by_cases done : i < k
  · rw [if_neg (by omega), List.getElem_append_left (by simpa using done), List.getElem_replicate]
  · rw [if_pos (by omega), List.getElem_append_right (by simpa using not_lt.mp done)]
    simp only [cutEntries, List.length_replicate, List.getElem_map, List.getElem_zipIdx]
    rw [List.getElem?_eq_getElem (by simp; omega), Option.map_some, show k + (i - k) = i by omega]

/-! ### What such a refresh keeps, judges and moves (R93, R94) -/

theorem getElem_servedFrom {r : PanelRef} {m : Nat} {olds : List Int} {i : Nat} (h : i < (servedFrom r m olds).length) :
    (servedFrom r m olds)[i] = none ∧ i < m ∨ (∃ x, (servedFrom r m olds)[i] = some (cutEntry r i x)) ∧ m ≤ i := by
  unfold servedFrom at h ⊢
  by_cases done : i < m
  · rw [List.getElem_append_left (by simpa using done), List.getElem_replicate]; exact .inl ⟨rfl, done⟩
  · rw [List.getElem_append_right (by simpa using not_lt.mp done)]
    refine .inr ⟨?_, not_lt.mp done⟩
    simp only [cutEntries, List.length_replicate, List.getElem_map, List.getElem_zipIdx]
    exact ⟨_, by rw [show m + (i - m) = i by omega]⟩

theorem mem_servedFrom {r : PanelRef} {m : Nat} {olds : List Int} {o : Option Entry} (h : o ∈ servedFrom r m olds) : o = none ∨ ∃ i x, o = some (cutEntry r i x) := by
  obtain ⟨i, hi, rfl⟩ := List.mem_iff_getElem.mp h
  rcases getElem_servedFrom hi with ⟨none, -⟩ | ⟨⟨x, some⟩, -⟩
  · exact .inl none
  · exact .inr ⟨i, x, some⟩

theorem length_servedFrom (r : PanelRef) {m : Nat} {olds : List Int} (most : m ≤ olds.length) : (servedFrom r m (olds.drop m)).length = olds.length := by
  unfold servedFrom; simp [length_cutEntries]; omega

theorem kept_servedFrom (r : PanelRef) {m : Nat} {olds news : List Int} (long : olds.length = news.length) (most : m ≤ olds.length) :
    ((servedFrom r m (olds.drop m)).zip (olds.zip news)).map (fun x => keptTrigger x.1 x.2.1 x.2.2) = olds.take m ++ news.drop m := by
  have served := length_servedFrom r most
  refine List.ext_getElem (by simp [served]; omega) fun i hi _ => ?_
  rw [List.getElem_map, List.getElem_zip, List.getElem_zip]
  dsimp only
  have inside : i < olds.length := by simp [served] at hi; omega
  rcases getElem_servedFrom (i := i) (by rw [served]; exact inside) with ⟨done, before⟩ | ⟨⟨x, waits⟩, behind⟩
  · rw [done, List.getElem_append_left (by simp; omega), List.getElem_take]; rfl
  · rw [waits, List.getElem_append_right (by simp; omega), List.getElem_drop]
    simp only [List.length_take, Nat.min_eq_left most, show m + (i - m) = i by omega]
    rfl

/-- Of a list folded over, one place alone counts. -/
theorem foldl_of_single {α β : Type} {f : β → α → β} {l : List α} {n : Nat} {x : α} (at' : l[n]? = some x)
    (others : ∀ i y, l[i]? = some y → i ≠ n → ∀ b, f b y = b) (b : β) : l.foldl f b = f b x := by
  induction l generalizing n b with
  | nil => exact absurd at' nofun
  | cons y l ih =>
    cases n with
    | zero =>
      obtain rfl : y = x := Option.some.inj at'
      rw [List.foldl_cons]
      refine List.foldlRecOn (motive := fun c => c = f b y) l f rfl fun c hc z hz => ?_
      obtain ⟨i, hi⟩ := List.mem_iff_getElem?.mp hz
      rw [others (i + 1) z hi (Nat.succ_ne_zero i), hc]
    | succ n =>
      rw [List.foldl_cons, others 0 y rfl (Nat.succ_ne_zero n).symm]
      exact ih at' (fun i z hi ne => others (i + 1) z hi (by omega)) b

theorem foldl_of_fixed {α β : Type} {f : β → α → β} {l : List α} {b : β} (h : ∀ x ∈ l, f b x = b) : l.foldl f b = b := by
  induction l with
  | nil => rfl
  | cons x l ih => rw [List.foldl_cons, h x (List.mem_cons_self ..)]; exact ih fun y hy => h y (List.mem_cons_of_mem _ hy)

/-- Entries that are free are not judged (R93). -/
theorem judged_servedFrom (r : PanelRef) (m : Nat) (olds news : List Int) (s : State) :
    ((servedFrom r m olds).zip news).foldl (fun s x => judgeHeld r x.1 x.2 s) s = s := by
  refine foldl_of_fixed fun x hx => ?_
  rcases mem_servedFrom (List.of_mem_zip hx).1 with none | ⟨i, y, some⟩
  · rw [none]; rfl
  · rw [some]; rfl

theorem movesWith_cutEntry (r : PanelRef) (n : Nat) (t : Int) : movesWith r (cutEntry r n t) = true := by
  unfold movesWith Entry.refreshable cutEntry; simp

theorem ownMoves_append (r : PanelRef) (a b : List (Option Entry × Int)) : ownMoves r (a ++ b) = ownMoves r a ++ ownMoves r b := List.filterMap_append

theorem ownMoves_none (r : PanelRef) (m : Nat) (ts : List Int) : ownMoves r ((List.replicate m none).zip ts) = [] := by
  refine List.filterMap_eq_nil_iff.mpr fun x hx => ?_
  rw [List.eq_of_mem_replicate (List.of_mem_zip hx).1]; rfl

theorem ownMoves_all {r : PanelRef} {ds : List Entry} (free : ∀ d ∈ ds, movesWith r d = true) (ts : List Int) : ownMoves r ((ds.map some).zip ts) = ds.zip ts := by
  induction ds generalizing ts with
  | nil => rfl
  | cons d ds ih =>
    cases ts with
    | nil => rfl
    | cons t ts =>
      have rest := ih (fun c hc => free c (List.mem_cons_of_mem _ hc)) ts
      unfold ownMoves at rest ⊢
      rw [List.map_cons, List.zip_cons_cons, List.filterMap_cons, rest, Option.filter_some, if_pos (free d (List.mem_cons_self ..))]
      rfl

theorem moves_servedFrom (r : PanelRef) {m : Nat} {olds news : List Int} (most : m ≤ news.length) :
    ownMoves r ((servedFrom r m (olds.drop m)).zip news) = (cutEntries r m (olds.drop m)).zip (news.drop m) := by
  have split : (servedFrom r m (olds.drop m)).zip news =
      (List.replicate m none).zip (news.take m) ++ ((cutEntries r m (olds.drop m)).map some).zip (news.drop m) := by
    unfold servedFrom
    rw [← List.zip_append (by simp; omega), List.take_append_drop]
  rw [split, ownMoves_append, ownMoves_none, List.nil_append, ownMoves_all]
  intro d hd
  obtain ⟨x, -, rfl⟩ := List.mem_map.mp hd
  exact movesWith_cutEntry ..

/-! ### Moves placed again (R94) -/

/-- A free cut of a panel. -/
theorem ownOf_cutEntry {r r' : PanelRef} {e : Entry} (own : (e.cut.map (·.panel.serial)).or (e.lane.map (·.owner.serial)) = some r.serial) (same : r'.serial = r.serial)
    (n : Nat) (t : Int) : OwnOf e (cutEntry r' n t) :=
  ⟨.inl rfl, rfl, _, own, _, rfl, same⟩

/-- A moved entry meets no free cut of its panel that keeps its distance (R94, R97). -/
theorem not_meets_own {sep : Int} {e d : Entry} {o : Option Int} {y : Int} (own : OwnOf e d) (distant : sep ≤ (d.trigger - y).natAbs) : ¬ Meets sep e o y d := by
  rintro (near | ⟨fixed, -⟩ | ⟨other, -⟩)
  · omega
  · rcases own.1 with x | x <;> rw [x] at fixed <;> exact absurd fixed (by decide)
  · exact other own

theorem cutEntries_append (r : PanelRef) (j : Nat) (a b : List Int) : cutEntries r j (a ++ b) = cutEntries r j a ++ cutEntries r (j + a.length) b := by
  unfold cutEntries; rw [List.zipIdx_append, List.map_append]

/-- A panel's cuts, moved one by one, come to stand behind those moved before them (R94). -/
theorem placeMoved_cuts (r : PanelRef) (j : Nat) {olds news : List Int} (long : olds.length = news.length) {s : State} (pos : 0 < s.work .cutMinSep)
    (limit : s.planner.limit = none) {held : List Int} (queue : s.planner.queue = cutEntries r j held)
    (apart : (held ++ news).Pairwise (fun a b => a + s.work .cutMinSep ≤ b)) :
    placeMoved ((cutEntries r (j + held.length) olds).zip news) s = setQueue (cutEntries r j (held ++ news)) s := by
  induction news generalizing olds held s with
  | nil =>
    rw [List.zip_nil_right, List.append_nil, ← queue]; rfl
  | cons t news ih =>
    obtain ⟨z, olds, rfl⟩ := List.exists_cons_of_ne_nil (List.ne_nil_of_length_eq_add_one long)
    have behind : ∀ x ∈ held, x + s.work .cutMinSep ≤ t := fun x hx => (List.pairwise_append.mp apart).2.2 x hx t (List.mem_cons_self ..)
    have placed : place (some z) (cutEntry r (j + held.length) t) s = setQueue (cutEntries r j (held ++ [t])) s := by
      rw [place_of_clear ?_ pos ?_ ?_, putAt_last ?_]
      · rw [queue, cutEntries_append]; rfl
      · intro d hd
        rw [queue] at hd
        have := behind _ (mem_cutEntries hd).1
        show d.trigger < t
        omega
      · rw [queue]; exact strict_cutEntries pos r j (List.pairwise_append.mp apart).1
      · intro d hd
        rw [queue] at hd
        have := behind _ (mem_cutEntries hd).1
        obtain ⟨⟨x, n⟩, -, rfl⟩ := List.mem_map.mp hd
        refine not_meets_own (ownOf_cutEntry rfl rfl n x) ?_
        show s.work .cutMinSep ≤ (x - t).natAbs
        have : x + s.work .cutMinSep ≤ t := this
        omega
      · rw [limit]; exact nofun
    rw [cutEntries_cons, List.zip_cons_cons]
    unfold placeMoved
    rw [List.foldl_cons]
    refine (congrArg (fun u => ((cutEntries r (j + held.length + 1) olds).zip news).foldl _ u) placed).trans ?_
    have rest := ih (olds := olds) (by simpa using long) (s := setQueue (cutEntries r j (held ++ [t])) s) pos limit rfl
      (by rw [List.append_assoc]; exact apart)
    rw [List.length_append, List.length_singleton, ← Nat.add_assoc, List.append_assoc] at rest
    exact rest

/-- A LANE entry moved after the cuts of its panel comes to stand ahead of them (R106). -/
theorem place_lane_ahead {r : PanelRef} {c : LaneChange} {news : List Int} {t gap : Int} (old : Option Int) {u : State} (pos : 0 < u.work .cutMinSep)
    (queue : u.planner.queue = cutEntries r 0 news) (limit : u.planner.limit = none) (own : c.owner.serial = r.serial)
    (apart : news.Pairwise (fun x y => x + u.work .cutMinSep ≤ y)) (least : ∀ x ∈ news, t ≤ x) (sep : u.work .cutMinSep ≤ gap) :
    place old { cut := none, lane := some c, trigger := t - gap } u = setQueue ({ cut := none, lane := some c, trigger := t - gap } :: cutEntries r 0 news) u := by
  rw [place_of_clear ?_ pos ?_ ?_, putAt_first ?_]
  · rw [queue]
  · intro d hd
    rw [queue] at hd
    have := least _ (mem_cutEntries hd).1
    show t - gap < d.trigger
    omega
  · rw [queue]; exact strict_cutEntries pos r 0 apart
  · intro d hd
    rw [queue] at hd
    have := least _ (mem_cutEntries hd).1
    obtain ⟨⟨x, n⟩, -, rfl⟩ := List.mem_map.mp hd
    refine not_meets_own ⟨.inl rfl, rfl, c.owner.serial, rfl, _, rfl, own.symm⟩ ?_
    have : t ≤ x := this
    show u.work .cutMinSep ≤ (x - (t - gap)).natAbs
    omega
  · rw [limit]; exact nofun

/-! ### The refresh of a panel that waits to be cut (R93, R94, R106) -/

/-- The unit with the record of a panel replaced, and the queue. -/
def refreshedTo (s : State) (q : Panel) (es : List Entry) : State :=
  { s with
    panels := s.panels.map (fun o => if o.serial = q.serial then q else o)
    planner := { s.planner with queue := es, target := es.head?.map (·.trigger) } }

/-- The panel `p` of the list, committed, with the triggers `olds`, can be refreshed (R91). -/
structure Refreshable (s : State) (p : Panel) (b : Coord) (olds : List Int) : Prop where
  pos : 0 < s.work .cutMinSep
  found : s.panel? p.ref = some p
  only : ∀ q ∈ s.panels, q.serial = p.serial → q = p
  state : p.state = .committed ∨ p.state = .cutting
  head : p.bHead = some b
  triggers : p.triggers = some olds
  long : olds.length = p.cuts.length
  limit : s.planner.limit = none
  cycle : s.station.cycle ≠ .approach

/-- The triggers that a panel's new outfeed length gives (R89). -/
def newTriggers (s : State) (p : Panel) (b : Coord) (l : Length2) : List Int := p.cuts.map (triggerOf b.pos l.len p.lNom (s.work .dMk))

section
variable {s : State} {p : Panel} {b : Coord} {l : Length2} {olds : List Int} (h : Refreshable s p b olds)
include h

theorem Refreshable.refresh_of {u : State} (acted : applyTriggers p.ref (newTriggers s p b l) p (updPanel p.ref (fun q => { q with l2 := some l }) s) = u) :
    refresh p.ref l s = u :=
  (Machine.refresh_of h.found (by rcases h.state with x | x <;> rw [x] <;> exact nofun) h.head).trans acted

theorem Refreshable.later : p.state ≠ .atOutfeed := by rcases h.state with x | x <;> rw [x] <;> exact nofun

theorem Refreshable.recorded (ts : List Int) : updPanel p.ref (fun q => { q with triggers := some ts }) (updPanel p.ref (fun q => { q with l2 := some l }) s)
    = setPanel p.ref { p with l2 := some l, triggers := some ts } s := by
  rw [updPanel_of_only (s := s) (r := p.ref) h.only fun q => { q with l2 := some l }, updPanel_setPanel rfl]

theorem Refreshable.targeted (ps : List Panel) (es : List Entry) : targetUpdate { s with panels := ps, planner := { s.planner with queue := es } }
    = { s with panels := ps, planner := { s.planner with queue := es, target := es.head?.map (·.trigger) } } :=
  targetUpdate_of_no_approach (s := { s with panels := ps, planner := { s.planner with queue := es } }) h.cycle

theorem length_newTriggers (l : Length2) : (newTriggers s p b l).length = olds.length := by unfold newTriggers; rw [List.length_map, h.long]

/-- The free entries of a panel all go to its new triggers (R93, R94). -/
theorem Refreshable.refresh_cuts {m : Nat} (most : m ≤ olds.length) (queue : s.planner.queue = cutEntries p.ref m (olds.drop m))
    (apart : ((newTriggers s p b l).drop m).Pairwise (fun x y => x + s.work .cutMinSep ≤ y)) : refresh p.ref l s =
      refreshedTo s { p with l2 := some l, triggers := some (olds.take m ++ (newTriggers s p b l).drop m) } (cutEntries p.ref m ((newTriggers s p b l).drop m)) := by
  have long := length_newTriggers h l
  have same : ((cutEntries p.ref m (olds.drop m)).zip ((newTriggers s p b l).drop m)).map (·.1) = cutEntries p.ref m (olds.drop m) := by
    rw [List.map_fst_zip (by simp [length_cutEntries, long])]
  have gone : (cutEntries p.ref m (olds.drop m)).filter (fun e => !((cutEntries p.ref m (olds.drop m)).contains e || ([] : List Entry).contains e)) = [] :=
    List.filter_eq_nil_iff.mpr fun e he => by simp [he]
  have moved := placeMoved_cuts p.ref m (olds := olds.drop m) (news := (newTriggers s p b l).drop m) (by simp [long]) (held := [])
    (s := setQueue [] (setPanel p.ref { p with l2 := some l, triggers := some (olds.take m ++ (newTriggers s p b l).drop m) } s)) h.pos h.limit rfl apart
  refine h.refresh_of (applyTriggers_of h.later (es := servedFrom p.ref m (olds.drop m)) (ls := []) (olds.take m ++ (newTriggers s p b l).drop m)
    (u := setPanel p.ref { p with l2 := some l, triggers := some (olds.take m ++ (newTriggers s p b l).drop m) } s) ?_ ?_ ?_ (moves_servedFrom p.ref (by omega)) ?_ ?_ ?_)
  · refine served_eq long.symm (by omega) fun i => ?_
    show s.planner.queue.find? _ = _
    rw [queue, find?_cutEntries]
  · rw [h.triggers]; exact kept_servedFrom p.ref long.symm most
  · rw [judged_servedFrom, h.recorded]
  · have none : s.planner.queue.filter (laneMovesWith p.ref) = [] := by
      rw [queue]
      refine List.filter_eq_nil_iff.mpr fun e he => ?_
      obtain ⟨x, -, rfl⟩ := List.mem_map.mp he
      unfold laneMovesWith Entry.isLane cutEntry; simp
    exact ite_eq_right_iff.mpr fun _ => none
  · rw [List.filterMap_nil, List.append_nil, same]
    show targetUpdate (placeMoved _ (setQueue (s.planner.queue.filter _) _)) = _
    rw [queue, gone]
    exact (congrArg targetUpdate moved).trans (h.targeted _ _)
  · show s.planner.queue.length ≤ (cutEntries p.ref m ((newTriggers s p b l).drop m)).length
    rw [queue, length_cutEntries, length_cutEntries]; simp [long]

/-- A panel's LANE entry moves behind its cuts, D_SK ahead of the first (R106). -/
theorem Refreshable.refresh_lane {c : LaneChange} {g t : Int} {ts : List Int} (queue : s.planner.queue = { cut := none, lane := some c, trigger := g } :: cutEntries p.ref 0 olds)
    (own : c.owner.serial = p.serial) (news : newTriggers s p b l = t :: ts) (apart : (newTriggers s p b l).Pairwise (fun x y => x + s.work .cutMinSep ≤ y))
    (sep : s.work .cutMinSep ≤ s.work .dSk) : refresh p.ref l s =
      refreshedTo s { p with l2 := some l, triggers := some (newTriggers s p b l) }
        ({ cut := none, lane := some c, trigger := t - s.work .dSk } :: cutEntries p.ref 0 (newTriggers s p b l)) := by
  have long := length_newTriggers h l
  have least : ∀ x ∈ newTriggers s p b l, t ≤ x := by
    have pos := h.pos
    rw [news] at apart ⊢
    intro x hx
    rcases List.mem_cons.mp hx with rfl | hx
    · exact le_rfl
    · have := List.rel_of_pairwise_cons apart hx; omega
  have rides : laneMovesWith p.ref { cut := none, lane := some c, trigger := g } = true := by
    unfold laneMovesWith Entry.refreshable Entry.isLane; simp [own]; rfl
  have cuts : (cutEntries p.ref 0 olds).filter (laneMovesWith p.ref) = [] := by
    refine List.filter_eq_nil_iff.mpr fun e he => ?_
    obtain ⟨x, -, rfl⟩ := List.mem_map.mp he
    unfold laneMovesWith Entry.isLane cutEntry; simp
  have same : ((cutEntries p.ref 0 olds).zip (newTriggers s p b l)).map (·.1) = cutEntries p.ref 0 olds := by
    rw [List.map_fst_zip (by simp [length_cutEntries, long])]
  have gone : ({ cut := none, lane := some c, trigger := g } :: cutEntries p.ref 0 olds).filter
      (fun e => !((cutEntries p.ref 0 olds).contains e || [({ cut := none, lane := some c, trigger := g } : Entry)].contains e)) = [] :=
    List.filter_eq_nil_iff.mpr fun e he => by rcases List.mem_cons.mp he with rfl | he <;> simp [*]
  have moved := placeMoved_cuts p.ref 0 (olds := olds) (news := newTriggers s p b l) long.symm (held := [])
    (s := setQueue [] (setPanel p.ref { p with l2 := some l, triggers := some (newTriggers s p b l) } s)) h.pos h.limit rfl apart
  have ahead : place (some g) { cut := none, lane := some c, trigger := t - s.work .dSk }
      (setQueue (cutEntries p.ref 0 (newTriggers s p b l)) (setPanel p.ref { p with l2 := some l, triggers := some (newTriggers s p b l) } s))
      = setQueue ({ cut := none, lane := some c, trigger := t - s.work .dSk } :: cutEntries p.ref 0 (newTriggers s p b l))
        (setPanel p.ref { p with l2 := some l, triggers := some (newTriggers s p b l) } s) :=
    place_lane_ahead (some g) h.pos rfl h.limit own apart least sep
  refine h.refresh_of (applyTriggers_of h.later (es := servedFrom p.ref 0 olds) (ms := (cutEntries p.ref 0 olds).zip (newTriggers s p b l)) (ls := [{ cut := none, lane := some c, trigger := g }]) (newTriggers s p b l)
    (u := setPanel p.ref { p with l2 := some l, triggers := some (newTriggers s p b l) } s) ?_ ?_ ?_ (moves_servedFrom p.ref (m := 0) (by omega)) ?_ ?_ ?_)
  · refine served_eq (k := 0) long.symm (by omega) fun i => ?_
    show s.planner.queue.find? _ = _
    rw [queue, List.find?_cons_of_neg (by unfold Entry.cuts; simp), find?_cutEntries]
    rfl
  · rw [h.triggers]; exact kept_servedFrom p.ref (m := 0) long.symm (by omega)
  · rw [judged_servedFrom, h.recorded]
  · obtain ⟨z, zs, rfl⟩ := List.exists_cons_of_length_pos (l := olds) (by rw [← long, news]; exact Nat.succ_pos _)
    refine (if_pos rfl).trans ?_
    show s.planner.queue.filter _ = _
    rw [queue, List.filter_cons_of_pos rides, cuts]
  · rw [same]
    show targetUpdate (placeMoved (_ ++ _) (setQueue (s.planner.queue.filter _) _)) = _
    rw [queue, gone, news]
    rw [news] at moved ahead
    unfold placeMoved at moved ⊢
    rw [List.foldl_append]
    refine (congrArg (fun u => targetUpdate (List.foldl _ u _)) moved).trans ?_
    exact (congrArg targetUpdate ahead).trans (h.targeted _ _)
  · show s.planner.queue.length ≤ List.length (_ :: cutEntries p.ref 0 (newTriggers s p b l))
    rw [queue, List.length_cons, List.length_cons, length_cutEntries, length_cutEntries]; simp [long]

/-- A held entry of one cut: the new trigger is judged, and the entry stays (R93). -/
theorem Refreshable.refresh_held {e : Entry} {n : Nat} {new : Int} (queue : s.planner.queue = [e]) (cut : e.cut = some ⟨p.ref, n + 1⟩)
    (other : ∀ c ∈ e.partner, c.panel.serial ≠ p.serial) (news : (newTriggers s p b l)[n]? = some new) {ks : List Int}
    (held : (e.state = .settling ∨ e.state = .executing) ∧ ks = olds ∨ (e.state = .pending ∨ e.state = .active) ∧ e.partner.isSome = true ∧ ks = olds.set n new) :
    refresh p.ref l s = { s with
      panels := judgedCut s [p.serial] (e.trigger - new) (s.panels.map (fun o => if o.serial = p.serial then { p with l2 := some l, triggers := some ks } else o))
      planner := { s.planner with queue := [e], target := some e.trigger } } := by
  have long := length_newTriggers h l
  have inside : n < (newTriggers s p b l).length := by
    by_contra out
    rw [List.getElem?_eq_none (by omega)] at news
    exact absurd news nofun
  have serves (i : Nat) : e.cuts.any (fun c => c.panel.serial == p.serial && c.index == i + 1) = decide (i = n) := by
    unfold Entry.cuts
    rw [cut, Bool.eq_iff_iff]
    cases partner : e.partner with
    | none => simp; exact ⟨fun x => x.2.symm, fun x => ⟨rfl, x.symm⟩⟩
    | some c =>
      have apart : c.panel.serial ≠ p.serial := other c partner
      simp [apart]
      exact ⟨fun x => x.2.symm, fun x => ⟨rfl, x.symm⟩⟩
  have still : movesWith p.ref e = false := by
    unfold movesWith Entry.refreshable
    rcases held with ⟨state, -⟩ | ⟨-, partner, -⟩
    · rcases state with x | x <;> simp [x]
    · obtain ⟨c, partnered⟩ := Option.isSome_iff_exists.mp partner
      simp [partnered]
  have judges : e.fixed ∨ e.partner.isSome = true := by
    unfold Entry.fixed
    rcases held with ⟨state, -⟩ | ⟨-, partner, -⟩
    · exact .inl (decide_eq_true state)
    · exact .inr partner
  refine h.refresh_of (applyTriggers_of h.later (es := (List.range (newTriggers s p b l).length).map (fun i => if i = n then some e else none)) (ms := []) (ls := []) ks
    (u := { s with panels := judgedCut s [p.serial] (e.trigger - new) (s.panels.map (fun o => if o.serial = p.serial then { p with l2 := some l, triggers := some ks } else o)) })
    ?_ ?_ ?_ ?_ ?_ ?_ ?_)
  · refine List.map_congr_left fun i _ => ?_
    show s.planner.queue.find? _ = _
    rw [queue, List.find?_singleton]
    exact if_congr (by rw [show p.ref.serial = p.serial from rfl, serves, decide_eq_true_iff]) rfl rfl
  · rw [h.triggers, Option.getD_some]
    refine List.ext_getElem ?_ fun i hi _ => ?_
    · rcases held with ⟨-, rfl⟩ | ⟨-, -, rfl⟩ <;> simp [long]
    · rw [List.getElem_map, List.getElem_zip, List.getElem_zip, List.getElem_map, List.getElem_range]
      dsimp only
      rcases held with ⟨state, rfl⟩ | ⟨state, -, rfl⟩
      · have fixed : e.refreshable = false := by unfold Entry.refreshable; rcases state with x | x <;> simp [x]
        split
        · exact if_neg (by rw [Option.any_some, fixed]; exact nofun)
        · rfl
      · have free : e.refreshable = true := decide_eq_true state
        rw [List.getElem_set]
        by_cases here : i = n
        · subst here
          rw [if_pos rfl, if_pos rfl]
          exact (if_pos (by rw [Option.any_some, free])).trans (Option.some.inj ((List.getElem?_eq_getElem inside).symm.trans news))
        · rw [if_neg here, if_neg (Ne.symm here)]; rfl
  · rw [h.recorded]
    refine (foldl_of_single (n := n) (x := (some e, new)) ?_ ?_ _).trans ?_
    · refine List.getElem?_zip_eq_some.mpr ⟨?_, news⟩
      rw [List.getElem?_map, List.getElem?_range inside, Option.map_some, if_pos rfl]
    · intro i y hy ne u
      obtain ⟨which, -⟩ := List.getElem?_zip_eq_some.mp hy
      rw [List.getElem?_map] at which
      obtain ⟨j, hj, unserved⟩ := Option.map_eq_some_iff.mp which
      obtain ⟨_, place⟩ := List.getElem?_eq_some_iff.mp hj
      rw [List.getElem_range] at place
      rw [← place, if_neg ne] at unserved
      rw [← unserved]
      rfl
    · refine (if_pos judges).trans ((judgeCut_eq ..).trans ?_)
      rw [← judgedCut_comm, neg_sub]
      rfl
  · refine List.filterMap_eq_nil_iff.mpr fun x hx => ?_
    obtain ⟨i, -, which⟩ := List.mem_map.mp (List.of_mem_zip hx).1
    rw [← which]
    split
    · rw [Option.filter_some, if_neg (by rw [still]; exact nofun)]; rfl
    · rfl
  · refine ite_eq_right_iff.mpr fun _ => ?_
    show s.planner.queue.filter _ = _
    rw [queue]
    exact List.filter_eq_nil_iff.mpr fun d hd => by rw [List.mem_singleton.mp hd]; unfold laneMovesWith Entry.isLane; simp [cut]
  · have stays : s.planner.queue.filter (fun d => !((([] : List (Entry × Int)).map (·.1)).contains d || ([] : List Entry).contains d)) = [e] := by
      rw [queue]; simp
    show targetUpdate (setQueue (s.planner.queue.filter _) _) = _
    rw [stays]
    exact h.targeted _ _
  · show s.planner.queue.length ≤ 1
    rw [queue]; rfl

end

end Sys2Proof.Machine
end

section
/-!
Predictions and the Cut Planner, as Safety states them.
-/
namespace Sys2Proof.Machine

theorem headLength_of_head {p : Panel} {h : Coord} (head : p.aHead = some h) (s : Int) : headLength s p =
    ⟨match p.aTail with
      | some t => (t.pos - h.pos) + roundDiv ((t.pos - h.pos) * s) 1000000
      | none => p.lNom + roundDiv (p.lNom * s) 1000000, if p.aTail.isSome = true then .m1 else .nominal⟩ := by
  unfold headLength
  rw [head]
  cases p.aTail <;> rfl

theorem firstTrigger_eq {s : State} {r : PanelRef} {o : Panel} {t : Int} {ts : List Int} (found : s.panel? r = some o) (triggers : o.triggers = some (t :: ts)) :
    s.firstTrigger r = some t := by
  unfold State.firstTrigger
  rw [found, Option.bind_some, triggers]
  rfl

theorem nextCommit_of_room {s : State} {p : Panel} (found : s.panels.find? (fun q => decide (q.state.rank < 3)) = some p) (state : p.state = .atOutfeed)
    (room : p.cuts.length + 1 + s.planner.queue.length ≤ 32) : s.nextCommit = some p := by
  have fits : s.hasRoom p = true := by
    unfold State.hasRoom State.needs
    split <;> simp <;> omega
  rw [nextCommit_eq, found]
  exact if_pos ⟨state, fits⟩

/-- A panel's free entries go to its new triggers, whichever of its cuts is the first to come (R93). -/
theorem Refreshable.refresh_from {s : State} {p : Panel} {b : Coord} {l : Length2} {olds : List Int} (h : Refreshable s p b olds) {k : Nat}
    (queue : s.planner.queue = cutEntries p.ref k (olds.drop k))
    (apart : ((newTriggers s p b l).drop k).Pairwise (fun x y => x + s.work .cutMinSep ≤ y)) : refresh p.ref l s =
      refreshedTo s { p with l2 := some l, triggers := some (olds.take k ++ (newTriggers s p b l).drop k) } (cutEntries p.ref k ((newTriggers s p b l).drop k)) := by
  rcases Nat.le_total k olds.length with most | beyond
  · exact h.refresh_cuts most queue apart
  · have long := length_newTriggers h l
    have none (m : Nat) (hm : olds.length ≤ m) : olds.take m = olds ∧ olds.drop m = [] ∧ (newTriggers s p b l).drop m = [] :=
      ⟨List.take_of_length_le hm, List.drop_of_length_le hm, List.drop_of_length_le (by omega)⟩
    obtain ⟨take, old, new⟩ := none k beyond
    obtain ⟨take', old', new'⟩ := none olds.length le_rfl
    have all := h.refresh_cuts (l := l) (m := olds.length) le_rfl (by rw [queue, old, old']; rfl) (by rw [new']; exact .nil)
    rw [all, take, take', new, new']
    rfl

/-- Settles O53. -/
theorem predictionsAndTriggers : Obligations.PredictionsAndTriggers := by
  refine ⟨fun s r m a next => ?_, fun s p h c found head bHead only wait => ?_, fun s e old strict pos => ?_,
    fun s p t ts strict pos sk found state triggers all alone cycle room apart behind within => ?_,
    fun s p b l olds pos found only state head triggers long limit cycle => ?_, fun s => ?_⟩
  · refine ⟨fun ak bk anchor => ?_, fun k anchor loop => ?_⟩
    · rw [← predict_of_anchor anchor a]
      refine ⟨?_, ?_, ?_, ?_, ?_⟩ <;> rw [setExpect2_window next] <;> rfl
    · rw [← predict_of_k anchor loop a]
      refine ⟨?_, ?_, ?_, ?_, ?_⟩ <;> rw [setExpect2_window next] <;> rfl
  · refine (planHead_of_full only bHead fun q first out => ?_).trans ?_
    · rw [lanesToBe_eq]; exact wait q first out
    · rw [headLength_of_head head]; rfl
  · refine ⟨fun clear within => place_of_clear strict.1 pos clear within, fun clear beyond => place_of_beyond clear beyond, fun c mem meets before => ⟨?_, ?_⟩⟩
    · intro n cut lane partner
      have counts : Counts s old e e.trigger c := ⟨mem, meets, before⟩
      exact ⟨fun b free held alone other => place_merges strict counts cut lane free held alone other, fun free held => place_rides strict counts cut lane free held,
        fun full clear within => place_pushes_cut strict counts pos cut lane full clear within⟩
    · intro l o t ts cut lane owner triggers
      have counts : Counts s old e e.trigger c := ⟨mem, meets, before⟩
      have first := firstTrigger_eq owner triggers
      exact ⟨fun free cuts plain => place_carried strict counts cut lane first free cuts plain,
        fun full clear within => place_pushes_lane strict counts cut lane first pos full clear within⟩
  · have h : CommitsBehind s p t ts := ⟨strict, pos, sk, triggers, all, cycle, room, apart, behind, within⟩
    have next := nextCommit_of_room found state room
    have commits {q : List Entry} (commit : commitPanel p s = { s with
        panels := committedPanels p.serial s.panels, planner := { s.planner with queue := q, target := q.head?.map (·.trigger) } }) :=
      tryCommits_of_commit next alone commit
    refine ⟨fun same => ?_, fun ds d change queue cut plain waits clear => ?_, fun change queue sep => ?_⟩
    · exact commits (h.commitPanel_eq _ (.inl ⟨same.trans (lanesToBe_eq s).symm, rfl⟩))
    · exact commits (h.commitPanel_eq _ (.inr ⟨fun x => change (x.trans (lanesToBe_eq s)), h.lane_rides queue cut plain waits clear⟩))
    · exact commits (h.commitPanel_eq _ (.inr ⟨fun x => change (x.trans (lanesToBe_eq s)), h.lane_ahead queue sep⟩))
  · have h : Refreshable s p b olds := ⟨pos, found, only, state, head, triggers, long, limit, cycle⟩
    refine ⟨fun k queue apart => ?_, fun c g t queue own first apart sep => ?_, fun e n new queue cut other news => ⟨fun fixed => ?_, fun free partnered => ?_⟩⟩
    · refine (h.refresh_from (queue.trans (cutEntries_drop p.ref k olds)) apart).trans ?_
      rw [← cutEntries_drop]
      rfl
    · obtain ⟨ts, news⟩ := List.head?_eq_some_iff.mp first
      exact h.refresh_lane queue own news apart sep
    · exact h.refresh_held queue cut other news (.inl ⟨fixed, rfl⟩)
    · exact h.refresh_held queue cut other news (.inr ⟨free, partnered, rfl⟩)
  · refine ⟨fun cycle => targetUpdate_of_no_approach cycle, fun e es cycle queue target => ?_, fun e es m o cycle queue target other moving feeds ahead => ⟨fun reach => ?_, fun back near => ?_⟩,
      fun m o cycle queue target moving => ?_⟩
    · refine (targetUpdate_same cycle queue target).trans ?_
      rw [← target]
      rfl
    · exact (targetUpdate_new cycle queue target other).trans (approachTarget_runs
        (s := { s with planner := { s.planner with queue := marked e es, target := some e.trigger } }) moving feeds ahead reach)
    · exact (targetUpdate_new cycle queue target other).trans (approachTarget_stops
        (s := { s with planner := { s.planner with queue := marked e es, target := some e.trigger } }) moving back near)
    · refine (targetUpdate_emptied cycle queue target).trans ?_
      unfold takeOverMove
      dsimp only [clearRecords, setCycle]
      rw [moving]
      rfl

end Sys2Proof.Machine
end
